-- ==== Sys2Proof/Word.lean ====
section
/-! DEFINITION. The bytes of the serial links and the fixed-length tables of the store.

A table is a `Vector`; `tget`, `tset`, `tmod` and `tmap` are its only accessors in the model, so that a lemma about them
serves every table. They are plain list recursion underneath, which Lean's kernel evaluates. -/

namespace Sys2Proof

/-- A byte of a link frame. -/
abbrev Byte := BitVec 8

/-- A two-byte operand or result, most significant byte first on the link (11.6). -/
abbrev Half := BitVec 16

/-- A three-byte operand or result (11.6). -/
abbrev Triple := BitVec 24

/-- Entry `i` of a table. -/
def tget {α : Type} {n : Nat} (v : Vector α n) (i : Fin n) : α := v[i.val]

/-- The table with entry `i` replaced. -/
def tset {α : Type} {n : Nat} (v : Vector α n) (i : Fin n) (x : α) : Vector α n := v.set i.val x

/-- The table with entry `i` changed by `f`. -/
def tmod {α : Type} {n : Nat} (v : Vector α n) (i : Fin n) (f : α → α) : Vector α n := tset v i (f (tget v i))

/-- The table in which every entry is changed by `f`, which is given the entry's number. -/
def tmap {α β : Type} {n : Nat} (f : Fin n → α → β) (v : Vector α n) : Vector β n :=
  ⟨⟨List.ofFn fun i => f i (tget v i)⟩, by simp⟩

/-- The numbers of a table's entries that satisfy `p`, in ascending order. -/
def tfind {α : Type} {n : Nat} (p : Fin n → α → Bool) (v : Vector α n) : List (Fin n) :=
  (List.finRange n).filter fun i => p i (tget v i)

/-- The high byte of a two-byte number. -/
def hiByte (h : Half) : Byte := h.extractLsb' 8 8

/-- The low byte of a two-byte number. -/
def loByte (h : Half) : Byte := h.extractLsb' 0 8

end Sys2Proof
end

