-- ==== Sys2Proof/Config.lean ====
section
/-! DEFINITION. What the manual fixes for every XC512 (the times and capacities its rules state) and the one value it
leaves open. Times are milliseconds unless a name says steps (a metering step is 100 ms). -/

namespace Sys2Proof.Config

/-- R20: the scan phase of the Time Base. -/
def scanPhase : Nat := 4

/-- R30: places in the Originating Queue. -/
def queuePlaces : Nat := 32

/-- R23: the wait timer of a waiting or deferred terminal. -/
def waitTime : Nat := 60000

/-- R3, section 3.5: the FIRST_DIGIT timer. -/
def firstDigitTime : Nat := 20000

/-- R50: the INTERDIGIT timer. -/
def interdigitTime : Nat := 15000

/-- R50: the END_OF_DIALING timer. -/
def endOfDialingTime : Nat := 4000

/-- R7: the TONE timer. -/
def toneTime : Nat := 30000

/-- R115: the RING timer. -/
def ringTime : Nat := 90000

/-- R121: the ANSWER_WAIT timer. -/
def answerWaitTime : Nat := 120000

/-- R125: the CALLED_RELEASE timer. -/
def calledReleaseTime : Nat := 60000

/-- R46: a break of this length is a clear. -/
def clearBreak : Nat := 400

/-- R44: the shortest break counted as a pulse. -/
def shortestPulse : Nat := 24

/-- R44: the longest break counted as a pulse. -/
def longestPulse : Nat := 100

/-- R47: a make of this length ends a digit. -/
def digitEndMake : Nat := 160

/-- R126: the clear timer's length at which the far end of an incoming trunk has released it. -/
def incomingClearTime : Nat := 400

/-- R59, R66: the digits a register's digit list can hold. -/
def maxDigits : Nat := 14

/-- R98: the drive completion limit. -/
def driveLimit : Nat := 250

/-- R178: the handling limit. -/
def handlingLimit : Nat := 3000

/-- R179: the strike count from which a strike fences the port. -/
def fencingStrikes : Nat := 3

/-- R179: the greatest strike count. -/
def maxStrikes : Nat := 255

/-- R120: the phases of a pulse sender. -/
def leadPause : Nat := 300
/-- R120. -/
def senderBreak : Nat := 66
/-- R120. -/
def senderMake : Nat := 34
/-- R120. -/
def digitPause : Nat := 800

/-- R150: a meter's greatest value; R142: a meter context's greatest duration. -/
def maxMeter : Nat := 16777215

/-- R140: the greatest number of units a call counts. -/
def maxUnits : Nat := 65535

/-- R157: the sweep's completion falls this long after Take Snapshot. -/
def sweepTime : Nat := 20

/-- R161: places in the Ticket Queue, stored tickets and reservations together. -/
def ticketPlaces : Nat := 64

/-- R162: the total at which TICKETS_HIGH is posted. -/
def ticketsHigh : Nat := 56

/-- FREE VALUE (log entry 7). R99 says an element that appears in a completion with GOOD is good and one that appears
with BAD is bad; it does not say which holds for an element that appears with both. The first argument is the model's
count of such draws, the second the element's number. -/
opaque contradictoryCheckGood : Nat → Nat → Bool

end Sys2Proof.Config
end

