-- ==== Sys2Proof/Syntax.lean ====
section
/-! DEFINITION. The commands, operations and events of the XC512: one constructor of `Instr` for each row of
spec/opcode_table.json, and the types of their operands.

A command from a link carries its port and its operands as the frame carries them (11.5, 11.6): raw bytes, two-byte and
three-byte numbers, so that an operand out of range or a code that names no value can be given and is refused by the
command's own rule. The row of a command is the end mark of its frame; FRAME_START_MARK is the start mark of a frame with the bytes
that follow it up to the next mark. An event names the unit it concerns by its number. -/

namespace Sys2Proof

/-- The two control processors, and so the two controller ports. -/
inductive Side where
  | a | b
  deriving DecidableEq, Repr

/-- The other controller port. -/
def Side.other : Side → Side
  | .a => .b
  | .b => .a

/-- The three link ports (R189). -/
inductive Port where
  | controller (x : Side)
  | billing
  deriving DecidableEq, Repr

/-- Line equipment number. -/
abbrev LineNo := Fin 512
/-- Incoming trunk terminal number. -/
abbrev TrunkNo := Fin 16
/-- Outgoing trunk number. -/
abbrev OutNo := Fin 32
/-- Call register number. -/
abbrev RegNo := Fin 40
/-- Dial receiver number. -/
abbrev ReceiverNo := Fin 12
/-- Pulse sender number. -/
abbrev SenderNo := Fin 6
/-- Network element number (R76). -/
abbrev ElemNo := Fin 352

/-- A subscriber line or an incoming trunk terminal. -/
inductive Terminal where
  | line (n : LineNo)
  | trunk (i : TrunkNo)
  deriving DecidableEq, Repr

/-- A subject of the Attention Unit: a call register or the maintenance subject M. -/
inductive Subject where
  | register (r : RegNo)
  | maintenance
  deriving DecidableEq, Repr

/-- The kinds of crosspoint order, in the order of R96. -/
inductive OrderKind where
  | operate | release | networkClear
  deriving DecidableEq, Repr

/-- One sample set of the scan interface (R20). A terminal named in `closed` samples CLOSED and every other OPEN; a line in
`grounded` samples GROUND and every other NO_GROUND; an outgoing trunk in `reversed` samples REVERSED and every other
NORMAL. -/
structure SampleSet where
  closed : List Terminal
  grounded : List LineNo
  reversed : List OutNo
  deriving DecidableEq, Repr

/-- An expiry that may fall at a scan phase. -/
inductive Expiry where
  | dialTimeout (r : RegNo)
  | endOfDialing (r : RegNo)
  | wait (t : Terminal)
  | tone (r : RegNo)
  | ring (r : RegNo)
  | answerWait (r : RegNo)
  | calledRelease (r : RegNo)
  | incomingClear (i : TrunkNo)
  deriving DecidableEq, Repr

/-- One thing taken within a scan phase: an expiry, the clear or digit end a receiver's time advance has reached, an
accepted loop change of a terminal, or an accepted answer change of an outgoing trunk. The manual lets several of them be
taken in either order (R8, R25, R46, R51, R52, R117, R123, R125, R126); a scan phase's `schedule` operand says which order
this one takes (log entry 4). -/
inductive ScanItem where
  | expiry (e : Expiry)
  | receiver (k : ReceiverNo)
  | change (t : Terminal)
  | answerChange (o : OutNo)
  deriving DecidableEq, Repr

/-- A completion from the crosspoint-drive interface (R99): the order's kind and tag, and a check result for each element
named, `true` for GOOD. -/
structure Completion where
  kind : OrderKind
  tag : Byte
  results : List (Half × Bool)
  deriving DecidableEq, Repr

/-- A start mark on a link, with the bytes that follow it up to the next mark (R189). -/
structure FrameStart where
  port : Port
  bytes : List Byte
  deriving DecidableEq, Repr

/-- Why a frame is discarded without being judged (R189): it is cut off by the start mark of a new frame, whose bytes follow the mark,
or it ends while a response is still being sent. -/
inductive DiscardCause where
  | cutOff (bytes : List Byte)
  | endedWhileAnswering
  deriving DecidableEq, Repr

/-- The levels of the lines into the part when a power-up restart completes, `true` for asserted (R187, R194). -/
structure LineLevels where
  restart : Bool
  linkResetA : Bool
  linkResetB : Bool
  linkResetBilling : Bool
  deriving DecidableEq, Repr

/-- The thirteen bytes of a route entry as Write Route carries them (11.6). -/
structure RouteBytes where
  kind : Byte
  level : Byte
  zone : Byte
  ticketed : Byte
  primary : Byte
  alternate : Byte
  count : Byte
  digit1 : Byte
  digit2 : Byte
  digit3 : Byte
  digit4 : Byte
  strip : Byte
  total : Byte
  deriving DecidableEq, Repr

/-- The steps of the part, in the order of spec/opcode_table.json. -/
inductive Instr where
  | readRegister (port : Port) (register : Byte)
  | giveTone (port : Port) (register tone : Byte)
  | releaseCall (port : Port) (register : Byte)
  | writeLine (port : Port) (kind : Byte) (number : Half) (cls : Byte)
  | removeLine (port : Port) (kind : Byte) (number : Half)
  | readLine (port : Port) (kind : Byte) (number : Half)
  | blockReceiver (port : Port) (receiver : Byte)
  | unblockReceiver (port : Port) (receiver : Byte)
  | readReceiver (port : Port) (receiver : Byte)
  | probeAccess (port : Port) (kind : Byte) (number : Half) (route : Byte)
  | writeNodeSlot (port : Port) (node digit contentKind contentNumber : Byte)
  | writeRoute (port : Port) (route : Byte) (entry : RouteBytes)
  | writeDirectory (port : Port) (slot : Half) (kind : Byte) (equipment : Half) (party : Byte)
  | clearTranslations (port : Port)
  | setIncomingRoot (port : Port) (node : Byte)
  | readNode (port : Port) (node : Byte)
  | readRoute (port : Port) (route : Byte)
  | readDirectory (port : Port) (slot : Half)
  | huntPath (port : Port) (register : Byte)
  | seizeElement (port : Port) (element : Half)
  | returnElement (port : Port) (element : Half)
  | assignTrunkGroup (port : Port) (trunk group : Byte)
  | readElement (port : Port) (element : Half)
  | readOrders (port : Port)
  | ring (port : Port) (register : Byte)
  | send (port : Port) (register : Byte)
  | blockSender (port : Port) (sender : Byte)
  | unblockSender (port : Port) (sender : Byte)
  | readSender (port : Port) (sender : Byte)
  | writeTariffCell (port : Port) (zone band u0 : Byte) (period : Half) (fraction : Byte)
  | applyTariffs (port : Port)
  | selectBand (port : Port) (band : Byte)
  | setClock (port : Port) (day minute : Half)
  | readTariffCell (port : Port) (table zone band : Byte)
  | readTariffStatus (port : Port)
  | readMeterContext (port : Port) (register : Byte)
  | readMeter (port : Port) (equipment : Half) (party : Byte)
  | adjustMeter (port : Port) (equipment : Half) (party : Byte) (n : Half)
  | presetMeter (port : Port) (equipment : Half) (party : Byte) (value : Triple)
  | takeSnapshot (port : Port)
  | readSnapshot (port : Port) (block : Byte)
  | releaseSnapshot (port : Port)
  | readTicket (port : Port)
  | removeTicket (port : Port) (sequence : Half)
  | readTicketStatus (port : Port)
  | setDirectoryDigit (port : Port) (digit : Byte)
  | takeEvent (port : Port)
  | done (port : Port) (subject : Byte)
  | setAttention (port : Port) (setting : Byte)
  | fenceOther (port : Port)
  | admitOther (port : Port)
  | readPortStatus (port : Port)
  | initialise (port : Port)
  | restart (port : Port)
  | badFrame (port : Port)
  | unknownCommand (port : Port)
  | frameDiscarded (port : Port) (cause : DiscardCause)
  | scanSampleSet (samples : SampleSet) (schedule : List ScanItem)
  | clear (receiver : ReceiverNo)
  | digitEnd (receiver : ReceiverNo)
  | dialTimeout (register : RegNo)
  | endOfDialingExpiry (register : RegNo)
  | waitTimerExpiry (terminal : Terminal)
  | deferredPromotion
  | queueHeadService
  | toneTimerExpiry (register : RegNo)
  | orderTake
  | driveCompletion (completion : Completion)
  | driveCompletionLimitExpiry
  | senderPhaseEnd (sender : SenderNo)
  | ringTimerExpiry (register : RegNo)
  | answerWaitExpiry (register : RegNo)
  | calledReleaseExpiry (register : RegNo)
  | incomingClearTimerExpiry (trunk : TrunkNo)
  | meteringStepBoundary
  | periodExpiry (register : RegNo)
  | sweepReachesMeter
  | sweepCompletion
  | handlingLimitExpiry (subject : Subject)
  | powerUp (retained : Bool) (levels : LineLevels)
  | restartLineAsserted
  | linkResetAsserted (port : Port)
  | linkResetNegated (port : Port)
  | restartLineNegated
  | responseSent (port : Port)
  | frameStartMark (frame : FrameStart)
  deriving DecidableEq, Repr

end Sys2Proof
end

