-- ==== Sys2Proof/Machine/State.lean ====
section
/-! DEFINITION. The state of the XC512 as plain data, block by block, and the state after reset.

A field that the manual calls present in some states and absent in others is an `Option` (or an argument of the
constructor for those states). Lists stand for the queues, oldest or head first. `State.reset` is the state right after a
cold start at power-up (R18, R38, R56, R75, R94, R109, R129, R148, R169, R170, R186, R194). -/

namespace Sys2Proof.Machine

/-! ### Chapter 2: lines and trunks -/

/-- A loop state or loop sample (R20, R21). -/
inductive Loop where
  | opened | closed
  deriving DecidableEq, Repr

/-- The opposite loop state. -/
def Loop.flip : Loop → Loop
  | .opened => .closed
  | .closed => .opened

/-- A party of a line. -/
inductive Party where
  | a | b
  deriving DecidableEq, Repr

/-- The classes of line (section 2.4). -/
inductive LineClass where
  | ordinary | twoParty | coin | restricted | service
  deriving DecidableEq, Repr

/-- The states of a line (section 2.2). -/
inductive LineState where
  | outOfService | idle | waiting | deferred | originating | termReserved | termRinging | termBusy | lockout
  deriving DecidableEq, Repr

/-- The states of an incoming trunk terminal (section 2.2). -/
inductive TrunkState where
  | outOfService | idle | waiting | deferred | busy | lockout
  deriving DecidableEq, Repr

/-- The last three samples of a filter (R21). -/
structure Held (α : Type) where
  oldest : α
  middle : α
  newest : α
  deriving DecidableEq, Repr

/-- The record of one line (section 2.1, R36). `grounds` holds the party-ground samples, `true` for GROUND. -/
structure LineRec where
  cls : LineClass
  state : LineState
  register : Option RegNo
  originParty : Option Party
  earlyOffHook : Option Bool
  waitTimer : Option Nat
  accepted : Loop
  samples : Held Loop
  grounds : Held Bool
  deriving DecidableEq, Repr

/-- The record of one incoming trunk terminal (section 2.2, R36). -/
structure TrunkRec where
  state : TrunkState
  register : Option RegNo
  waitTimer : Option Nat
  accepted : Loop
  samples : Held Loop
  deriving DecidableEq, Repr

/-- The answer filter of one outgoing trunk (R37), `true` for REVERSED. -/
structure AnswerFilter where
  accepted : Bool
  samples : Held Bool
  deriving DecidableEq, Repr

/-- The origin of a call (R1), and an entry of the Originating Queue or the Deferred Set: a terminal and, for a line, the
party decided for it (R22, R30). -/
inductive Origin where
  | line (n : LineNo) (party : Party)
  | trunk (i : TrunkNo)
  deriving DecidableEq, Repr

/-- The terminal of an origin. -/
def Origin.terminal : Origin → Terminal
  | .line n _ => .line n
  | .trunk i => .trunk i

/-- What the Line Scanner holds. `deferred` is a set kept in the order in which R31 promotes: trunks ascending, then lines
ascending. -/
structure Scanner where
  lines : Vector LineRec 512
  trunks : Vector TrunkRec 16
  answers : Vector AnswerFilter 32
  queue : List Origin
  deferred : List Origin
  deriving DecidableEq, Repr

/-! ### Chapter 3: dial receivers -/

/-- The loop phase of an attached receiver, with the break time in phase BREAK (R40). -/
inductive DialPhase where
  | make
  | brk (breakTime : Nat)
  deriving DecidableEq, Repr

/-- What an attached receiver holds (R40). -/
structure Attachment where
  blockAfterUse : Bool
  register : RegNo
  phase : DialPhase
  pulses : Nat
  makeTime : Nat
  dialTone : Bool
  deriving DecidableEq, Repr

/-- A dial receiver (R40). -/
inductive Receiver where
  | free
  | attached (a : Attachment)
  | blocked
  deriving DecidableEq, Repr

/-! ### Chapter 4: translation -/

/-- A dialled digit. -/
abbrev Digit := Fin 10
/-- A translation node number. -/
abbrev NodeNo := Fin 128
/-- A route number. -/
abbrev RouteNo := Fin 48
/-- A trunk group number. -/
abbrev GroupNo := Fin 8
/-- A zone. -/
abbrev Zone := Fin 8

/-- The content of a slot of a translation node (R57). -/
inductive Slot where
  | vacant
  | node (n : NodeNo)
  | route (r : RouteNo)
  deriving DecidableEq, Repr

/-- A line equipment number with a party: a destination, a directory content, a charged meter. -/
structure Subscriber where
  line : LineNo
  party : Party
  deriving DecidableEq, Repr

/-- A route's entry, each kind with the fields it has (R61). -/
inductive RouteEntry where
  | invalid
  | localCall (level : Fin 4) (zone : Zone)
  | outgoing (level : Fin 4) (zone : Zone) (ticketed : Bool) (primary : GroupNo) (alternate : Option GroupNo)
      (prefixDigits : List Digit) (strip total : Nat)
  deriving DecidableEq, Repr

/-- A route of the route table with its reference count (R61, R64). -/
structure Route where
  entry : RouteEntry
  refCount : Nat
  deriving DecidableEq, Repr

/-- What the Translator holds. A node's slots are indexed by the digit's value, digit 0 at index 0. -/
structure Translator where
  nodes : Vector (Vector Slot 10) 128
  routes : Vector Route 48
  directory : Vector (Option Subscriber) 1000
  incomingRoot : NodeNo
  deriving DecidableEq, Repr

/-! ### Chapter 5: the network -/

/-- The states of a network element, in the order of R78. -/
inductive ElemState where
  | free | reserved | operating | held | releasing | blocked | faulted | initialising
  deriving DecidableEq, Repr

/-- The Network Map with the trunk-group assignments and the hunt pointer (R76 to R80). -/
structure Network where
  elements : Vector ElemState 352
  groups : Vector (Option GroupNo) 32
  huntPointer : Fin 8
  deriving DecidableEq, Repr

/-- The elements of one call, each part present or absent (R1, R77): the O-link, the junctor or outgoing trunk, the
T-link. The path record is absent when every part is. -/
structure Path where
  oLink : Option ElemNo
  middle : Option ElemNo
  tLink : Option ElemNo
  deriving DecidableEq, Repr

/-- The absent path record. -/
def Path.empty : Path := ⟨none, none, none⟩

/-- The elements a path record names: O-link, junctor or outgoing trunk, T-link. The manual names the set; the order is the model's
(log entry 21, DESIGN CHOICE). -/
def Path.elements (p : Path) : List ElemNo := p.oLink.toList ++ p.middle.toList ++ p.tLink.toList

/-! ### Chapter 6: crosspoint orders -/

/-- A crosspoint order (R96). -/
inductive Order where
  | operate (r : RegNo)
  | release (r : RegNo)
  | networkClear
  deriving DecidableEq, Repr

/-- The kind of an order. -/
def Order.kind : Order → OrderKind
  | .operate _ => .operate
  | .release _ => .release
  | .networkClear => .networkClear

/-- The register of an order, if it has one. -/
def Order.register : Order → Option RegNo
  | .operate r => some r
  | .release r => some r
  | .networkClear => none

/-- The order in flight (R96). -/
structure InFlight where
  order : Order
  tag : BitVec 8
  elements : List ElemNo
  time : Nat
  cancelled : Bool
  deriving DecidableEq, Repr

/-- What the Crosspoint Order Unit holds (R96). -/
structure OrderUnit where
  queue : List Order
  inFlight : Option InFlight
  tag : BitVec 8
  lastTimeout : Option (Order × BitVec 8)
  deriving DecidableEq, Repr

/-! ### Chapter 7: signalling -/

/-- The tones (R5). -/
inductive Tone where
  | busy | congestion | nu
  deriving DecidableEq, Repr

/-- The phases of a pulse sender (R118). -/
inductive SenderPhase where
  | leadPause | brk | make | digitPause
  deriving DecidableEq, Repr

/-- What a busy sender holds (R118). -/
structure Sending where
  blockAfterUse : Bool
  register : RegNo
  trunk : OutNo
  digits : List Digit
  position : Nat
  phase : SenderPhase
  pulsesLeft : Nat
  phaseTime : Nat
  deriving DecidableEq, Repr

/-- A pulse sender (R118). -/
inductive Sender where
  | free
  | busy (b : Sending)
  | blocked
  deriving DecidableEq, Repr

/-- The signal state of a line (R112): ringing alone is held with a party (log entry 24). -/
structure LineSignal where
  dialTone : Bool
  ringing : Option Party
  tone : Option Tone
  deriving DecidableEq, Repr

/-- The signal state of a pulse sender: the trunk it is joined to and its loop (R112). -/
structure SenderSignal where
  joined : Option OutNo
  loop : Loop
  deriving DecidableEq, Repr

/-- An order of the line-order interface, in the form that R112 gives it. DESIGN CHOICE (log entry 24): `toneOn`, `ringOff` and
`dialToneOff` carry no party, as in R112, although R7, R10 and R45 send them to a line and a party. -/
inductive LineOrder where
  | dialToneOn (n : LineNo)
  | dialToneOff (n : LineNo)
  | proceed (i : TrunkNo)
  | ringOn (n : LineNo) (party : Party)
  | ringOff (n : LineNo)
  | toneOn (t : Terminal) (tone : Tone)
  | toneOff (t : Terminal)
  | senderAttach (k : SenderNo) (o : OutNo)
  | senderLoop (k : SenderNo) (loop : Loop)
  | senderDetach (k : SenderNo)
  deriving DecidableEq, Repr

/-- What the Signalling Unit holds: the senders, the signal states (R112), the clear timers of the incoming trunk
terminals (R126), and the MODEL's own record of the orders sent on the line-order interface since the last cold start,
oldest first (log entry 5). -/
structure Signalling where
  senders : Vector Sender 6
  lineSignals : Vector LineSignal 512
  trunkTones : Vector (Option Tone) 16
  senderSignals : Vector SenderSignal 6
  clearTimers : Vector (Option Nat) 16
  sent : List LineOrder
  deriving DecidableEq, Repr

/-! ### Chapter 8: tariffs -/

/-- The tariff bands. -/
inductive Band where
  | day | evening | night
  deriving DecidableEq, Repr

/-- A tariff cell: U0, P and F (R130). -/
structure TariffCell where
  u0 : Fin 16
  period : Fin 65536
  fraction : Fin 16
  deriving DecidableEq, Repr

/-- What the Tariff Unit holds: both tables of 24 cells (entry 3 × zone + band), the current band, the tariff generation
(R130 to R134) and the exchange clock (R135). -/
structure TariffUnit where
  active : Vector TariffCell 24
  pending : Vector TariffCell 24
  band : Band
  generation : BitVec 8
  day : BitVec 16
  minute : Nat
  stepCount : Nat
  deriving DecidableEq, Repr

/-- A meter context (R138). -/
structure MeterContext where
  zone : Zone
  answerBand : Band
  answerDay : BitVec 16
  answerMinute : Nat
  band : Band
  cell : TariffCell
  generation : BitVec 8
  framePosition : Fin 16
  periodRemaining : Option Nat
  units : Nat
  duration : Nat
  tariffChanged : Bool
  meter : Option Subscriber
  deriving DecidableEq, Repr

/-! ### Chapter 1: call registers -/

/-- The states of a call register, in the order of R1. -/
inductive RegState where
  | free | dialing | translated | connecting | set | ringing | sending | awaitAnswer | talk | tone | clearing | ended
  deriving DecidableEq, Repr

/-- The tone causes, in the order of R1. -/
inductive ToneCause where
  | vacant | barred | congestion | digitError | noAnswer | ordered
  deriving DecidableEq, Repr

/-- The supervisory timers, in the order of R1. -/
inductive TimerKind where
  | firstDigit | interdigit | endOfDialing | ring | answerWait | calledRelease | tone
  deriving DecidableEq, Repr

/-- A running supervisory timer: its kind and the time remaining (R1, R4). -/
structure SupervisoryTimer where
  kind : TimerKind
  remaining : Nat
  deriving DecidableEq, Repr

/-- The end causes, in the order of R1. -/
inductive EndCause where
  | callingClear | farEndClear | calledRelease | forced | dialTimeout | toneTimeout | digitError | restart | abandoned
  deriving DecidableEq, Repr

/-- A call register (R1). The three Attention Unit fields of R1 stand in `Attention.subjects`. `directoryDigits` is the
number of directory digits collected since a LOCAL route result, which R65 counts and the table of R1 does not name (log
entry 6). -/
structure CallRegister where
  state : RegState
  origin : Option Origin
  digits : List Digit
  walkNode : Option NodeNo
  route : Option RouteNo
  directoryDigits : Nat
  destination : Option Subscriber
  path : Path
  receiver : Option ReceiverNo
  sender : Option SenderNo
  tone : Option (Tone × ToneCause)
  timer : Option SupervisoryTimer
  meter : Option MeterContext
  reservation : Bool
  endCause : Option EndCause
  deriving DecidableEq, Repr

/-- The FREE contents of a register (R1). -/
def CallRegister.free : CallRegister where
  state := .free
  origin := none
  digits := []
  walkNode := none
  route := none
  directoryDigits := 0
  destination := none
  path := Path.empty
  receiver := none
  sender := none
  tone := none
  timer := none
  meter := none
  reservation := false
  endCause := none

/-! ### Chapter 9: meters, snapshot, tickets -/

/-- A subscriber meter (R150), and a snapshot value (R155). -/
structure Meter where
  value : Nat
  full : Bool
  deriving DecidableEq, Repr

/-- The snapshot state, with the sweep position in SWEEPING (R155) and the milliseconds since Take Snapshot, which R157
measures (log entry 3). -/
inductive SnapshotState where
  | idle
  | sweeping (position : Nat) (time : Nat)
  | ready
  deriving DecidableEq, Repr

/-- What the Meter Store holds (R150, R155). Meter index 2 × equipment is party A's and 2 × equipment + 1 party B's. -/
structure MeterStore where
  meters : Vector Meter 1024
  fullCount : Nat
  snapshot : SnapshotState
  values : Vector Meter 1024
  marks : Vector Bool 1024
  snapshotDay : BitVec 16
  snapshotMinute : Nat
  deriving DecidableEq, Repr

/-- A ticket (R164). `number` is the directory slot of the calling directory number with the directory digit before it; when
it is absent the no-directory flag is set and the ticket carries `equipment`. -/
structure Ticket where
  sequence : BitVec 16
  number : Option (Digit × Fin 1000)
  equipment : LineNo
  party : Party
  digits : List Digit
  route : RouteNo
  zone : Zone
  answerBand : Band
  answerDay : BitVec 16
  answerMinute : Nat
  duration : Nat
  units : Nat
  tariffChanged : Bool
  deriving DecidableEq, Repr

/-- What the Ticket Queue holds (R161). -/
structure TicketQueue where
  stored : List Ticket
  reserved : Nat
  sequence : BitVec 16
  directoryDigit : Digit
  deriving DecidableEq, Repr

/-! ### Chapter 10: shared control -/

/-- The event kinds, in the order of their numbers in a pending set (11.6). -/
inductive EventKind where
  | translated | vacant | barred | congestion | digitError | dialTimeout | pathReady | pathFault
  | sent | answer | noAnswer | calledClear | cleared | handlerReturned | elementFault | driveTimeout
  | networkCleared | meterFull | ticketsHigh | lockout | handlerTimeout | peerFenced | restarted
  deriving DecidableEq, Repr

/-- A binding: the handler and the binding time (R171). -/
structure Binding where
  port : Side
  time : Nat
  deriving DecidableEq, Repr

/-- The fields the Attention Unit holds for a subject (R171). The handler is NONE and the binding time absent when there is
no binding. Bit k of `pending` is set when the kind numbered k is pending (11.6). -/
structure SubjectRec where
  binding : Option Binding
  pending : BitVec 24
  queued : Bool
  deriving DecidableEq, Repr

/-- What the Attention Unit holds for a controller port (R174, R179, R180). -/
structure ControllerPort where
  fenced : Bool
  strikes : Nat
  enabled : Bool
  deriving DecidableEq, Repr

/-- The kind and cause of the last restart (R184). -/
inductive RestartKind where
  | cold | warm
  deriving DecidableEq, Repr

/-- The causes of a restart, in the order of R184. -/
inductive RestartCause where
  | powerUp | initialise | restartCommand | restartLine
  deriving DecidableEq, Repr

/-- What the Attention Unit holds. `subjects` is indexed by the subject's code, register 0..39 and 40 for M. -/
structure Attention where
  subjects : Vector SubjectRec 41
  queue : List Subject
  portA : ControllerPort
  portB : ControllerPort
  lastTimeout : Option (Side × Subject)
  lastRestart : RestartKind × RestartCause
  deriving DecidableEq, Repr

/-! ### Chapter 11: link ports -/

/-- A frame being gathered (R189): its first sixteen bytes, and the count of the bytes beyond sixteen, which are not kept. -/
structure Frame where
  kept : List Byte
  excess : Nat
  deriving DecidableEq, Repr

/-- The state of a link port (R189): in RECEIVING with the frame being gathered, in ANSWERING with the bytes of the response being
sent and the frame that started meanwhile, if one did. -/
inductive LinkPhase where
  | ready
  | receiving (frame : Frame)
  | answering (response : List Byte) (frame : Option Frame)
  | heldInReset
  deriving DecidableEq, Repr

/-- A link port with the level of its link-reset line (R190), `true` for asserted. -/
structure LinkPort where
  phase : LinkPhase
  resetAsserted : Bool
  deriving DecidableEq, Repr

/-- The three link ports. -/
structure LinkPorts where
  a : LinkPort
  b : LinkPort
  billing : LinkPort
  deriving DecidableEq, Repr

/-! ### The whole part -/

/-- The state of the XC512. `restartLine` is the previous level of the RESTART line (R187), `true` for asserted. `draws` is
the MODEL's own count of free values drawn (log entry 7) and `pending` the MODEL's own queue of the steps that wait. -/
structure State where
  regs : Vector CallRegister 40
  scan : Scanner
  receivers : Vector Receiver 12
  trans : Translator
  net : Network
  orders : OrderUnit
  sig : Signalling
  tariff : TariffUnit
  store : MeterStore
  tickets : TicketQueue
  att : Attention
  links : LinkPorts
  restartLine : Bool
  draws : Nat
  pending : List Instr
  deriving DecidableEq, Repr

/-- Why a step stops with a fault. NO constructor: no step of this block faults. Every command is answered on its link and
every event either has its effect or, where its condition does not hold, does not happen (log entry 2). -/
inductive Fault where
  deriving DecidableEq, Repr

/-- Why a step is refused. -/
inductive Refusal where
  /-- A row of the table that has no meaning yet, by its mnemonic. Safe: the machine stops. No arm of `exec` answers it. -/
  | notModelled (mnemonic : String)
  deriving DecidableEq, Repr

/-! ### Reset -/

/-- A line after a cold start (R38). -/
def LineRec.cold : LineRec where
  cls := .ordinary
  state := .outOfService
  register := none
  originParty := none
  earlyOffHook := none
  waitTimer := none
  accepted := .opened
  samples := ⟨.opened, .opened, .opened⟩
  grounds := ⟨false, false, false⟩

/-- An incoming trunk terminal after a cold start (R38). -/
def TrunkRec.cold : TrunkRec where
  state := .outOfService
  register := none
  waitTimer := none
  accepted := .opened
  samples := ⟨.opened, .opened, .opened⟩

/-- The Line Scanner after a cold start (R38). -/
def Scanner.cold : Scanner where
  lines := Vector.replicate 512 LineRec.cold
  trunks := Vector.replicate 16 TrunkRec.cold
  answers := Vector.replicate 32 ⟨false, ⟨false, false, false⟩⟩
  queue := []
  deferred := []

/-- The Translator after a cold start (R75). -/
def Translator.cold : Translator where
  nodes := Vector.replicate 128 (Vector.replicate 10 .vacant)
  routes := Vector.replicate 48 ⟨.invalid, 0⟩
  directory := Vector.replicate 1000 none
  incomingRoot := 0

/-- The Network Map after a cold start (R94). -/
def Network.cold : Network where
  elements := Vector.replicate 352 .initialising
  groups := Vector.replicate 32 none
  huntPointer := 0

/-- A line to which no signal is applied. -/
def LineSignal.quiet : LineSignal := ⟨false, none, none⟩

/-- The Signalling Unit after a cold start (R129). -/
def Signalling.cold : Signalling where
  senders := Vector.replicate 6 .free
  lineSignals := Vector.replicate 512 LineSignal.quiet
  trunkTones := Vector.replicate 16 none
  senderSignals := Vector.replicate 6 ⟨none, .closed⟩
  clearTimers := Vector.replicate 16 none
  sent := []

/-- The Tariff Unit after a cold start (R148). -/
def TariffUnit.cold : TariffUnit where
  active := Vector.replicate 24 ⟨0, 0, 0⟩
  pending := Vector.replicate 24 ⟨0, 0, 0⟩
  band := .day
  generation := 0
  day := 0
  minute := 0
  stepCount := 0

/-- The Meter Store after a cold start (R169). -/
def MeterStore.cold : MeterStore where
  meters := Vector.replicate 1024 ⟨0, false⟩
  fullCount := 0
  snapshot := .idle
  values := Vector.replicate 1024 ⟨0, false⟩
  marks := Vector.replicate 1024 false
  snapshotDay := 0
  snapshotMinute := 0

/-- The Ticket Queue after a cold start (R170). -/
def TicketQueue.cold : TicketQueue := ⟨[], 0, 0, 0⟩

/-- A subject that is unbound and unqueued with nothing pending. -/
def SubjectRec.clear : SubjectRec := ⟨none, 0, false⟩

/-- The Attention Unit after a cold start (R186). -/
def Attention.cold (cause : RestartCause) : Attention where
  subjects := Vector.replicate 41 SubjectRec.clear
  queue := []
  portA := ⟨false, 0, false⟩
  portB := ⟨false, 0, false⟩
  lastTimeout := none
  lastRestart := (.cold, cause)

/-- A link port whose link-reset line stands at the level given when a power-up restart completes (R194). -/
def LinkPort.atPowerUp (resetAsserted : Bool) : LinkPort :=
  ⟨if resetAsserted then .heldInReset else .ready, resetAsserted⟩

/-- The state after a cold start at power-up: NETWORK_CLEAR is in flight with tag 1 (R109), the link-reset lines and the
RESTART line are negated (log entry 1), and no step waits. -/
def State.reset : State where
  regs := Vector.replicate 40 CallRegister.free
  scan := Scanner.cold
  receivers := Vector.replicate 12 .free
  trans := Translator.cold
  net := Network.cold
  orders := ⟨[], some ⟨.networkClear, 1, List.finRange 352, 0, false⟩, 1, none⟩
  sig := Signalling.cold
  tariff := TariffUnit.cold
  store := MeterStore.cold
  tickets := TicketQueue.cold
  att := Attention.cold .powerUp
  links := ⟨LinkPort.atPowerUp false, LinkPort.atPowerUp false, LinkPort.atPowerUp false⟩
  restartLine := false
  draws := 0
  pending := []

end Sys2Proof.Machine
end

