-- ==== Sys2Proof/Machine/Flags.lean ====
section
/-! DEFINITION. Levels, flags and numbers computed from the state: the attention and tickets-waiting lines, roles, the
access level, what a receiver or a filter has reached. None of them is held; each is read off the state. -/

namespace Sys2Proof.Machine

/-- Call register `r`. -/
def State.reg (s : State) (r : RegNo) : CallRegister := tget s.regs r
/-- Line `n`. -/
def State.line (s : State) (n : LineNo) : LineRec := tget s.scan.lines n
/-- Incoming trunk terminal `i`. -/
def State.trunk (s : State) (i : TrunkNo) : TrunkRec := tget s.scan.trunks i
/-- Element `e`. -/
def State.elem (s : State) (e : ElemNo) : ElemState := tget s.net.elements e
/-- Dial receiver `k`. -/
def State.receiver (s : State) (k : ReceiverNo) : Receiver := tget s.receivers k
/-- Pulse sender `k`. -/
def State.sender (s : State) (k : SenderNo) : Sender := tget s.sig.senders k
/-- Route `r`. -/
def State.route (s : State) (r : RouteNo) : Route := tget s.trans.routes r

/-- A subject's code: 0 to 39 for a register, 40 for M (11.6). -/
def subjectIndex : Subject → Fin 41
  | .register r => ⟨r.val, by omega⟩
  | .maintenance => 40

/-- The Attention Unit's fields of a subject. -/
def State.subject (s : State) (x : Subject) : SubjectRec := tget s.att.subjects (subjectIndex x)

/-- A subject's handler (R171). -/
def State.handler (s : State) (x : Subject) : Option Side := (s.subject x).binding.map (·.port)

/-- What the Attention Unit holds for a controller port. -/
def Attention.port (a : Attention) : Side → ControllerPort
  | .a => a.portA
  | .b => a.portB

/-- The link port of a port. -/
def LinkPorts.get (l : LinkPorts) : Port → LinkPort
  | .controller .a => l.a
  | .controller .b => l.b
  | .billing => l.billing

/-- R174: the level of a controller port's attention line. -/
def State.attentionLine (s : State) (x : Side) : Bool :=
  !s.att.queue.isEmpty && !(s.att.port x).fenced && (s.att.port x).enabled

/-- R161: the level of the tickets-waiting line. -/
def State.ticketsWaiting (s : State) : Bool := !s.tickets.stored.isEmpty

/-- Every subject, the registers in ascending number and M after register 39 (10.1). -/
def allSubjects : List Subject := (List.finRange 40).map .register ++ [.maintenance]

/-- R184: the number of subjects bound to a controller port. -/
def State.boundCount (s : State) (x : Side) : Nat := (allSubjects.filter fun j => s.handler j = some x).length

/-- R161: stored tickets plus reservations. -/
def State.ticketTotal (s : State) : Nat := s.tickets.stored.length + s.tickets.reserved

/-- A terminal's accepted loop state (R21). -/
def State.accepted (s : State) : Terminal → Loop
  | .line n => (s.line n).accepted
  | .trunk i => (s.trunk i).accepted

/-- The register a terminal's record names. -/
def State.named (s : State) : Terminal → Option RegNo
  | .line n => (s.line n).register
  | .trunk i => (s.trunk i).register

/-- R21: all three held samples show the value `x`. -/
def Held.allAre {α : Type} [DecidableEq α] (h : Held α) (x : α) : Bool := h.oldest = x && h.middle = x && h.newest = x

/-- R21: a new sample displaces the oldest. -/
def Held.shift {α : Type} (h : Held α) (x : α) : Held α := ⟨h.middle, h.newest, x⟩

/-- R21: the three held loop samples all show the state opposite to the accepted one. -/
def State.loopChangeDue (s : State) : Terminal → Bool
  | .line n => (s.line n).samples.allAre (s.line n).accepted.flip
  | .trunk i => (s.trunk i).samples.allAre (s.trunk i).accepted.flip

/-- R37: the three held answer samples all show the state opposite to the accepted one. -/
def State.answerChangeDue (s : State) (o : OutNo) : Bool :=
  (tget s.scan.answers o).samples.allAre (!(tget s.scan.answers o).accepted)

/-- R22: the party of an origination on a line. -/
def LineRec.originationParty (l : LineRec) : Party :=
  if l.cls = .twoParty ∧ 2 ≤ l.grounds.oldest.toNat + l.grounds.middle.toNat + l.grounds.newest.toNat then .b else .a

/-- R2: the terminal is named in the calling role by register `r`. -/
def State.callingRole (s : State) (r : RegNo) : Terminal → Bool
  | .line n => (s.line n).state = .originating && (s.line n).register = some r
  | .trunk i => (s.trunk i).state = .busy && (s.trunk i).register = some r

/-- R2: the line is named in the called role by register `r`. -/
def State.calledRole (s : State) (r : RegNo) (n : LineNo) : Bool :=
  ((s.line n).state = .termReserved || (s.line n).state = .termRinging || (s.line n).state = .termBusy) &&
    (s.line n).register = some r

/-- Section 2.4: the access level of a line class. -/
def LineClass.accessLevel : LineClass → Nat
  | .ordinary => 2
  | .twoParty => 2
  | .coin => 1
  | .restricted => 1
  | .service => 3

/-- R62: the access level of a terminal, 0 for an incoming trunk terminal. -/
def State.accessLevel (s : State) : Terminal → Nat
  | .line n => (s.line n).cls.accessLevel
  | .trunk _ => 0

/-- R46: the receiver's break time has reached 400 ms. -/
def Receiver.clearDue : Receiver → Bool
  | .attached ⟨_, _, .brk t, _, _, _⟩ => Config.clearBreak ≤ t
  | _ => false

/-- R47: the receiver's make time has reached 160 ms with pulses counted. -/
def Receiver.digitEndDue : Receiver → Bool
  | .attached ⟨_, _, .make, pulses, makeTime, _⟩ => Config.digitEndMake ≤ makeTime && 1 ≤ pulses
  | _ => false

/-- The register runs a timer of this kind and its remaining time has reached zero (R4). -/
def CallRegister.expired (g : CallRegister) (k : TimerKind) : Bool := g.timer = some ⟨k, 0⟩

/-- The wait timer of a terminal. -/
def State.waitTimer (s : State) : Terminal → Option Nat
  | .line n => (s.line n).waitTimer
  | .trunk i => (s.trunk i).waitTimer

/-- The terminal is WAITING or DEFERRED. -/
def State.awaitsService (s : State) : Terminal → Bool
  | .line n => (s.line n).state = .waiting || (s.line n).state = .deferred
  | .trunk i => (s.trunk i).state = .waiting || (s.trunk i).state = .deferred

/-- The lowest-numbered FREE register (R32). -/
def State.freeRegister (s : State) : Option RegNo := (tfind (fun _ g => decide (g.state = .free)) s.regs).head?

/-- The lowest-numbered FREE receiver (R32). -/
def State.freeReceiver (s : State) : Option ReceiverNo := (tfind (fun _ k => decide (k = .free)) s.receivers).head?

/-- The lowest-numbered FREE sender (R119). -/
def State.freeSender (s : State) : Option SenderNo := (tfind (fun _ k => decide (k = .free)) s.sig.senders).head?

/-- R68: a directory slot maps to this line and party. -/
def State.inDirectory (s : State) (x : Subscriber) : Bool :=
  !(tfind (fun _ d => decide (d = some x)) s.trans.directory).isEmpty

/-- Element numbers (R76). -/
def oLink (g : Fin 16) (s : Fin 8) : ElemNo := ⟨8 * g.val + s.val, by omega⟩
/-- R76. -/
def tLink (g : Fin 16) (s : Fin 8) : ElemNo := ⟨128 + 8 * g.val + s.val, by omega⟩
/-- R76. -/
def junctorElem (j : Fin 64) : ElemNo := ⟨256 + j.val, by omega⟩
/-- R76. -/
def outElem (o : OutNo) : ElemNo := ⟨320 + o.val, by omega⟩

/-- R77: the line group of a line. -/
def lineGroup (n : LineNo) : Fin 16 := ⟨n.val / 32, by omega⟩

/-- R76: the switch that an incoming trunk terminal enters. -/
def trunkSwitch (i : TrunkNo) : Fin 8 := ⟨i.val / 2, by omega⟩

/-- R80: the order in which a hunt examines the switches. -/
def huntOrder (p : Fin 8) : List (Fin 8) := (List.finRange 8).map fun k => p + k

/-- R78: the outgoing trunk of a path's middle element, if it is one. -/
def Path.trunk (p : Path) : Option OutNo :=
  match p.middle with
  | some e => if h : 320 ≤ e.val then some ⟨e.val - 320, by omega⟩ else none
  | none => none

/-- The register in whose path record an outgoing trunk stands (section 7.5). -/
def State.trunkRegister (s : State) (o : OutNo) : Option RegNo :=
  (tfind (fun _ g => decide (g.path.middle = some (outElem o))) s.regs).head?

/-- R150: the meter index of a subscriber. -/
def Subscriber.meterIndex (x : Subscriber) : Fin 1024 :=
  match x.party with
  | .a => ⟨2 * x.line.val, by omega⟩
  | .b => ⟨2 * x.line.val + 1, by omega⟩

/-- R130: the place of a zone and band in a tariff table. -/
def cellIndex (z : Zone) : Band → Fin 24
  | .day => ⟨3 * z.val, by omega⟩
  | .evening => ⟨3 * z.val + 1, by omega⟩
  | .night => ⟨3 * z.val + 2, by omega⟩

/-- R139: the four binary digits of c read in reverse order. -/
def rev4 (c : Fin 16) : Nat := 8 * (c.val % 2) + 4 * (c.val / 2 % 2) + 2 * (c.val / 4 % 2) + c.val / 8

/-- R139: the length in metering steps of the period at frame position c. -/
def TariffCell.length (cell : TariffCell) (c : Fin 16) : Nat :=
  if rev4 c < cell.fraction.val then cell.period.val + 1 else cell.period.val

/-- The length of the period that starts at frame position c, absent when the cell runs no period (R145). -/
def TariffCell.periodAt (cell : TariffCell) (c : Fin 16) : Option Nat :=
  if cell.period.val = 0 then none else some (cell.length c)

/-- The level, zone and ticketed flag of a route entry that has them (R61). -/
def RouteEntry.terms : RouteEntry → Option (Nat × Zone × Bool)
  | .invalid => none
  | .localCall level zone => some (level.val, zone, false)
  | .outgoing level zone ticketed _ _ _ _ _ => some (level.val, zone, ticketed)

/-- The entry is of kind LOCAL. -/
def RouteEntry.isLocal : RouteEntry → Bool
  | .localCall _ _ => true
  | _ => false

/-- The number of pulses of a digit: ten for digit 0 (R47, R120). -/
def digitPulses (d : Digit) : Nat := if d.val = 0 then 10 else d.val

/-- The entry of the route a register holds. -/
def State.routeEntry (s : State) (r : RegNo) : Option RouteEntry := (s.reg r).route.map fun t => (s.route t).entry

end Sys2Proof.Machine
end

