-- ==== Sys2Proof/Machine/Operands.lean ====
section
/-! DEFINITION. The operands of commands: what a code or number carried in a frame names (11.6). Each reader answers
`none` where the operand is out of range or names no value, which the command's rule refuses BAD_OPERAND (R191). -/

namespace Sys2Proof.Machine

/-- A number in the range 0 to n - 1. -/
def numbered (n : Nat) (x : Nat) : Option (Fin n) := if h : x < n then some ⟨x, h⟩ else none

/-- A tone: BUSY, CONGESTION, NU. -/
def toneOperand (b : Byte) : Option Tone :=
  match b.toNat with
  | 0 => some .busy
  | 1 => some .congestion
  | 2 => some .nu
  | _ => none

/-- A line class: ORDINARY to SERVICE. -/
def classOperand (b : Byte) : Option LineClass :=
  match b.toNat with
  | 0 => some .ordinary
  | 1 => some .twoParty
  | 2 => some .coin
  | 3 => some .restricted
  | 4 => some .service
  | _ => none

/-- A party: A, B. -/
def partyOperand (b : Byte) : Option Party :=
  match b.toNat with
  | 0 => some .a
  | 1 => some .b
  | _ => none

/-- A band: DAY, EVENING, NIGHT. -/
def bandOperand (b : Byte) : Option Band :=
  match b.toNat with
  | 0 => some .day
  | 1 => some .evening
  | 2 => some .night
  | _ => none

/-- ON or OFF, or a flag: 0 OFF or clear, 1 ON or set. -/
def flagOperand (b : Byte) : Option Bool :=
  match b.toNat with
  | 0 => some false
  | 1 => some true
  | _ => none

/-- A digit: 1 to 9 for digits 1 to 9, 10 for digit 0. -/
def digitOperand (b : Byte) : Option Digit :=
  if b.toNat = 10 then some 0 else if b.toNat = 0 then none else numbered 10 b.toNat

/-- A trunk group, or NONE as 255. The outer `none` is a code that names neither. -/
def groupOperand (b : Byte) : Option (Option GroupNo) :=
  if b.toNat = 255 then some none else (numbered 8 b.toNat).map some

/-- A terminal of kind LINE (0) or TRUNK (1). -/
def terminalOperand (kind : Byte) (number : Half) : Option Terminal :=
  match kind.toNat with
  | 0 => (numbered 512 number.toNat).map .line
  | 1 => (numbered 16 number.toNat).map .trunk
  | _ => none

/-- A subject: a register number, or 40 for M. -/
def subjectOperand (b : Byte) : Option Subject :=
  if b.toNat = 40 then some .maintenance else (numbered 40 b.toNat).map .register

/-- The content of a node's slot: VACANT (0), NODE (1), ROUTE (2); the number is not examined for VACANT. -/
def slotOperand (kind number : Byte) : Option Slot :=
  match kind.toNat with
  | 0 => some .vacant
  | 1 => (numbered 128 number.toNat).map .node
  | 2 => (numbered 48 number.toNat).map .route
  | _ => none

/-- A directory content: VACANT (0) or LINE (1); the equipment and party are checked for range in both. -/
def directoryOperand (kind : Byte) (equipment : Half) (party : Byte) : Option (Option Subscriber) :=
  match numbered 512 equipment.toNat, partyOperand party, kind.toNat with
  | some _, some _, 0 => some none
  | some n, some p, 1 => some (some ⟨n, p⟩)
  | _, _, _ => none

/-- A prefix: the first `count` of the four digit codes, each of which must be a digit. -/
def prefixOperand (e : RouteBytes) : Option (List Digit) :=
  if e.count.toNat ≤ 4 then
    ([e.digit1, e.digit2, e.digit3, e.digit4].take e.count.toNat).mapM digitOperand
  else none

/-- R71, checks 1 and 2: a route entry. For kind LOCAL the ticketed flag, groups, prefix, strip and total are checked for
range and not stored; for kind INVALID every field but the kind. -/
def routeOperand (e : RouteBytes) : Option RouteEntry :=
  match numbered 4 e.level.toNat, numbered 8 e.zone.toNat, flagOperand e.ticketed, numbered 8 e.primary.toNat,
      groupOperand e.alternate, prefixOperand e with
  | some level, some zone, some ticketed, some primary, some alternate, some digits =>
    if e.strip.toNat ≤ 14 ∧ e.total.toNat ≤ 14 then
      match e.kind.toNat with
      | 0 => some .invalid
      | 1 => if ticketed then none else some (.localCall level zone)
      | 2 => some (.outgoing level zone ticketed primary alternate digits e.strip.toNat e.total.toNat)
      | _ => none
    else none
  | _, _, _, _, _, _ => none

/-- The tariff table: ACTIVE (0), PENDING (1); `true` for PENDING. -/
def tableOperand (b : Byte) : Option Bool := flagOperand b

end Sys2Proof.Machine
end

