-- ==== Sys2Proof/Machine/Ops.lean ====
section
/-! DEFINITION. The shared operations over the state: changing one record, posting an event, sending a line order, the
Originating Queue, units charged to meters, tickets, detaching a receiver or a sender, entering TONE and ENDED, answer,
release, and the taking of an order. Each is total and follows the rule its docstring names. -/

namespace Sys2Proof.Machine

/-! ### One record -/

/-- Changes call register `r`. -/
def State.modReg (s : State) (r : RegNo) (f : CallRegister → CallRegister) : State := { s with regs := tmod s.regs r f }

/-- Changes line `n`. -/
def State.modLine (s : State) (n : LineNo) (f : LineRec → LineRec) : State :=
  { s with scan := { s.scan with lines := tmod s.scan.lines n f } }

/-- Changes incoming trunk terminal `i`. -/
def State.modTrunk (s : State) (i : TrunkNo) (f : TrunkRec → TrunkRec) : State :=
  { s with scan := { s.scan with trunks := tmod s.scan.trunks i f } }

/-- Sets dial receiver `k`. -/
def State.setReceiver (s : State) (k : ReceiverNo) (x : Receiver) : State := { s with receivers := tset s.receivers k x }

/-- Sets pulse sender `k`. -/
def State.setSender (s : State) (k : SenderNo) (x : Sender) : State :=
  { s with sig := { s.sig with senders := tset s.sig.senders k x } }

/-- Sets the state of element `e`. -/
def State.setElem (s : State) (e : ElemNo) (x : ElemState) : State :=
  { s with net := { s.net with elements := tset s.net.elements e x } }

/-- Sets the state of each element of a list. -/
def State.setElems (s : State) (es : List ElemNo) (x : ElemState) : State := es.foldl (fun t e => t.setElem e x) s

/-- Changes the Attention Unit's fields of a subject. -/
def State.modSubject (s : State) (x : Subject) (f : SubjectRec → SubjectRec) : State :=
  { s with att := { s.att with subjects := tmod s.att.subjects (subjectIndex x) f } }

/-- Replaces what the Attention Unit holds for a controller port. -/
def Attention.setPort (a : Attention) (x : Side) (p : ControllerPort) : Attention :=
  match x with
  | .a => { a with portA := p }
  | .b => { a with portB := p }

/-- Changes what the Attention Unit holds for a controller port. -/
def State.modPort (s : State) (x : Side) (f : ControllerPort → ControllerPort) : State :=
  { s with att := s.att.setPort x (f (s.att.port x)) }

/-- Sets the clear timer of an incoming trunk terminal (R126). -/
def State.setClearTimer (s : State) (i : TrunkNo) (x : Option Nat) : State :=
  { s with sig := { s.sig with clearTimers := tset s.sig.clearTimers i x } }

/-- Changes the reference count of a route (R64). -/
def State.modRefCount (s : State) (t : RouteNo) (f : Nat → Nat) : State :=
  { s with trans := { s.trans with
      routes := tmod s.trans.routes t fun r => { r with refCount := f r.refCount } } }

/-! ### Events (section 10.1) -/

/-- The bit of an event kind in a pending set (11.6). -/
def EventKind.code : EventKind → Nat
  | .translated => 0 | .vacant => 1 | .barred => 2 | .congestion => 3 | .digitError => 4 | .dialTimeout => 5
  | .pathReady => 6 | .pathFault => 7 | .sent => 8 | .answer => 9 | .noAnswer => 10 | .calledClear => 11
  | .cleared => 12 | .handlerReturned => 13 | .elementFault => 14 | .driveTimeout => 15 | .networkCleared => 16
  | .meterFull => 17 | .ticketsHigh => 18 | .lockout => 19 | .handlerTimeout => 20 | .peerFenced => 21
  | .restarted => 22

/-- The pending set that holds one kind. -/
def EventKind.bit (k : EventKind) : BitVec 24 := 1#24 <<< k.code

/-- The kind is in the subject's pending set. -/
def State.isPending (s : State) (x : Subject) (k : EventKind) : Bool := (s.subject x).pending.getLsbD k.code

/-- R173: a subject is appended at the tail of the Attention Queue while its queued flag is clear, which sets the flag. -/
def State.enqueue (s : State) (x : Subject) : State :=
  if (s.subject x).queued then s
  else
    { s with att := { s.att with
        queue := s.att.queue ++ [x]
        subjects := tmod s.att.subjects (subjectIndex x) fun j => { j with queued := true } } }

/-- R172: the kind is added to the subject's pending set, and the subject is appended if it is neither queued nor bound. -/
def State.post (s : State) (x : Subject) (k : EventKind) : State :=
  let t := s.modSubject x fun j => { j with pending := j.pending ||| k.bit }
  if (t.subject x).binding.isSome then t else t.enqueue x

/-- A binding is given back: the subject is unbound, HANDLER_RETURNED is added to its pending set, and it is appended at the
tail of the Attention Queue (R178, R180, R188). -/
def State.returnBinding (s : State) (x : Subject) : State :=
  (s.modSubject x fun j => { j with binding := none, pending := j.pending ||| EventKind.handlerReturned.bit }).enqueue x

/-- Every subject bound to a controller port is given back, in ascending subject order (R180, R188). -/
def State.returnBindings (s : State) (y : Side) : State :=
  allSubjects.foldl (fun t x => if t.handler x = some y then t.returnBinding x else t) s

/-- R180: fencing a controller port. -/
def State.fence (s : State) (y : Side) : State :=
  ((s.modPort y fun p => { p with fenced := true }).returnBindings y).post .maintenance .peerFenced

/-- R179: a strike against a controller port. -/
def State.strike (s : State) (y : Side) : State :=
  let t := s.modPort y fun p => { p with strikes := min Config.maxStrikes (p.strikes + 1) }
  if Config.fencingStrikes ≤ (t.att.port y).strikes ∧ !(t.att.port y.other).fenced then t.fence y else t

/-! ### The line-order interface (R112) -/

/-- An order goes out on the line-order interface. -/
def State.sendOrder (s : State) (o : LineOrder) : State := { s with sig := { s.sig with sent := s.sig.sent ++ [o] } }

/-- Changes the signal state of line `n`. -/
def State.modSignal (s : State) (n : LineNo) (f : LineSignal → LineSignal) : State :=
  { s with sig := { s.sig with lineSignals := tmod s.sig.lineSignals n f } }

/-- DIAL_TONE_ON or DIAL_TONE_OFF, not sent when the dial tone stands so already (R112). DESIGN CHOICE (log entry 24):
DIAL_TONE_OFF names the line alone, where R45 sends it to the calling line and its origin party. -/
def State.sendDialTone (s : State) (n : LineNo) (on : Bool) : State :=
  if (tget s.sig.lineSignals n).dialTone = on then s
  else (s.modSignal n fun g => { g with dialTone := on }).sendOrder (if on then .dialToneOn n else .dialToneOff n)

/-- RING_ON for a party, or RING_OFF, not sent when the ringing stands so already (R112). DESIGN CHOICE (log entry 24): RING_OFF
names the line alone, where R10 sends it to the called line and party. -/
def State.sendRinging (s : State) (n : LineNo) (p : Option Party) : State :=
  if (tget s.sig.lineSignals n).ringing = p then s
  else
    (s.modSignal n fun g => { g with ringing := p }).sendOrder
      (match p with
        | some p => .ringOn n p
        | none => .ringOff n)

/-- The tone applied to a terminal. -/
def State.toneOf (s : State) : Terminal → Option Tone
  | .line n => (tget s.sig.lineSignals n).tone
  | .trunk i => tget s.sig.trunkTones i

/-- TONE_ON with a tone, or TONE_OFF, not sent when the tone stands so already (R112). DESIGN CHOICE (log entry 24): TONE_ON names
the terminal alone, where R7 sends it to the line and its origin party. -/
def State.sendTone (s : State) (t : Terminal) (x : Option Tone) : State :=
  if s.toneOf t = x then s
  else
    (match t with
      | .line n => s.modSignal n fun g => { g with tone := x }
      | .trunk i => { s with sig := { s.sig with trunkTones := tset s.sig.trunkTones i x } }).sendOrder
      (match x with
        | some y => .toneOn t y
        | none => .toneOff t)

/-- Changes the signal state of pulse sender `k` and sends the order, unless it stands so already. -/
def State.sendSender (s : State) (k : SenderNo) (x : SenderSignal) (o : LineOrder) : State :=
  if tget s.sig.senderSignals k = x then s
  else ({ s with sig := { s.sig with senderSignals := tset s.sig.senderSignals k x } } : State).sendOrder o

/-- SENDER_LOOP. -/
def State.sendSenderLoop (s : State) (k : SenderNo) (x : Loop) : State :=
  s.sendSender k { tget s.sig.senderSignals k with loop := x } (.senderLoop k x)

/-- SENDER_ATTACH. -/
def State.sendSenderAttach (s : State) (k : SenderNo) (o : OutNo) : State :=
  s.sendSender k ⟨some o, .closed⟩ (.senderAttach k o)

/-- SENDER_DETACH. -/
def State.sendSenderDetach (s : State) (k : SenderNo) : State := s.sendSender k ⟨none, .closed⟩ (.senderDetach k)

/-! ### The Originating Queue and the Deferred Set (section 2.2) -/

/-- The entry is an incoming trunk terminal's. -/
def Origin.isTrunk : Origin → Bool
  | .trunk _ => true
  | .line _ _ => false

/-- R30: a trunk joins after the last trunk queued, a line at the tail. -/
def joinQueue (q : List Origin) (e : Origin) : List Origin :=
  if e.isTrunk then q.takeWhile Origin.isTrunk ++ e :: q.dropWhile Origin.isTrunk else q ++ [e]

/-- R31: one entry is promoted before another: trunks before lines, each in ascending number. -/
def Origin.promotedBefore : Origin → Origin → Bool
  | .trunk i, .trunk j => i < j
  | .trunk _, .line _ _ => true
  | .line _ _, .trunk _ => false
  | .line m _, .line n _ => m < n

/-- An entry joins the Deferred Set, which is kept in the order of promotion. -/
def joinDeferred (d : List Origin) (e : Origin) : List Origin :=
  d.takeWhile (fun x => x.promotedBefore e) ++ e :: d.dropWhile (fun x => x.promotedBefore e)

/-- Sets a terminal's state to WAITING or DEFERRED with the wait timer given. -/
def State.setWaiting (s : State) (t : Terminal) (deferred : Bool) (timer : Option Nat) : State :=
  match t with
  | .line n => s.modLine n fun l => { l with state := if deferred then .deferred else .waiting, waitTimer := timer }
  | .trunk i => s.modTrunk i fun k => { k with state := if deferred then .deferred else .waiting, waitTimer := timer }

/-- The entry with which a terminal originates (R22). -/
def State.originEntry (s : State) : Terminal → Origin
  | .line n => .line n (s.line n).originationParty
  | .trunk i => .trunk i

/-- R23: an accepted CLOSED on a terminal in IDLE: it joins the Originating Queue, or the Deferred Set when the queue is full,
and its wait timer starts. -/
def State.originate (s : State) (t : Terminal) : State :=
  let full := !decide (s.scan.queue.length < Config.queuePlaces)
  let u := s.setWaiting t full (some Config.waitTime)
  let e := s.originEntry t
  { u with scan := { u.scan with
      queue := if full then s.scan.queue else joinQueue s.scan.queue e
      deferred := if full then joinDeferred s.scan.deferred e else s.scan.deferred } }

/-- A terminal leaves the Originating Queue or the Deferred Set, wherever it stands (R24, R25, R35). -/
def State.leaveQueue (s : State) (t : Terminal) : State :=
  { s with scan := { s.scan with
      queue := s.scan.queue.filter fun e => e.terminal ≠ t
      deferred := s.scan.deferred.filter fun e => e.terminal ≠ t } }

/-- A line record outside every call and queue, in the state given: its register, origin party, early off-hook flag and wait
timer are absent. -/
def LineRec.outOfCall (l : LineRec) (x : LineState) : LineRec :=
  { l with state := x, register := none, originParty := none, earlyOffHook := none, waitTimer := none }

/-- An incoming trunk terminal's record outside every call and queue. -/
def TrunkRec.outOfCall (k : TrunkRec) (x : TrunkState) : TrunkRec := { k with state := x, register := none, waitTimer := none }

/-- A terminal enters LOCKOUT, which posts the LOCKOUT notice to M (R26). A trunk terminal's clear timer becomes absent
(R126). -/
def State.toLockout (s : State) (t : Terminal) : State :=
  (match t with
    | .line n => s.modLine n fun l => l.outOfCall .lockout
    | .trunk i => (s.modTrunk i fun k => k.outOfCall .lockout).setClearTimer i none).post .maintenance .lockout

/-- A terminal becomes IDLE; with its accepted loop CLOSED that is taken at once as an origination (R33). -/
def State.toIdle (s : State) (t : Terminal) : State :=
  let u := match t with
    | .line n => s.modLine n fun l => l.outOfCall .idle
    | .trunk i => (s.modTrunk i fun k => k.outOfCall .idle).setClearTimer i none
  if s.accepted t = .closed then u.originate t else u

/-- A terminal leaves a call: IDLE if its accepted loop is OPEN, LOCKOUT if it is CLOSED (R11). -/
def State.leaveCall (s : State) (t : Terminal) : State :=
  match s.accepted t with
  | .opened => s.toIdle t
  | .closed => s.toLockout t

/-- R31: a freed place in the Originating Queue is filled from the Deferred Set. -/
def State.promote (s : State) : State :=
  match s.scan.deferred with
  | [] => s
  | e :: rest =>
    if s.scan.queue.length < Config.queuePlaces then
      let u := s.setWaiting e.terminal false (s.waitTimer e.terminal)
      { u with scan := { u.scan with queue := joinQueue s.scan.queue e, deferred := rest } }
    else s

/-- R3, R41: the record of a register at service: the origin, the receiver, the walk node and FIRST_DIGIT running. -/
def CallRegister.served (origin : Origin) (root : NodeNo) (k : ReceiverNo) : CallRegister :=
  { CallRegister.free with
    state := .dialing
    origin := some origin
    walkNode := some (if origin.isTrunk then root else 0)
    receiver := some k
    timer := some ⟨.firstDigit, Config.firstDigitTime⟩ }

/-- R32, R41: the terminal served becomes ORIGINATING and receives dial tone, or BUSY and receives PROCEED. -/
def State.seizeTerminal (s : State) (e : Origin) (r : RegNo) : State :=
  match e with
  | .line n p =>
    (s.modLine n fun l =>
      { l with state := .originating, register := some r, originParty := some p, waitTimer := none }).sendDialTone n true
  | .trunk i =>
    (s.modTrunk i fun k => { k with state := .busy, register := some r, waitTimer := none }).sendOrder (.proceed i)

/-- R32: service of the head of the Originating Queue, when it is non-empty and a register and a receiver are FREE; the
freed place is filled. -/
def State.serveHead (s : State) : State :=
  match s.scan.queue, s.freeRegister, s.freeReceiver with
  | e :: rest, some r, some k =>
    let u : State := { s with scan := { s.scan with queue := rest } }
    let v := (u.modReg r fun _ => CallRegister.served e s.trans.incomingRoot k).setReceiver k
      (.attached ⟨false, r, .make, 0, 0, !e.isTrunk⟩)
    (v.seizeTerminal e r).promote
  | _, _, _ => s

/-- R32: service for as long as the conditions hold. Each service takes a receiver, so twelve are as many as there can be. -/
def State.serve : Nat → State → State
  | 0, s => s
  | n + 1, s => State.serve n s.serveHead

/-- R98: the oldest order is taken when none is in flight. The element list of an OPERATE or RELEASE stands in the order of the path
record and that of NETWORK_CLEAR in ascending number (log entry 21). -/
def State.takeOrder (s : State) : State :=
  match s.orders.inFlight, s.orders.queue with
  | none, o :: rest =>
    let es := match o with
      | .operate r => (s.reg r).path.elements
      | .release r => (s.reg r).path.elements
      | .networkClear => List.finRange 352
    let u := match o with
      | .operate _ => s.setElems es .operating
      | _ => s
    { u with orders := { s.orders with
        queue := rest
        tag := s.orders.tag + 1
        inFlight := some ⟨o, s.orders.tag + 1, es, 0, false⟩ } }
  | _, _ => s

/-- What follows at once on an action that frees a place, a receiver or a register: the freed place is filled (R31) and the service
conditions are examined (R32). -/
def State.settle (s : State) : State := State.serve 12 s.promote

/-! ### Meters (section 9.1) -/

/-- R158: while the snapshot is SWEEPING a meter whose mark is clear is copied before it is changed. -/
def State.copyMeter (s : State) (i : Fin 1024) : State :=
  match s.store.snapshot with
  | .sweeping _ _ =>
    if tget s.store.marks i then s
    else
      { s with store := { s.store with
          values := tset s.store.values i (tget s.store.meters i)
          marks := tset s.store.marks i true } }
  | _ => s

/-- Meter `i` takes a value, and where that is the maximum and its full flag is clear the flag is set and METER_FULL is
posted to M (R151, R153). -/
def State.raiseMeter (s : State) (i : Fin 1024) (v : Nat) : State :=
  let m := tget s.store.meters i
  if v = Config.maxMeter ∧ m.full = false then
    ({ s with store := { s.store with
        meters := tset s.store.meters i ⟨v, true⟩
        fullCount := s.store.fullCount + 1 } } : State).post .maintenance .meterFull
  else { s with store := { s.store with meters := tset s.store.meters i ⟨v, m.full⟩ } }

/-- R151: a unit addition to meter `i`, copied first where R158 asks it. -/
def State.addUnit (s : State) (i : Fin 1024) : State :=
  let u := s.copyMeter i
  u.raiseMeter i (min Config.maxMeter ((tget u.store.meters i).value + 1))

/-- R140: a unit is charged to the meter context of register `r`. -/
def State.chargeUnit (s : State) (r : RegNo) : State :=
  match (s.reg r).meter with
  | none => s
  | some c =>
    let u := s.modReg r fun g => { g with meter := some { c with units := min Config.maxUnits (c.units + 1) } }
    match c.meter with
    | none => u
    | some x => u.addUnit x.meterIndex

/-- R140: a number of units is charged. -/
def State.chargeUnits (s : State) (r : RegNo) : Nat → State
  | 0 => s
  | n + 1 => (s.chargeUnit r).chargeUnits r n

/-- R141: the meter context of a call answered on a line of this class, before its units are charged. -/
def newContext (u : TariffUnit) (zone : Zone) (x : Subscriber) (cls : LineClass) : MeterContext :=
  let cell := tget u.active (cellIndex zone u.band)
  { zone := zone
    answerBand := u.band
    answerDay := u.day
    answerMinute := u.minute
    band := u.band
    cell := cell
    generation := u.generation
    framePosition := 0
    periodRemaining := cell.periodAt 0
    units := 0
    duration := 0
    tariffChanged := false
    meter := if cls = .service then none else some x }

/-- R141: at the answer of a call whose origin is a line the meter context is created and U0 units are charged. -/
def State.startMetering (s : State) (r : RegNo) : State :=
  match (s.reg r).origin, (s.routeEntry r).bind RouteEntry.terms with
  | some (.line n p), some (_, zone, _) =>
    let c := newContext s.tariff zone ⟨n, p⟩ (s.line n).cls
    (s.modReg r fun g => { g with meter := some c }).chargeUnits r c.cell.u0.val
  | _, _ => s

/-! ### Tickets (section 9.4) -/

/-- R162: a reservation is taken, and TICKETS_HIGH is posted when the total rises to 56. -/
def State.takeReservation (s : State) (r : RegNo) : State :=
  let u : State := { s.modReg r (fun g => { g with reservation := true }) with
    tickets := { s.tickets with reserved := s.tickets.reserved + 1 } }
  if u.ticketTotal = Config.ticketsHigh then u.post .maintenance .ticketsHigh else u

/-- R162: a reservation, if the register holds one, is returned unused. -/
def State.returnReservation (s : State) (r : RegNo) : State :=
  if (s.reg r).reservation then
    { s.modReg r (fun g => { g with reservation := false }) with
      tickets := { s.tickets with reserved := s.tickets.reserved - 1 } }
  else s

/-- R164: the directory slot that maps to a subscriber. -/
def State.directorySlot (s : State) (x : Subscriber) : Option (Fin 1000) :=
  (tfind (fun _ d => decide (d = some x)) s.trans.directory).head?

/-- R164: the ticket of a call, from its record and its stopped meter context. -/
def State.ticketOf (s : State) (x : Subscriber) (digits : List Digit) (route : RouteNo) (c : MeterContext) : Ticket where
  sequence := s.tickets.sequence
  number := (s.directorySlot x).map fun d => (s.tickets.directoryDigit, d)
  equipment := x.line
  party := x.party
  digits := digits
  route := route
  zone := c.zone
  answerBand := c.answerBand
  answerDay := c.answerDay
  answerMinute := c.answerMinute
  duration := c.duration
  units := c.units
  tariffChanged := c.tariffChanged

/-- R163: the reservation of register `r` becomes a stored ticket built from the record `g` it had when the release was taken.
A record with no line origin, route or meter context makes none and its reservation is returned (log entry 8). -/
def State.makeTicket (s : State) (r : RegNo) (g : CallRegister) : State :=
  match g.origin, g.route, g.meter with
  | some (.line n p), some t, some c =>
    { s.modReg r (fun g => { g with reservation := false }) with
      tickets := { s.tickets with
        stored := s.tickets.stored ++ [s.ticketOf ⟨n, p⟩ g.digits t c]
        reserved := s.tickets.reserved - 1
        sequence := s.tickets.sequence + 1 } }
  | _, _, _ => s.returnReservation r

/-! ### Units leaving a call -/

/-- DIAL_TONE_OFF is sent to the calling line of register `r` if dial tone is still applied. -/
def State.removeDialTone (s : State) (r : RegNo) : State :=
  match (s.reg r).origin with
  | some (.line n _) => s.sendDialTone n false
  | _ => s

/-- R49: the receiver of register `r`, if it holds one, detaches; `quiet` leaves DIAL_TONE_OFF unsent, as at a warm restart
(R56). The receiver becomes BLOCKED if its block-after-use flag is set and FREE if it is clear. -/
def State.detachReceiver (s : State) (r : RegNo) (quiet : Bool) : State :=
  let u := s.modReg r fun g => { g with receiver := none, walkNode := none }
  match (s.reg r).receiver with
  | none => u
  | some k =>
    match s.receiver k with
    | .attached a =>
      let v := if a.dialTone && !quiet then u.removeDialTone r else u
      v.setReceiver k (if a.blockAfterUse then .blocked else .free)
    | _ => u

/-- R118: sender `k` detaches: its loop is closed, it leaves its trunk, and it becomes BLOCKED if its block-after-use flag is
set and FREE if it is clear. -/
def State.detachSender (s : State) (k : SenderNo) : State :=
  match s.sender k with
  | .busy b =>
    (((s.sendSenderLoop k .closed).sendSenderDetach k).setSender k (if b.blockAfterUse then .blocked else .free)).modReg
      b.register fun g => { g with sender := none }
  | _ => s

/-- The sender of register `r`, if it holds one, detaches. -/
def State.stopSender (s : State) (r : RegNo) : State :=
  match (s.reg r).sender with
  | some k => s.detachSender k
  | none => s

/-! ### Entry into TONE and ENDED -/

/-- TONE_ON or TONE_OFF to the calling terminal of register `r`. -/
def State.toneToCaller (s : State) (r : RegNo) (x : Option Tone) : State :=
  match (s.reg r).origin with
  | some o => s.sendTone o.terminal x
  | none => s

/-- R7: entry into TONE. -/
def State.enterTone (s : State) (r : RegNo) (x : Tone) (cause : ToneCause) : State :=
  let u := (s.detachReceiver r false).removeDialTone r
  (u.modReg r fun g =>
    { g with state := .tone, tone := some (x, cause), timer := some ⟨.tone, Config.toneTime⟩ }).toneToCaller r (some x)

/-- R14: entry into ENDED, which posts CLEARED to the register. -/
def State.enterEnded (s : State) (r : RegNo) : State :=
  (s.modReg r fun g =>
    { g with
      state := .ended
      walkNode := none
      receiver := none
      sender := none
      tone := none
      timer := none
      meter := none
      path := Path.empty }).post (.register r) .cleared

/-- R15: a register becomes FREE and its route reference is released (R64). -/
def State.freeReg (s : State) (r : RegNo) : State :=
  (match (s.reg r).route with
    | some t => s.modRefCount t (· - 1)
    | none => s).modReg r fun _ => CallRegister.free

/-! ### Answer (R113) -/

/-- R113: answer of the call of register `r`. -/
def State.answerCall (s : State) (r : RegNo) : State :=
  let u := match (s.reg r).destination with
    | some x =>
      let v := s.sendRinging x.line none
      if s.calledRole r x.line then v.modLine x.line fun l => { l with state := .termBusy, earlyOffHook := none } else v
    | none => s
  let w := (u.stopSender r).modReg r fun g => { g with state := .talk, timer := none }
  (w.post (.register r) .answer).startMetering r

/-! ### Release (section 1.4) -/

/-- R10: the running parts of the call stop and the signals still applied for it are removed. `was` is the register's state
when the release was taken. -/
def State.stopParts (s : State) (r : RegNo) (was : RegState) : State :=
  let u := s.stopSender r
  let v := if was = .tone then u.toneToCaller r none else u
  let w := match was, (s.reg r).destination with
    | .ringing, some x => v.sendRinging x.line none
    | _, _ => v
  (w.removeDialTone r).modReg r fun g => { g with timer := none, meter := none, tone := none }

/-- R11: the roles of the register end. A calling clear leaves the calling terminal IDLE. -/
def State.endRoles (s : State) (r : RegNo) (cause : EndCause) : State :=
  let u := match (s.reg r).origin with
    | some o =>
      if s.callingRole r o.terminal then
        (if cause = .callingClear then s.toIdle o.terminal else s.leaveCall o.terminal)
      else s
    | none => s
  match (s.reg r).destination with
  | some x => if s.calledRole r x.line then u.leaveCall (.line x.line) else u
  | none => u

/-- R12: a reservation becomes a ticket if the register was in TALK, and is returned unused otherwise. -/
def State.settleReservation (s : State) (r : RegNo) (g : CallRegister) : State :=
  if g.reservation ∧ g.state = .talk then s.makeTicket r g else s.returnReservation r

/-- An order joins the tail of the order queue (R97). -/
def State.appendOrder (s : State) (o : Order) : State := { s with orders := { s.orders with queue := s.orders.queue ++ [o] } }

/-- R104: a queued OPERATE is withdrawn and its elements become FREE. -/
def State.withdrawOperate (s : State) (r : RegNo) : State :=
  let u : State := { s with orders := { s.orders with queue := s.orders.queue.filter fun o => o ≠ .operate r } }
  u.setElems (s.reg r).path.elements .free

/-- The order in flight, if it is this one. -/
def State.flying (s : State) (o : Order) : Bool := s.orders.inFlight.any fun f => f.order = o

/-- The in-flight record's cancelled mark is set (R105, R110). -/
def State.cancelInFlight (s : State) : State :=
  { s with orders := { s.orders with inFlight := s.orders.inFlight.map fun f => { f with cancelled := true } } }

/-- R13: the path of a released register, according to the state `was` it was in. -/
def State.releasePath (s : State) (r : RegNo) (was : RegState) : State :=
  let es := (s.reg r).path.elements
  if was = .connecting then
    let u := s.modReg r fun g => { g with state := .clearing }
    if .operate r ∈ s.orders.queue then (u.withdrawOperate r).enterEnded r
    else if s.flying (.operate r) then u.cancelInFlight
    else u
  else if es.isEmpty then s.enterEnded r
  else ((s.setElems es .releasing).modReg r fun g => { g with state := .clearing }).appendOrder (.release r)

/-- The states from which release runs (R9). -/
def RegState.isCalling : RegState → Bool
  | .translated | .connecting | .set | .ringing | .sending | .awaitAnswer | .talk | .tone => true
  | .free | .dialing | .clearing | .ended => false

/-- R9: release of register `r` with an end cause. A register in any other state is not acted on. -/
def State.release (s : State) (r : RegNo) (cause : EndCause) : State :=
  let g := s.reg r
  if g.state.isCalling then
    let u := (s.modReg r fun g => { g with endCause := some cause }).stopParts r g.state
    ((u.endRoles r cause).settleReservation r g).releasePath r g.state
  else s

/-- The end of a call from DIALING (R16, R46, R51): the receiver detaches, a reservation is returned, the calling terminal
leaves the call, and the register enters ENDED with the end cause given. -/
def State.endDialing (s : State) (r : RegNo) (cause : EndCause) : State :=
  let u := (s.detachReceiver r false).returnReservation r
  let v := match (s.reg r).origin with
    | some o => if s.callingRole r o.terminal then u.leaveCall o.terminal else u
    | none => u
  (v.modReg r fun g => { g with endCause := some cause }).enterEnded r

/-- R49: a terminal whose accepted loop is OPEN when its register has left DIALING for TRANSLATED or TONE was caught in a break,
and the open is taken at the detachment: for a line a calling clear (R28), for an incoming trunk terminal the start of its
clear timer (R29, R126). -/
def State.openAtDetachment (s : State) (r : RegNo) : State :=
  match (s.reg r).origin with
  | some o =>
    if s.accepted o.terminal = .opened then
      match o with
      | .line _ _ => s.release r .callingClear
      | .trunk i => s.setClearTimer i (some 0)
    else s
  | none => s

end Sys2Proof.Machine
end

