-- ==== Sys2Proof/Machine/Formats.lean ====
section
/-! DEFINITION. The encodings of 11.6: status values, result items and the records read over the links. An absent item
carries the absent value of its width. Log entry 9 says which encodings the manual leaves open and what the model does. -/

namespace Sys2Proof.Machine

/-- A one-byte item. -/
def enc1 (n : Nat) : List Byte := [BitVec.ofNat 8 n]
/-- A two-byte item, most significant byte first. -/
def enc2 (n : Nat) : List Byte := [BitVec.ofNat 8 (n / 256), BitVec.ofNat 8 n]
/-- A three-byte item, most significant byte first. -/
def enc3 (n : Nat) : List Byte := [BitVec.ofNat 8 (n / 65536), BitVec.ofNat 8 (n / 256), BitVec.ofNat 8 n]
/-- A one-byte item that may be absent. -/
def opt1 (n : Option Nat) : List Byte := enc1 (n.getD 255)
/-- A two-byte item that may be absent. -/
def opt2 (n : Option Nat) : List Byte := enc2 (n.getD 65535)
/-- A three-byte item that may be absent. -/
def opt3 (n : Option Nat) : List Byte := enc3 (n.getD 16777215)
/-- A flag, or ON and OFF, or the level of a line. -/
def encFlag (b : Bool) : List Byte := enc1 b.toNat

/-- The status values (11.4). -/
inductive Status where
  | done | empty | badFrame | unknownCommand | badOperand | notPermitted | fenced | notBound | heldByOther | wrongState
  | inUse | noPath | lineBusy | noUnit | busy | stale
  deriving DecidableEq, Repr

/-- 11.4. -/
def Status.code : Status → Nat
  | .done => 0 | .empty => 1 | .badFrame => 2 | .unknownCommand => 3 | .badOperand => 4 | .notPermitted => 5
  | .fenced => 6 | .notBound => 7 | .heldByOther => 8 | .wrongState => 9 | .inUse => 10 | .noPath => 11
  | .lineBusy => 12 | .noUnit => 13 | .busy => 14 | .stale => 15

/-- A response before its check byte: a status and the result bytes (R192). -/
structure Response where
  status : Status
  result : List Byte
  deriving DecidableEq, Repr

/-- A response without result bytes. -/
def Response.of (x : Status) : Response := ⟨x, []⟩

/-- The check byte of a run of bytes: 255 minus their sum modulo 256 (R191, R192). -/
def checkByte (bs : List Byte) : Byte := 255 - bs.foldl (· + ·) 0

/-- The bytes of a response: status, result, check (R192). -/
def Response.bytes (x : Response) : List Byte :=
  let body := BitVec.ofNat 8 x.status.code :: x.result
  body ++ [checkByte body]

/-! ### Codes of named sets -/

/-- R1. -/
def RegState.code : RegState → Nat
  | .free => 0 | .dialing => 1 | .translated => 2 | .connecting => 3 | .set => 4 | .ringing => 5 | .sending => 6
  | .awaitAnswer => 7 | .talk => 8 | .tone => 9 | .clearing => 10 | .ended => 11

/-- 11.6, line state. -/
def LineState.code : LineState → Nat
  | .outOfService => 0 | .idle => 1 | .waiting => 2 | .deferred => 3 | .originating => 4 | .termReserved => 5
  | .termRinging => 6 | .termBusy => 7 | .lockout => 8

/-- 11.6, incoming trunk terminal state. -/
def TrunkState.code : TrunkState → Nat
  | .outOfService => 0 | .idle => 1 | .waiting => 2 | .deferred => 3 | .busy => 4 | .lockout => 8

/-- R78. -/
def ElemState.code : ElemState → Nat
  | .free => 0 | .reserved => 1 | .operating => 2 | .held => 3 | .releasing => 4 | .blocked => 5 | .faulted => 6
  | .initialising => 7

/-- Section 2.4. -/
def LineClass.code : LineClass → Nat
  | .ordinary => 0 | .twoParty => 1 | .coin => 2 | .restricted => 3 | .service => 4

/-- Parties. -/
def Party.code : Party → Nat
  | .a => 0 | .b => 1

/-- R20, R21: OPEN, CLOSED. -/
def Loop.code : Loop → Nat
  | .opened => 0 | .closed => 1

/-- R5. -/
def Tone.code : Tone → Nat
  | .busy => 0 | .congestion => 1 | .nu => 2

/-- R1. -/
def ToneCause.code : ToneCause → Nat
  | .vacant => 0 | .barred => 1 | .congestion => 2 | .digitError => 3 | .noAnswer => 4 | .ordered => 5

/-- R1. -/
def TimerKind.code : TimerKind → Nat
  | .firstDigit => 0 | .interdigit => 1 | .endOfDialing => 2 | .ring => 3 | .answerWait => 4 | .calledRelease => 5
  | .tone => 6

/-- R1. -/
def EndCause.code : EndCause → Nat
  | .callingClear => 0 | .farEndClear => 1 | .calledRelease => 2 | .forced => 3 | .dialTimeout => 4 | .toneTimeout => 5
  | .digitError => 6 | .restart => 7 | .abandoned => 8

/-- R96. -/
def kindCode : OrderKind → Nat
  | .operate => 0 | .release => 1 | .networkClear => 2

/-- R118. -/
def SenderPhase.code : SenderPhase → Nat
  | .leadPause => 0 | .brk => 1 | .make => 2 | .digitPause => 3

/-- R130. -/
def Band.code : Band → Nat
  | .day => 0 | .evening => 1 | .night => 2

/-- Controller ports A and B. -/
def sideCode : Side → Nat
  | .a => 0 | .b => 1

/-- R184: A, B or the billing port. -/
def portCode : Port → Nat
  | .controller x => sideCode x
  | .billing => 2

/-- Register as read, offset 47: NONE, A, B. -/
def handlerCode : Option Side → Nat
  | none => 0
  | some .a => 1
  | some .b => 2

/-- R184. -/
def RestartKind.code : RestartKind → Nat
  | .cold => 0 | .warm => 1

/-- R184. -/
def RestartCause.code : RestartCause → Nat
  | .powerUp => 0 | .initialise => 1 | .restartCommand => 2 | .restartLine => 3

/-! ### Composite items -/

/-- A digit: 10 for digit 0 (11.6). -/
def encDigit (d : Digit) : List Byte := enc1 (digitPulses d)

/-- A list of digits in fourteen bytes, unused bytes 0 (register as read, ticket as read). -/
def encDigits14 (ds : List Digit) : List Byte := ((ds.map digitPulses ++ List.replicate 14 0).take 14).flatMap enc1

/-- A terminal: kind, then number. -/
def encTerminal : Terminal → List Byte
  | .line n => enc1 0 ++ enc2 n.val
  | .trunk i => enc1 1 ++ enc2 i.val

/-- A terminal that may be absent, in three bytes. -/
def optTerminal (t : Option Terminal) : List Byte := (t.map encTerminal).getD (enc3 16777215)

/-- A pending set in three bytes: kind k is bit k mod 8 of byte k div 8 (11.6). -/
def encPending (p : BitVec 24) : List Byte := [p.extractLsb' 0 8, p.extractLsb' 8 8, p.extractLsb' 16 8]

/-- A slot's content: kind, then number; the number is absent for VACANT. -/
def encSlot : Slot → List Byte
  | .vacant => enc1 0 ++ opt1 none
  | .node n => enc1 1 ++ enc1 n.val
  | .route r => enc1 2 ++ enc1 r.val

/-- A directory content: kind, equipment, party. -/
def encDirectory : Option Subscriber → List Byte
  | none => enc1 0 ++ opt2 none ++ opt1 none
  | some x => enc1 1 ++ enc2 x.line.val ++ enc1 x.party.code

/-- A route entry in thirteen bytes, the absent fields with the absent value. -/
def encRoute : RouteEntry → List Byte
  | .invalid => enc1 0 ++ (List.replicate 12 none).flatMap opt1
  | .localCall level zone => enc1 1 ++ enc1 level.val ++ enc1 zone.val ++ (List.replicate 10 none).flatMap opt1
  | .outgoing level zone ticketed primary alternate digits strip total =>
    enc1 2 ++ enc1 level.val ++ enc1 zone.val ++ encFlag ticketed ++ enc1 primary.val ++ opt1 (alternate.map (·.val)) ++
      enc1 digits.length ++ ((digits.map digitPulses ++ List.replicate 4 0).take 4).flatMap enc1 ++ enc1 strip ++ enc1 total

/-- Three held samples, oldest first. -/
def encHeld {α : Type} (f : α → Nat) (h : Held α) : List Byte := enc1 (f h.oldest) ++ enc1 (f h.middle) ++ enc1 (f h.newest)

/-- Party-ground samples: GROUND 0, NO_GROUND 1 (the order of R20). -/
def groundCode (b : Bool) : Nat := if b then 0 else 1

/-- Answer states and samples: NORMAL 0, REVERSED 1 (the order of R37). -/
def answerCode (b : Bool) : Nat := if b then 1 else 0

/-! ### Records as read -/

/-- Register as read: 52 bytes (11.6). -/
def encRegister (g : CallRegister) (j : SubjectRec) : List Byte :=
  enc1 g.state.code ++
  (match g.origin with
    | some (.line n p) => enc1 0 ++ enc2 n.val ++ enc1 p.code
    | some (.trunk i) => enc1 1 ++ enc2 i.val ++ opt1 none
    | none => opt1 none ++ opt2 none ++ opt1 none) ++
  enc1 g.digits.length ++ encDigits14 g.digits ++
  opt1 (g.walkNode.map (·.val)) ++ opt1 (g.route.map (·.val)) ++
  opt2 (g.destination.map (·.line.val)) ++ opt1 (g.destination.map (·.party.code)) ++
  opt2 (g.path.oLink.map (·.val)) ++ opt2 (g.path.middle.map (·.val)) ++ opt2 (g.path.tLink.map (·.val)) ++
  opt1 (g.receiver.map (·.val)) ++ opt1 (g.sender.map (·.val)) ++
  opt1 (g.tone.map (·.1.code)) ++ opt1 (g.tone.map (·.2.code)) ++
  opt1 (g.timer.map (·.kind.code)) ++ enc3 ((g.timer.map (·.remaining)).getD 0) ++
  encFlag g.meter.isSome ++ enc2 ((g.meter.map (·.units)).getD 0) ++ enc3 ((g.meter.map (·.duration)).getD 0) ++
  encFlag g.reservation ++ opt1 (g.endCause.map (·.code)) ++
  enc1 (handlerCode (j.binding.map (·.port))) ++ encPending j.pending ++ encFlag j.queued

/-- The party carried with a terminal in the Originating Queue or the Deferred Set (R36). -/
def State.carriedParty (s : State) (t : Terminal) : Option Party :=
  ((s.scan.queue ++ s.scan.deferred).find? fun e => e.terminal = t).bind fun
    | .line _ p => some p
    | .trunk _ => none

/-- A terminal's position in the Originating Queue, 0 for the head (R36). -/
def State.queuePosition (s : State) (t : Terminal) : Option Nat :=
  if s.scan.queue.any (fun e => e.terminal = t) then some (s.scan.queue.findIdx fun e => e.terminal = t) else none

/-- A line as read (R36). -/
def State.encLine (s : State) (n : LineNo) : List Byte :=
  let l := s.line n
  enc1 l.cls.code ++ enc1 l.state.code ++ opt1 (l.register.map (·.val)) ++ opt1 (l.originParty.map (·.code)) ++
  opt1 (l.earlyOffHook.map (·.toNat)) ++ opt1 ((s.carriedParty (.line n)).map (·.code)) ++ opt3 l.waitTimer ++
  opt1 (s.queuePosition (.line n)) ++ enc1 l.accepted.code ++ encHeld Loop.code l.samples ++ encHeld groundCode l.grounds

/-- An incoming trunk terminal as read: the fields of a line without class and party samples (R36). -/
def State.encTrunk (s : State) (i : TrunkNo) : List Byte :=
  let k := s.trunk i
  enc1 k.state.code ++ opt1 (k.register.map (·.val)) ++ opt1 none ++ opt1 none ++ opt1 none ++ opt3 k.waitTimer ++
  opt1 (s.queuePosition (.trunk i)) ++ enc1 k.accepted.code ++ encHeld Loop.code k.samples

/-- An outgoing trunk's answer filter as read (R36). -/
def State.encAnswer (s : State) (o : OutNo) : List Byte :=
  let f := tget s.scan.answers o
  enc1 (answerCode f.accepted) ++ encHeld answerCode f.samples

/-- A dial receiver as read (R55): state, block-after-use flag, register, calling terminal, loop phase, pulse count, make
time, break time, dial tone field. -/
def State.encReceiver (s : State) : Receiver → List Byte
  | .free => enc1 0 ++ opt1 none ++ opt1 none ++ optTerminal none ++ opt1 none ++ opt1 none ++ opt2 none ++ opt2 none ++
      opt1 none
  | .blocked => enc1 2 ++ opt1 none ++ opt1 none ++ optTerminal none ++ opt1 none ++ opt1 none ++ opt2 none ++ opt2 none ++
      opt1 none
  | .attached a =>
    enc1 1 ++ encFlag a.blockAfterUse ++ enc1 a.register.val ++ optTerminal ((s.reg a.register).origin.map Origin.terminal) ++
    (match a.phase with
      | .make => enc1 0
      | .brk _ => enc1 1) ++
    enc1 a.pulses ++ enc2 a.makeTime ++
    (match a.phase with
      | .make => opt2 none
      | .brk t => enc2 t) ++
    encFlag a.dialTone

/-- A pulse sender as read (R128); an absent digit string is carried as an empty list. -/
def encSender : Sender → List Byte
  | .free => enc1 0 ++ opt1 none ++ opt1 none ++ opt1 none ++ enc1 0 ++ opt1 none ++ opt1 none ++ opt1 none ++ opt2 none
  | .blocked => enc1 2 ++ opt1 none ++ opt1 none ++ opt1 none ++ enc1 0 ++ opt1 none ++ opt1 none ++ opt1 none ++ opt2 none
  | .busy b =>
    enc1 1 ++ encFlag b.blockAfterUse ++ enc1 b.register.val ++ enc1 b.trunk.val ++
    enc1 b.digits.length ++ b.digits.flatMap encDigit ++ enc1 b.position ++ enc1 b.phase.code ++ enc1 b.pulsesLeft ++
    enc2 b.phaseTime

/-- An order's kind and register. -/
def encOrder (o : Order) : List Byte := enc1 (kindCode o.kind) ++ opt1 (o.register.map (·.val))

/-- The order unit as read (R111). -/
def encOrders (u : OrderUnit) : List Byte :=
  (match u.inFlight with
    | none => opt1 none ++ opt1 none ++ opt1 none ++ opt1 none ++ opt2 none ++ enc2 0
    | some f => encOrder f.order ++ enc1 f.tag.toNat ++ encFlag f.cancelled ++ enc2 f.time ++
        enc2 f.elements.length ++ f.elements.flatMap fun e => enc2 e.val) ++
  enc1 u.queue.length ++ u.queue.flatMap encOrder ++ enc1 u.tag.toNat ++
  (match u.lastTimeout with
    | none => opt1 none ++ opt1 none ++ opt1 none
    | some (o, tag) => encOrder o ++ enc1 tag.toNat)

/-- A tariff cell: U0, P, F. -/
def encCell (c : TariffCell) : List Byte := enc1 c.u0.val ++ enc2 c.period.val ++ enc1 c.fraction.val

/-- A meter context as read, the fields in the order of R138 (R147). -/
def encContext : Option MeterContext → List Byte
  | none => opt1 none ++ opt1 none ++ opt2 none ++ opt2 none ++ opt1 none ++ opt1 none ++ opt2 none ++ opt1 none ++ opt1 none ++
      opt1 none ++ opt3 none ++ opt2 none ++ opt3 none ++ opt1 none ++ opt2 none ++ opt1 none
  | some c =>
    enc1 c.zone.val ++ enc1 c.answerBand.code ++ enc2 c.answerDay.toNat ++ enc2 c.answerMinute ++ enc1 c.band.code ++
    encCell c.cell ++ enc1 c.generation.toNat ++ enc1 c.framePosition.val ++ opt3 c.periodRemaining ++ enc2 c.units ++
    enc3 c.duration ++ encFlag c.tariffChanged ++ opt2 (c.meter.map (·.line.val)) ++ opt1 (c.meter.map (·.party.code))

/-- A snapshot value and its full flag. -/
def encMeter (m : Meter) : List Byte := enc3 m.value ++ encFlag m.full

/-- Block b of the snapshot: the snapshot time and the sixteen values from meter index 16b (R159). -/
def encSnapshotBlock (u : MeterStore) (b : Fin 64) : List Byte :=
  enc2 u.snapshotDay.toNat ++ enc2 u.snapshotMinute ++
  (List.finRange 16).flatMap fun k => encMeter (tget u.values ⟨16 * b.val + k.val, by omega⟩)

/-- Ticket as read: 36 bytes (11.6). -/
def encTicket (t : Ticket) : List Byte :=
  enc2 t.sequence.toNat ++ encFlag t.number.isNone ++
  (match t.number with
    | some (d, slot) => encDigit d ++ ([slot.val / 100, slot.val / 10 % 10, slot.val % 10].map fun x =>
        if x = 0 then 10 else x).flatMap enc1
    | none => enc2 t.equipment.val ++ enc1 0 ++ enc1 0) ++
  enc1 t.party.code ++ enc1 t.digits.length ++ encDigits14 t.digits ++ enc1 t.route.val ++ enc1 t.zone.val ++
  enc1 t.answerBand.code ++ enc2 t.answerDay.toNat ++ enc2 t.answerMinute ++ enc3 t.duration ++ enc2 t.units ++
  encFlag t.tariffChanged

/-- The Attention Unit as Read Port Status shows it to a port (R184). 11.6 gives no code for the level of a line: an asserted attention
line is sent as 1 and a negated one as 0 (log entry 22, DESIGN CHOICE). -/
def State.encPortStatus (s : State) (p : Port) : List Byte :=
  enc1 (portCode p) ++
  ([Side.a, Side.b].flatMap fun x =>
    encFlag (s.att.port x).fenced ++ enc1 (s.att.port x).strikes ++ encFlag (s.att.port x).enabled ++
    encFlag (s.attentionLine x) ++ enc1 (s.boundCount x)) ++
  enc1 s.att.queue.length ++ s.att.queue.flatMap (fun x => enc1 (subjectIndex x).val) ++
  enc1 (handlerCode (s.handler .maintenance)) ++ encFlag (s.subject .maintenance).queued ++
  encPending (s.subject .maintenance).pending ++
  (match s.att.lastTimeout with
    | none => opt1 none ++ opt1 none
    | some (x, j) => enc1 (sideCode x) ++ enc1 (subjectIndex j).val) ++
  enc1 s.att.lastRestart.1.code ++ enc1 s.att.lastRestart.2.code

end Sys2Proof.Machine
end

