-- ==== Sys2Proof/Decode.lean ====
section
/-! DEFINITION. What the table's bits spell, and what a link frame spells.

No row of spec/opcode_table.json gives bits, so `decodeTableWord` reads nothing. The commands of the links are spelt by frames:
a code of the command summary (11.5), operand bytes in the encoding of 11.6 and a check byte. `decodeFrame` makes checks 1 to 4
of R191 and names the row that a whole frame is; `frameOf` writes the frame of a command. -/

namespace Sys2Proof

/-- The command that a word spells by the table's bits: none, since no row gives bits. -/
def decodeTableWord (_nbits _w : Nat) : Option Instr := none

/-- A two-byte operand, most significant byte first (11.6). -/
def halfOf (hi lo : Byte) : Half := hi ++ lo

/-- A three-byte operand, most significant byte first (11.6). -/
def tripleOf (hi mid lo : Byte) : Triple := hi ++ mid ++ lo

/-- The bytes of a two-byte operand. -/
def halfBytes (h : Half) : List Byte := [hiByte h, loByte h]

/-- The bytes of a three-byte operand. -/
def tripleBytes (t : Triple) : List Byte := [t.extractLsb' 16 8, t.extractLsb' 8 8, t.extractLsb' 0 8]

/-! ### From a frame to its row -/

/-- The commands without operands (11.5). -/
def command0 (p : Port) (code : Nat) : Option Instr :=
  match code with
  | 14 => some (.clearTranslations p)
  | 24 => some (.readOrders p)
  | 31 => some (.applyTariffs p)
  | 35 => some (.readTariffStatus p)
  | 40 => some (.takeSnapshot p)
  | 42 => some (.releaseSnapshot p)
  | 43 => some (.readTicket p)
  | 45 => some (.readTicketStatus p)
  | 47 => some (.takeEvent p)
  | 50 => some (.fenceOther p)
  | 51 => some (.admitOther p)
  | 52 => some (.readPortStatus p)
  | 53 => some (.initialise p)
  | 54 => some (.restart p)
  | _ => none

/-- The commands with one operand byte (11.5). -/
def command1 (p : Port) (code : Nat) (a : Byte) : Option Instr :=
  match code with
  | 1 => some (.readRegister p a)
  | 3 => some (.releaseCall p a)
  | 7 => some (.blockReceiver p a)
  | 8 => some (.unblockReceiver p a)
  | 9 => some (.readReceiver p a)
  | 15 => some (.setIncomingRoot p a)
  | 16 => some (.readNode p a)
  | 17 => some (.readRoute p a)
  | 19 => some (.huntPath p a)
  | 25 => some (.ring p a)
  | 26 => some (.send p a)
  | 27 => some (.blockSender p a)
  | 28 => some (.unblockSender p a)
  | 29 => some (.readSender p a)
  | 32 => some (.selectBand p a)
  | 36 => some (.readMeterContext p a)
  | 41 => some (.readSnapshot p a)
  | 46 => some (.setDirectoryDigit p a)
  | 48 => some (.done p a)
  | 49 => some (.setAttention p a)
  | _ => none

/-- The commands with two operand bytes (11.5). -/
def command2 (p : Port) (code : Nat) (a b : Byte) : Option Instr :=
  match code with
  | 2 => some (.giveTone p a b)
  | 18 => some (.readDirectory p (halfOf a b))
  | 20 => some (.seizeElement p (halfOf a b))
  | 21 => some (.returnElement p (halfOf a b))
  | 22 => some (.assignTrunkGroup p a b)
  | 23 => some (.readElement p (halfOf a b))
  | 44 => some (.removeTicket p (halfOf a b))
  | _ => none

/-- The commands with three operand bytes (11.5). -/
def command3 (p : Port) (code : Nat) (a b c : Byte) : Option Instr :=
  match code with
  | 5 => some (.removeLine p a (halfOf b c))
  | 6 => some (.readLine p a (halfOf b c))
  | 34 => some (.readTariffCell p a b c)
  | 37 => some (.readMeter p (halfOf a b) c)
  | _ => none

/-- The commands with four operand bytes (11.5). -/
def command4 (p : Port) (code : Nat) (a b c d : Byte) : Option Instr :=
  match code with
  | 4 => some (.writeLine p a (halfOf b c) d)
  | 10 => some (.probeAccess p a (halfOf b c) d)
  | 11 => some (.writeNodeSlot p a b c d)
  | 33 => some (.setClock p (halfOf a b) (halfOf c d))
  | _ => none

/-- The command with five operand bytes (11.5). -/
def command5 (p : Port) (code : Nat) (a b c d e : Byte) : Option Instr :=
  if code = 38 then some (.adjustMeter p (halfOf a b) c (halfOf d e)) else none

/-- The commands with six operand bytes (11.5). -/
def command6 (p : Port) (code : Nat) (a b c d e f : Byte) : Option Instr :=
  match code with
  | 13 => some (.writeDirectory p (halfOf a b) c (halfOf d e) f)
  | 30 => some (.writeTariffCell p a b c (halfOf d e) f)
  | 39 => some (.presetMeter p (halfOf a b) c (tripleOf d e f))
  | _ => none

/-- The command of a code and its operand bytes; none where the code's operand count is another (11.5). -/
def commandOf (p : Port) (code : Nat) : List Byte → Option Instr
  | [] => command0 p code
  | [a] => command1 p code a
  | [a, b] => command2 p code a b
  | [a, b, c] => command3 p code a b c
  | [a, b, c, d] => command4 p code a b c d
  | [a, b, c, d, e] => command5 p code a b c d e
  | [a, b, c, d, e, f] => command6 p code a b c d e f
  | [r, k, l, z, t, g, h, n, d1, d2, d3, d4, x, y] =>
    if code = 12 then some (.writeRoute p r ⟨k, l, z, t, g, h, n, d1, d2, d3, d4, x, y⟩) else none
  | _ => none

/-- R191, checks 3 and 4: an unknown code, then a wrong operand count. -/
def judgeCode (p : Port) (code : Byte) (operands : List Byte) : Instr :=
  if code.toNat = 0 ∨ 55 ≤ code.toNat then .unknownCommand p
  else (commandOf p code.toNat operands).getD (.badFrame p)

/-- R191, checks 1 to 4: the row that a frame of these bytes is on a port. -/
def decodeFrame (p : Port) (bytes : List Byte) : Instr :=
  if bytes.length < 2 ∨ 16 < bytes.length then .badFrame p
  else if bytes.getLast? ≠ some (Machine.checkByte bytes.dropLast) then .badFrame p
  else
    match bytes.dropLast with
    | [] => .badFrame p
    | code :: operands => judgeCode p code operands

/-! ### From a command to its frame -/

/-- The thirteen bytes of a route entry. -/
def RouteBytes.bytes (e : RouteBytes) : List Byte :=
  [e.kind, e.level, e.zone, e.ticketed, e.primary, e.alternate, e.count, e.digit1, e.digit2, e.digit3, e.digit4, e.strip,
    e.total]

/-- The port, the code and the operand bytes of a command (11.5); none for a row that is no command of the summary. -/
def commandParts : Instr → Option (Port × Nat × List Byte)
  | .readRegister p r => some (p, 1, [r])
  | .giveTone p r t => some (p, 2, [r, t])
  | .releaseCall p r => some (p, 3, [r])
  | .writeLine p k n c => some (p, 4, k :: halfBytes n ++ [c])
  | .removeLine p k n => some (p, 5, k :: halfBytes n)
  | .readLine p k n => some (p, 6, k :: halfBytes n)
  | .blockReceiver p k => some (p, 7, [k])
  | .unblockReceiver p k => some (p, 8, [k])
  | .readReceiver p k => some (p, 9, [k])
  | .probeAccess p k n r => some (p, 10, k :: halfBytes n ++ [r])
  | .writeNodeSlot p n d k x => some (p, 11, [n, d, k, x])
  | .writeRoute p r e => some (p, 12, r :: e.bytes)
  | .writeDirectory p d k n x => some (p, 13, halfBytes d ++ [k] ++ halfBytes n ++ [x])
  | .clearTranslations p => some (p, 14, [])
  | .setIncomingRoot p n => some (p, 15, [n])
  | .readNode p n => some (p, 16, [n])
  | .readRoute p r => some (p, 17, [r])
  | .readDirectory p d => some (p, 18, halfBytes d)
  | .huntPath p r => some (p, 19, [r])
  | .seizeElement p e => some (p, 20, halfBytes e)
  | .returnElement p e => some (p, 21, halfBytes e)
  | .assignTrunkGroup p o g => some (p, 22, [o, g])
  | .readElement p e => some (p, 23, halfBytes e)
  | .readOrders p => some (p, 24, [])
  | .ring p r => some (p, 25, [r])
  | .send p r => some (p, 26, [r])
  | .blockSender p k => some (p, 27, [k])
  | .unblockSender p k => some (p, 28, [k])
  | .readSender p k => some (p, 29, [k])
  | .writeTariffCell p z b u x f => some (p, 30, [z, b, u] ++ halfBytes x ++ [f])
  | .applyTariffs p => some (p, 31, [])
  | .selectBand p b => some (p, 32, [b])
  | .setClock p d m => some (p, 33, halfBytes d ++ halfBytes m)
  | .readTariffCell p t z b => some (p, 34, [t, z, b])
  | .readTariffStatus p => some (p, 35, [])
  | .readMeterContext p r => some (p, 36, [r])
  | .readMeter p n x => some (p, 37, halfBytes n ++ [x])
  | .adjustMeter p n x k => some (p, 38, halfBytes n ++ [x] ++ halfBytes k)
  | .presetMeter p n x v => some (p, 39, halfBytes n ++ [x] ++ tripleBytes v)
  | .takeSnapshot p => some (p, 40, [])
  | .readSnapshot p b => some (p, 41, [b])
  | .releaseSnapshot p => some (p, 42, [])
  | .readTicket p => some (p, 43, [])
  | .removeTicket p q => some (p, 44, halfBytes q)
  | .readTicketStatus p => some (p, 45, [])
  | .setDirectoryDigit p d => some (p, 46, [d])
  | .takeEvent p => some (p, 47, [])
  | .done p j => some (p, 48, [j])
  | .setAttention p x => some (p, 49, [x])
  | .fenceOther p => some (p, 50, [])
  | .admitOther p => some (p, 51, [])
  | .readPortStatus p => some (p, 52, [])
  | .initialise p => some (p, 53, [])
  | .restart p => some (p, 54, [])
  | .badFrame _ => none
  | .unknownCommand _ => none
  | .frameDiscarded _ _ => none
  | .scanSampleSet _ _ => none
  | .clear _ => none
  | .digitEnd _ => none
  | .dialTimeout _ => none
  | .endOfDialingExpiry _ => none
  | .waitTimerExpiry _ => none
  | .deferredPromotion => none
  | .queueHeadService => none
  | .toneTimerExpiry _ => none
  | .orderTake => none
  | .driveCompletion _ => none
  | .driveCompletionLimitExpiry => none
  | .senderPhaseEnd _ => none
  | .ringTimerExpiry _ => none
  | .answerWaitExpiry _ => none
  | .calledReleaseExpiry _ => none
  | .incomingClearTimerExpiry _ => none
  | .meteringStepBoundary => none
  | .periodExpiry _ => none
  | .sweepReachesMeter => none
  | .sweepCompletion => none
  | .handlingLimitExpiry _ => none
  | .powerUp _ _ => none
  | .restartLineAsserted => none
  | .linkResetAsserted _ => none
  | .linkResetNegated _ => none
  | .restartLineNegated => none
  | .responseSent _ => none
  | .frameStartMark _ => none

/-- The frame of a code and operand bytes: the code, the operands and the check byte (11.6, R191). -/
def frameBytes (code : Nat) (operands : List Byte) : List Byte :=
  let body := BitVec.ofNat 8 code :: operands
  body ++ [Machine.checkByte body]

/-- The port and the frame of a command. -/
def frameOf (c : Instr) : Option (Port × List Byte) := (commandParts c).map fun x => (x.1, frameBytes x.2.1 x.2.2)

end Sys2Proof
end

