-- ==== Sys2Proof/Machine/Ports.lean ====
section
/-! DEFINITION. The link ports: the gathering of a frame and what its end mark does at a port (R189, R191, R192), and the checks
that the commands of several chapters share.

FRAME_START_MARK begins a frame and brings its bytes. The row of a command, BAD_FRAME or UNKNOWN_COMMAND is the end mark of a frame
that checks 1 to 4 of R191 judge to be that row. Outside such a frame the row does nothing (log entry 10). -/

namespace Sys2Proof.Machine

/-- Replaces a link port. -/
def LinkPorts.put (l : LinkPorts) (p : Port) (x : LinkPort) : LinkPorts :=
  match p with
  | .controller .a => { l with a := x }
  | .controller .b => { l with b := x }
  | .billing => { l with billing := x }

/-- Link port `p`. -/
def State.link (s : State) (p : Port) : LinkPort := s.links.get p

/-- Sets the state of link port `p`. -/
def State.setPhase (s : State) (p : Port) (x : LinkPhase) : State :=
  { s with links := s.links.put p { s.links.get p with phase := x } }

/-! ### Frames (R189) -/

/-- R189: the bytes of a frame as the port gathers them; those beyond sixteen are counted and not kept. -/
def Frame.gather (bytes : List Byte) : Frame := ⟨bytes.take 16, bytes.length - 16⟩

/-- R191, checks 1 to 4: the row that a gathered frame is judged to be at its end mark. -/
def Frame.judged (f : Frame) (p : Port) : Instr := if 0 < f.excess then .badFrame p else decodeFrame p f.kept

/-- R189: a start mark, with the bytes that follow it, begins a frame. In RECEIVING the frame being gathered is discarded and a new one
begins; in ANSWERING the new frame is gathered beside the response; a port held in reset takes none. -/
def State.startMark (s : State) (p : Port) (bytes : List Byte) : State :=
  match (s.link p).phase with
  | .ready => s.setPhase p (.receiving (Frame.gather bytes))
  | .receiving _ => s.setPhase p (.receiving (Frame.gather bytes))
  | .answering response _ => s.setPhase p (.answering response (some (Frame.gather bytes)))
  | .heldInReset => s

/-- An end mark taken now on the port is that of a frame judged to be the row `c`: the port is RECEIVING that frame (R189, R191). -/
def State.listens (s : State) (p : Port) (c : Instr) : Bool :=
  match (s.link p).phase with
  | .receiving f => decide (f.judged p = c)
  | _ => false

/-- R189: a frame that ends while a response is being sent is discarded without being judged. -/
def State.dropFrame (s : State) (p : Port) : State :=
  match (s.link p).phase with
  | .answering response (some _) => s.setPhase p (.answering response none)
  | _ => s

/-- The row `c` taken where the port does not judge it: the end of its frame while a response is being sent discards the frame, and an
end mark outside a frame, or of another frame than the row names, is nothing (R189, log entry 10). -/
def State.unheard (s : State) (p : Port) (c : Instr) : State :=
  match (s.link p).phase with
  | .answering _ (some f) => if f.judged p = c then s.dropFrame p else s
  | _ => s

/-! ### Commands -/

/-- R189, R192: a frame that yields a response makes the port ANSWERING. -/
def State.answer (s : State) (p : Port) (x : Response) : State := s.setPhase p (.answering x.bytes none)

/-- The ports on which the command summary permits a command (11.5). -/
inductive Permission where
  | controllers | billing | all
  deriving DecidableEq, Repr

/-- R191, checks 5 and 6: the port is a controller port that is fenced, or one the summary does not permit. -/
def State.gate (s : State) (p : Port) (m : Permission) : Option Status :=
  match p, m with
  | .controller x, .billing => if (s.att.port x).fenced then some .fenced else some .notPermitted
  | .controller x, _ => if (s.att.port x).fenced then some .fenced else none
  | .billing, .controllers => some .notPermitted
  | .billing, _ => none

/-- The frame of the command `c` is refused by the gate or taken by `body`, and its response is sent (R191, R192). -/
def State.command (s : State) (c : Instr) (p : Port) (m : Permission) (body : State → State × Response) : State :=
  if s.listens p c then
    match s.gate p m with
    | some x => s.answer p (.of x)
    | none => (body s).1.answer p (body s).2
  else s.unheard p c

/-- A command of the controller set: `body` is given the issuing port. -/
def State.controllerCommand (s : State) (c : Instr) (p : Port) (body : Side → State → State × Response) : State :=
  match p with
  | .controller x => s.command c p .controllers (body x)
  | .billing => s.command c p .controllers fun t => (t, .of .notPermitted)

/-- A command that reads: `body` gives the response and nothing changes. -/
def State.readCommand (s : State) (c : Instr) (p : Port) (m : Permission) (body : State → Response) : State :=
  s.command c p m fun t => (t, body t)

/-- A frame judged to be the row `c` by checks 1 to 4 of R191 is answered with the status given, on a fenced port too. -/
def State.refuseFrame (s : State) (c : Instr) (p : Port) (x : Status) : State :=
  if s.listens p c then s.answer p (.of x) else s.unheard p c

/-- A response of DONE with a state. -/
def doneWith (s : State) : State × Response := (s, .of .done)

/-- A refusal that changes nothing. -/
def refuse (s : State) (x : Status) : State × Response := (s, .of x)

/-- R177: the checks of the five acting commands up to the register's state: the register number, then the handler. -/
def acting (x : Side) (register : Byte) (s : State) (body : RegNo → State × Response) : State × Response :=
  match numbered 40 register.toNat with
  | none => refuse s .badOperand
  | some r =>
    match s.handler (.register r) with
    | none => refuse s .notBound
    | some y => if y = x then body r else refuse s .heldByOther

end Sys2Proof.Machine
end

