-- ==== Sys2Proof/Machine/Billing.lean ====
section
/-! DEFINITION. Chapter 9: the commands on meters, the snapshot and its sweep, and the commands on tickets. -/

namespace Sys2Proof.Machine

open Host (Outcome)

/-- The subscriber that an equipment number and a party code name. -/
def subscriberOperand (equipment : Half) (party : Byte) : Option Subscriber :=
  match numbered 512 equipment.toNat, partyOperand party with
  | some n, some p => some ⟨n, p⟩
  | _, _ => none

/-- The result of Read Meter (R152). -/
def readMeterResponse (equipment : Half) (party : Byte) (s : State) : Response :=
  match subscriberOperand equipment party with
  | none => .of .badOperand
  | some x => ⟨.done, encMeter (tget s.store.meters x.meterIndex) ++ enc2 s.store.fullCount⟩

/-- READ_METER (R152). -/
def execReadMeter (port : Port) (equipment : Half) (party : Byte) (s : State) : Outcome State Fault Refusal :=
  .next (s.readCommand (.readMeter port equipment party) port .all (readMeterResponse equipment party))

/-- R153: Adjust Meter. An addition of 0 copies the meter during a sweep (R158) and changes nothing else (log entry 11). -/
def adjustMeter (equipment : Half) (party : Byte) (n : Half) (_ : Side) (s : State) : State × Response :=
  match subscriberOperand equipment party with
  | none => refuse s .badOperand
  | some x =>
    let u := s.copyMeter x.meterIndex
    let before := (tget s.store.meters x.meterIndex).value
    (if n.toNat = 0 then u else u.raiseMeter x.meterIndex (min Config.maxMeter (before + n.toNat)), ⟨.done, enc3 before⟩)

/-- ADJUST_METER (R153). -/
def execAdjustMeter (port : Port) (equipment : Half) (party : Byte) (n : Half) (s : State) : Outcome State Fault Refusal :=
  .next (s.controllerCommand (.adjustMeter port equipment party n) port (adjustMeter equipment party n))

/-- R154: meter `i` takes a value and its full flag is cleared. -/
def State.presetTo (s : State) (i : Fin 1024) (v : Nat) : State :=
  { s with store := { s.store with
      meters := tset s.store.meters i ⟨v, false⟩
      fullCount := s.store.fullCount - (tget s.store.meters i).full.toNat } }

/-- R154: Preset Meter. -/
def presetMeter (equipment : Half) (party : Byte) (value : Triple) (_ : Side) (s : State) : State × Response :=
  match subscriberOperand equipment party with
  | none => refuse s .badOperand
  | some x =>
    if (s.line x.line).state ≠ .outOfService then refuse s .inUse
    else doneWith ((s.copyMeter x.meterIndex).presetTo x.meterIndex value.toNat)

/-- PRESET_METER (R154). -/
def execPresetMeter (port : Port) (equipment : Half) (party : Byte) (value : Triple) (s : State) :
    Outcome State Fault Refusal :=
  .next (s.controllerCommand (.presetMeter port equipment party value) port (presetMeter equipment party value))

/-! ### The snapshot (section 9.3) -/

/-- R156: Take Snapshot. -/
def takeSnapshot (s : State) : State × Response :=
  match s.store.snapshot with
  | .idle =>
    doneWith { s with store := { s.store with
      snapshot := .sweeping 0 0
      marks := Vector.replicate 1024 false
      snapshotDay := s.tariff.day
      snapshotMinute := s.tariff.minute } }
  | _ => refuse s .busy

/-- TAKE_SNAPSHOT (R156). -/
def execTakeSnapshot (port : Port) (s : State) : Outcome State Fault Refusal :=
  .next (s.command (.takeSnapshot port) port .billing takeSnapshot)

/-- The result of Read Snapshot (R159). -/
def readSnapshotResponse (block : Byte) (s : State) : Response :=
  match numbered 64 block.toNat with
  | none => .of .badOperand
  | some b =>
    match s.store.snapshot with
    | .ready => ⟨.done, encSnapshotBlock s.store b⟩
    | .sweeping _ _ => .of .busy
    | .idle => .of .wrongState

/-- READ_SNAPSHOT (R159). -/
def execReadSnapshot (port : Port) (block : Byte) (s : State) : Outcome State Fault Refusal :=
  .next (s.readCommand (.readSnapshot port block) port .billing (readSnapshotResponse block))

/-- R160: Release Snapshot. -/
def releaseSnapshot (s : State) : State × Response := doneWith { s with store := { s.store with snapshot := .idle } }

/-- RELEASE_SNAPSHOT (R160). -/
def execReleaseSnapshot (port : Port) (s : State) : Outcome State Fault Refusal :=
  .next (s.command (.releaseSnapshot port) port .billing releaseSnapshot)

/-- R157: the sweep reaches the next meter: it is copied unless its mark is set, and the sweep position moves on. -/
def State.sweepStep (s : State) : State :=
  match s.store.snapshot with
  | .sweeping position time =>
    match numbered 1024 position with
    | some i =>
      let u := s.copyMeter i
      { u with store := { u.store with snapshot := .sweeping (position + 1) time } }
    | none => s
  | _ => s

/-- SWEEP_REACHES_METER (R157). -/
def execSweepReachesMeter (s : State) : Outcome State Fault Refusal := .next s.sweepStep

/-- R157: the sweep reaches every meter it has not reached yet. -/
def State.sweepRest (s : State) : State :=
  { s with store := { s.store with
      values := tmap (fun i v => if tget s.store.marks i then v else tget s.store.meters i) s.store.values
      marks := Vector.replicate 1024 true } }

/-- R157: the sweep completion, 20 ms after Take Snapshot: the meters the sweep had still to reach have been reached by then, and
the snapshot becomes READY. -/
def State.sweepDone (s : State) : State :=
  match s.store.snapshot with
  | .sweeping _ time =>
    if Config.sweepTime ≤ time then { s.sweepRest with store := { s.sweepRest.store with snapshot := .ready } } else s
  | _ => s

/-- SWEEP_COMPLETION (R157). -/
def execSweepCompletion (s : State) : Outcome State Fault Refusal := .next s.sweepDone

/-! ### Tickets (section 9.5) -/

/-- R165: Set Directory Digit. -/
def setDirectoryDigit (digit : Byte) (_ : Side) (s : State) : State × Response :=
  match digitOperand digit with
  | none => refuse s .badOperand
  | some d => doneWith { s with tickets := { s.tickets with directoryDigit := d } }

/-- SET_DIRECTORY_DIGIT (R165). -/
def execSetDirectoryDigit (port : Port) (digit : Byte) (s : State) : Outcome State Fault Refusal :=
  .next (s.controllerCommand (.setDirectoryDigit port digit) port (setDirectoryDigit digit))

/-- The result of Read Ticket (R166). -/
def readTicketResponse (s : State) : Response :=
  match s.tickets.stored with
  | [] => .of .empty
  | t :: _ => ⟨.done, encTicket t⟩

/-- READ_TICKET (R166). -/
def execReadTicket (port : Port) (s : State) : Outcome State Fault Refusal :=
  .next (s.readCommand (.readTicket port) port .billing readTicketResponse)

/-- R167: Remove Ticket. -/
def removeTicket (sequence : Half) (s : State) : State × Response :=
  match s.tickets.stored with
  | [] => refuse s .empty
  | t :: rest =>
    if t.sequence = sequence then doneWith { s with tickets := { s.tickets with stored := rest } } else refuse s .stale

/-- REMOVE_TICKET (R167). -/
def execRemoveTicket (port : Port) (sequence : Half) (s : State) : Outcome State Fault Refusal :=
  .next (s.command (.removeTicket port sequence) port .billing (removeTicket sequence))

/-- The result of Read Ticket Status (R168). -/
def readTicketStatusResponse (s : State) : Response :=
  ⟨.done, enc1 s.tickets.stored.length ++ enc1 s.tickets.reserved ++ enc2 s.tickets.sequence.toNat ++
    encDigit s.tickets.directoryDigit⟩

/-- READ_TICKET_STATUS (R168). -/
def execReadTicketStatus (port : Port) (s : State) : Outcome State Fault Refusal :=
  .next (s.readCommand (.readTicketStatus port) port .all readTicketStatusResponse)

end Sys2Proof.Machine
end

