-- ==== Sys2Proof/Machine/Dialling.lean ====
section
/-! DEFINITION. Chapters 3 and 4, dialling: the walk of a digit, the route result, the completion or refusal of a string, the
clear, the digit end, the digit error and the dialling timers. -/

namespace Sys2Proof.Machine

open Host (Outcome)

/-! ### Refusal and completion -/

/-- R60: a refusal by the Translator. The open of a terminal caught in a break is taken at the detachment (R49). -/
def State.refuseString (s : State) (r : RegNo) (tone : Tone) (cause : ToneCause) (k : EventKind) : State :=
  ((s.enterTone r tone cause).post (.register r) k).openAtDetachment r

/-- R60, outcome VACANT. -/
def State.refuseVacant (s : State) (r : RegNo) : State := s.refuseString r .nu .vacant .vacant

/-- R67: completion of a digit string, with the open of a terminal caught in a break (R49). -/
def State.completeString (s : State) (r : RegNo) : State :=
  ((((s.modReg r fun g => { g with timer := none }).detachReceiver r false).modReg r fun g =>
    { g with state := .translated }).post (.register r) .translated).openAtDetachment r

/-! ### The walk (section 4.2) -/

/-- The outcome of the checks of R62 on a route entry, in their order; `room` is whether the room check passes. -/
inductive RouteCheck where
  | accepted | invalidRoute | noRoom | level | ticketsFull
  deriving DecidableEq, Repr

/-- R62, R69: the checks of a route result for a caller of this access level. -/
def State.checkRoute (s : State) (e : RouteEntry) (level : Nat) (room : Bool) : RouteCheck :=
  match e.terms with
  | none => .invalidRoute
  | some (required, _, ticketed) =>
    if e.isLocal ∧ !room then .noRoom
    else if level < required then .level
    else if ticketed ∧ Config.ticketPlaces ≤ s.ticketTotal then .ticketsFull
    else .accepted

/-- R63, steps 1 to 3: an accepted route result is recorded, its reference counted and any reservation taken. -/
def State.recordRoute (s : State) (r : RegNo) (t : RouteNo) : State :=
  let e := (s.route t).entry
  let u := (s.modReg r fun g => { g with route := some t, walkNode := none, directoryDigits := 0 }).modRefCount t (· + 1)
  match e with
  | .outgoing _ _ true _ _ _ _ _ => u.takeReservation r
  | _ => u

/-- R63, step 4, and R66: an OUTGOING route with this total is complete at this number of digits. -/
def stringComplete (total digits : Nat) : Bool := if total = 0 then Config.maxDigits ≤ digits else total ≤ digits

/-- R62, R63: the route result. -/
def State.routeResult (s : State) (r : RegNo) (t : RouteNo) : State :=
  let g := s.reg r
  let e := (s.route t).entry
  let level := (g.origin.map fun o => s.accessLevel o.terminal).getD 0
  match s.checkRoute e level (g.digits.length < 12) with
  | .invalidRoute => s.refuseVacant r
  | .noRoom => s.refuseVacant r
  | .level => s.refuseString r .nu .barred .barred
  | .ticketsFull => s.refuseString r .congestion .congestion .congestion
  | .accepted =>
    let u := s.recordRoute r t
    match e with
    | .outgoing _ _ _ _ _ _ _ total => if stringComplete total g.digits.length then u.completeString r else u
    | _ => u

/-- R65: the directory slot that the last three digits name. -/
def directorySlotOf (digits : List Digit) : Fin 1000 :=
  match digits.reverse with
  | d3 :: d2 :: d1 :: _ => ⟨100 * d1.val + 10 * d2.val + d3.val, by omega⟩
  | _ => 0

/-- R65: a directory digit; the third looks up the directory. -/
def State.directoryDigit (s : State) (r : RegNo) : State :=
  let n := (s.reg r).directoryDigits + 1
  let u := s.modReg r fun g => { g with directoryDigits := n }
  if n < 3 then u
  else
    match tget s.trans.directory (directorySlotOf (s.reg r).digits) with
    | none => u.refuseVacant r
    | some x =>
      if (s.line x.line).state = .outOfService then u.refuseVacant r
      else (u.modReg r fun g => { g with destination := some x }).completeString r

/-- R58, R59, R65, R66: the Translator takes the digit that has just been appended. -/
def State.translate (s : State) (r : RegNo) (d : Digit) : State :=
  let g := s.reg r
  match g.walkNode with
  | some n =>
    match tget (tget s.trans.nodes n) d with
    | .node m =>
      let u := s.modReg r fun g => { g with walkNode := some m }
      if Config.maxDigits ≤ g.digits.length then u.refuseVacant r else u
    | .vacant => s.refuseVacant r
    | .route t => s.routeResult r t
  | none =>
    match s.routeEntry r with
    | some (.localCall _ _) => s.directoryDigit r
    | some (.outgoing _ _ _ _ _ _ _ total) => if stringComplete total g.digits.length then s.completeString r else s
    | _ => s

/-- R50: the dialling timer started at a digit end that leaves the register DIALING. -/
def State.diallingTimer (s : State) (r : RegNo) : SupervisoryTimer :=
  match s.routeEntry r with
  | some (.outgoing _ _ _ _ _ _ _ 0) => ⟨.endOfDialing, Config.endOfDialingTime⟩
  | _ => ⟨.interdigit, Config.interdigitTime⟩

/-- R47: the digit of a pulse count, ten pulses for digit 0. -/
def digitOfPulses (pulses : Nat) : Digit := ⟨pulses % 10, by omega⟩

/-- R47: the digit end of an attached receiver. -/
def State.endDigit (s : State) (k : ReceiverNo) (a : Attachment) : State :=
  let d := digitOfPulses a.pulses
  let u := (s.setReceiver k (.attached { a with pulses := 0, makeTime := 0 })).modReg a.register fun g =>
    { g with digits := g.digits ++ [d] }
  let v := u.translate a.register d
  if (v.reg a.register).state = .dialing then
    v.modReg a.register fun g => { g with timer := some (v.diallingTimer a.register) }
  else v

/-- R46, R47: the clear or the digit end that a receiver's time advance has reached. -/
def State.takeReceiver (s : State) (k : ReceiverNo) : State :=
  match s.receiver k with
  | .attached a =>
    if (Receiver.attached a).clearDue then (s.endDialing a.register .abandoned).settle
    else if (Receiver.attached a).digitEndDue then (s.endDigit k a).settle
    else s
  | _ => s

/-- CLEAR (R46). A scan phase takes a clear that its time advance reaches with the advance (R42). -/
def execClear (receiver : ReceiverNo) (s : State) : Outcome State Fault Refusal :=
  .next (if (s.receiver receiver).clearDue then s.takeReceiver receiver else s)

/-- DIGIT_END (R47). A scan phase takes a digit end that its time advance reaches with the advance (R42). -/
def execDigitEnd (receiver : ReceiverNo) (s : State) : Outcome State Fault Refusal :=
  .next (if (s.receiver receiver).digitEndDue then s.takeReceiver receiver else s)

/-- R51: a dial timeout. -/
def State.dialExpiry (s : State) (r : RegNo) : State :=
  if (s.reg r).state = .dialing ∧ ((s.reg r).expired .firstDigit ∨ (s.reg r).expired .interdigit) then
    ((s.post (.register r) .dialTimeout).endDialing r .dialTimeout).settle
  else s

/-- DIAL_TIMEOUT (R51). -/
def execDialTimeout (register : RegNo) (s : State) : Outcome State Fault Refusal := .next (s.dialExpiry register)

/-- R52: the END_OF_DIALING expiry. -/
def State.endOfDialingExpiry (s : State) (r : RegNo) : State :=
  if (s.reg r).state = .dialing ∧ (s.reg r).expired .endOfDialing then (s.completeString r).settle else s

/-- END_OF_DIALING_EXPIRY (R52). -/
def execEndOfDialingExpiry (register : RegNo) (s : State) : Outcome State Fault Refusal :=
  .next (s.endOfDialingExpiry register)

/-! ### Breaks and makes (section 3.2) -/

/-- R42: a receiver's time advance at a scan phase. -/
def Receiver.advance : Receiver → Receiver
  | .attached a =>
    match a.phase with
    | .brk t => .attached { a with phase := .brk (min Config.clearBreak (t + Config.scanPhase)) }
    | .make => if a.pulses = 0 then .attached { a with makeTime := 0 }
      else .attached { a with makeTime := min Config.digitEndMake (a.makeTime + Config.scanPhase) }
  | k => k

/-- R43: an accepted OPEN on the terminal of an attached receiver in loop phase MAKE begins a break. -/
def State.beginBreak (s : State) (k : ReceiverNo) : State :=
  match s.receiver k with
  | .attached a =>
    match a.phase with
    | .make => s.setReceiver k (.attached { a with phase := .brk 0 })
    | .brk _ => s
  | _ => s

/-- R48: a mutilated break or an eleventh pulse. -/
def State.digitError (s : State) (r : RegNo) : State :=
  (s.enterTone r .nu .digitError).post (.register r) .digitError

/-- R44, R45: an accepted CLOSED on the terminal of an attached receiver in loop phase BREAK ends the break. -/
def State.endBreak (s : State) (k : ReceiverNo) : State :=
  match s.receiver k with
  | .attached a =>
    match a.phase with
    | .make => s
    | .brk t =>
      if t < Config.shortestPulse then s.setReceiver k (.attached { a with phase := .make })
      else if t ≤ Config.longestPulse then
        let u := if a.dialTone then s.removeDialTone a.register else s
        let v := u.setReceiver k
          (.attached { a with phase := .make, pulses := a.pulses + 1, makeTime := 0, dialTone := false })
        if a.pulses + 1 ≤ 10 then v else v.digitError a.register
      else s.digitError a.register
  | _ => s

/-! ### Blocking (section 3.6) -/

/-- R53: Block Receiver. -/
def blockReceiver (receiver : Byte) (_ : Side) (s : State) : State × Response :=
  match numbered 12 receiver.toNat with
  | none => refuse s .badOperand
  | some k =>
    match s.receiver k with
    | .free => doneWith (s.setReceiver k .blocked)
    | .attached a => (s.setReceiver k (.attached { a with blockAfterUse := true }), .of .inUse)
    | .blocked => doneWith s

/-- BLOCK_RECEIVER (R53). -/
def execBlockReceiver (port : Port) (receiver : Byte) (s : State) : Outcome State Fault Refusal :=
  .next (s.controllerCommand (.blockReceiver port receiver) port (blockReceiver receiver))

/-- R54: Unblock Receiver. -/
def unblockReceiver (receiver : Byte) (_ : Side) (s : State) : State × Response :=
  match numbered 12 receiver.toNat with
  | none => refuse s .badOperand
  | some k =>
    match s.receiver k with
    | .free => doneWith s
    | .attached a => doneWith (s.setReceiver k (.attached { a with blockAfterUse := false }))
    | .blocked => doneWith (s.setReceiver k .free).settle

/-- UNBLOCK_RECEIVER (R54). -/
def execUnblockReceiver (port : Port) (receiver : Byte) (s : State) : Outcome State Fault Refusal :=
  .next (s.controllerCommand (.unblockReceiver port receiver) port (unblockReceiver receiver))

/-- The result of Read Receiver (R55). -/
def readReceiverResponse (receiver : Byte) (s : State) : Response :=
  match numbered 12 receiver.toNat with
  | none => .of .badOperand
  | some k => ⟨.done, s.encReceiver (s.receiver k)⟩

/-- READ_RECEIVER (R55). -/
def execReadReceiver (port : Port) (receiver : Byte) (s : State) : Outcome State Fault Refusal :=
  .next (s.readCommand (.readReceiver port receiver) port .controllers (readReceiverResponse receiver))

end Sys2Proof.Machine
end

