-- ==== Sys2Proof/Machine/Hunting.lean ====
section
/-! DEFINITION. Chapter 5: Hunt Path and the maintenance of network elements. -/

namespace Sys2Proof.Machine

open Host (Outcome)

/-- The reasons of NO_PATH, in the order of their codes (11.6). -/
inductive NoPath where
  | links | junctors | trunks
  deriving DecidableEq, Repr

/-- 11.6. -/
def NoPath.code : NoPath → Nat
  | .links => 0 | .junctors => 1 | .trunks => 2

/-- An element is FREE. -/
def State.isFree (s : State) (e : ElemNo) : Bool := s.elem e = .free

/-- R76: the junctors of a switch, in ascending number. -/
def junctorsOf (w : Fin 8) : List (Fin 64) := (List.finRange 8).map fun k => ⟨8 * w.val + k.val, by omega⟩

/-- R76: the outgoing trunks of a switch, in ascending number. -/
def outTrunksOf (w : Fin 8) : List OutNo := (List.finRange 4).map fun k => ⟨4 * w.val + k.val, by omega⟩

/-- R84: the lowest-numbered FREE junctor of a switch. -/
def State.freeJunctor (s : State) (w : Fin 8) : Option (Fin 64) := (junctorsOf w).find? fun j => s.isFree (junctorElem j)

/-- R85: the lowest-numbered FREE outgoing trunk of a switch assigned to a group. -/
def State.freeTrunk (s : State) (w : Fin 8) (g : GroupNo) : Option OutNo :=
  (outTrunksOf w).find? fun o => s.isFree (outElem o) && decide (tget s.net.groups o = some g)

/-- What a successful hunt takes: the switch, the path record, and for an outgoing path the search that found it (`true`
for ALTERNATE). -/
structure Found where
  switch : Fin 8
  path : Path
  junctor : Option (Fin 64)
  trunk : Option OutNo
  alternate : Option Bool
  deriving DecidableEq, Repr

/-- R84: the hunt of a switch for a local call from group `g1` to group `g2`. -/
def State.localAt (s : State) (g1 g2 : Fin 16) (w : Fin 8) : Option Found :=
  if s.isFree (oLink g1 w) && s.isFree (tLink g2 w) then
    (s.freeJunctor w).map fun j =>
      ⟨w, ⟨some (oLink g1 w), some (junctorElem j), some (tLink g2 w)⟩, some j, none, none⟩
  else none

/-- R84: a local hunt. -/
def State.huntLocal (s : State) (g1 g2 : Fin 16) : Except NoPath Found :=
  match (huntOrder s.net.huntPointer).findSome? (s.localAt g1 g2) with
  | some f => .ok f
  | none =>
    if (huntOrder s.net.huntPointer).any fun w => s.isFree (oLink g1 w) && s.isFree (tLink g2 w) then .error .junctors
    else .error .links

/-- R85: the hunt of a switch for an outgoing call from group `g1` on trunk group `g`. -/
def State.outgoingAt (s : State) (g1 : Fin 16) (g : GroupNo) (alternate : Bool) (w : Fin 8) : Option Found :=
  if s.isFree (oLink g1 w) then
    (s.freeTrunk w g).map fun o => ⟨w, ⟨some (oLink g1 w), some (outElem o), none⟩, none, some o, some alternate⟩
  else none

/-- R85: an outgoing hunt: the primary group, then the alternate group if the route has one. -/
def State.huntOutgoing (s : State) (g1 : Fin 16) (primary : GroupNo) (alternate : Option GroupNo) : Except NoPath Found :=
  let order := huntOrder s.net.huntPointer
  match order.findSome? (s.outgoingAt g1 primary false) with
  | some f => .ok f
  | none =>
    match alternate.bind fun g => order.findSome? (s.outgoingAt g1 g true) with
    | some f => .ok f
    | none => if order.any fun w => s.isFree (oLink g1 w) then .error .trunks else .error .links

/-- R86: an incoming hunt. -/
def State.huntIncoming (s : State) (i : TrunkNo) (g2 : Fin 16) : Except NoPath Found :=
  let w := trunkSwitch i
  if s.isFree (tLink g2 w) then .ok ⟨w, ⟨none, none, some (tLink g2 w)⟩, none, none, none⟩ else .error .links

/-- R88: a successful hunt. The hunt pointer moves for a call from a line; the called line is reserved when there is one. -/
def State.takePath (s : State) (r : RegNo) (f : Found) (called : Option LineNo) (fromLine : Bool) : State :=
  let u := s.setElems f.path.elements .reserved
  let v := match called with
    | some n => u.modLine n fun l => { l with state := .termReserved, register := some r, earlyOffHook := some false }
    | none => u
  let w : State := if fromLine then { v with net := { v.net with huntPointer := f.switch + 1 } } else v
  (w.modReg r fun g => { g with state := .connecting, path := f.path }).appendOrder (.operate r)

/-- R88: the result of a successful hunt: the switch, the junctor, the trunk, PRIMARY or ALTERNATE, and the element numbers of
the path record. -/
def encFound (f : Found) : List Byte :=
  enc1 f.switch.val ++ opt1 (f.junctor.map (·.val)) ++ opt1 (f.trunk.map (·.val)) ++
  opt1 (f.alternate.map (·.toNat)) ++ enc1 f.path.elements.length ++ f.path.elements.flatMap fun e => enc2 e.val

/-- R87, R88: the outcome of a hunt. -/
def State.huntOutcome (s : State) (r : RegNo) (x : Except NoPath Found) (called : Option LineNo) (fromLine : Bool) :
    State × Response :=
  match x with
  | .ok f => (s.takePath r f called fromLine, ⟨.done, encFound f⟩)
  | .error e => (s, ⟨.noPath, enc1 e.code⟩)

/-- R82 to R88: a hunt of a TRANSLATED register. A call with no path shape in R77 is answered NO_PATH with reason TRUNKS. -/
def State.hunt (s : State) (r : RegNo) : State × Response :=
  match (s.reg r).origin, s.routeEntry r, (s.reg r).destination with
  | some (.line n _), some (.localCall _ _), some x =>
    if (s.line x.line).state ≠ .idle then refuse s .lineBusy
    else s.huntOutcome r (s.huntLocal (lineGroup n) (lineGroup x.line)) (some x.line) true
  | some (.line n _), some (.outgoing _ _ _ primary alternate _ _ _), _ =>
    s.huntOutcome r (s.huntOutgoing (lineGroup n) primary alternate) none true
  | some (.trunk i), some (.localCall _ _), some x =>
    if (s.line x.line).state ≠ .idle then refuse s .lineBusy
    else s.huntOutcome r (s.huntIncoming i (lineGroup x.line)) (some x.line) false
  | _, _, _ => (s, ⟨.noPath, enc1 NoPath.trunks.code⟩)

/-- R82: some element is INITIALISING. -/
def State.initialising (s : State) : Bool := !(tfind (fun _ e => decide (e = .initialising)) s.net.elements).isEmpty

/-- R82: Hunt Path from a binder. -/
def huntPath (register : Byte) (x : Side) (s : State) : State × Response :=
  acting x register s fun r =>
    if (s.reg r).state ≠ .translated then refuse s .wrongState
    else if s.initialising then refuse s .wrongState
    else s.hunt r

/-- HUNT_PATH (R82). -/
def execHuntPath (port : Port) (register : Byte) (s : State) : Outcome State Fault Refusal :=
  .next (s.controllerCommand (.huntPath port register) port (huntPath register))

/-- R90: Seize Element, a test-and-set; the response carries the state the element held. -/
def seizeElement (element : Half) (_ : Side) (s : State) : State × Response :=
  match numbered 352 element.toNat with
  | none => refuse s .badOperand
  | some e => (if s.elem e = .free then s.setElem e .blocked else s, ⟨.done, enc1 (s.elem e).code⟩)

/-- SEIZE_ELEMENT (R90). -/
def execSeizeElement (port : Port) (element : Half) (s : State) : Outcome State Fault Refusal :=
  .next (s.controllerCommand (.seizeElement port element) port (seizeElement element))

/-- R91: Return Element. -/
def returnElement (element : Half) (_ : Side) (s : State) : State × Response :=
  match numbered 352 element.toNat with
  | none => refuse s .badOperand
  | some e =>
    match s.elem e with
    | .blocked => doneWith (s.setElem e .free)
    | .faulted => doneWith (s.setElem e .free)
    | _ => refuse s .wrongState

/-- RETURN_ELEMENT (R91). -/
def execReturnElement (port : Port) (element : Half) (s : State) : Outcome State Fault Refusal :=
  .next (s.controllerCommand (.returnElement port element) port (returnElement element))

/-- R92: Assign Trunk Group. -/
def assignTrunkGroup (trunk group : Byte) (_ : Side) (s : State) : State × Response :=
  match numbered 32 trunk.toNat, groupOperand group with
  | some o, some g =>
    if s.elem (outElem o) = .free ∨ s.elem (outElem o) = .blocked then
      doneWith { s with net := { s.net with groups := tset s.net.groups o g } }
    else refuse s .inUse
  | _, _ => refuse s .badOperand

/-- ASSIGN_TRUNK_GROUP (R92). -/
def execAssignTrunkGroup (port : Port) (trunk group : Byte) (s : State) : Outcome State Fault Refusal :=
  .next (s.controllerCommand (.assignTrunkGroup port trunk group) port (assignTrunkGroup trunk group))

/-- R93: the register whose path record names an element. -/
def State.elementRegister (s : State) (e : ElemNo) : Option RegNo :=
  (tfind (fun _ g => decide (e ∈ g.path.elements)) s.regs).head?

/-- R93: the register a read element carries, in RESERVED, OPERATING, HELD or RELEASING. -/
def State.readElementRegister (s : State) (e : ElemNo) : Option RegNo :=
  match s.elem e with
  | .reserved => s.elementRegister e
  | .operating => s.elementRegister e
  | .held => s.elementRegister e
  | .releasing => s.elementRegister e
  | _ => none

/-- The result of Read Element (R93). -/
def readElementResponse (element : Half) (s : State) : Response :=
  match numbered 352 element.toNat with
  | none => .of .badOperand
  | some e =>
    ⟨.done, enc1 (s.elem e).code ++ opt1 ((s.readElementRegister e).map (·.val)) ++
      opt1 (((numbered 32 (e.val - 320)).bind fun o =>
        if 320 ≤ e.val then (tget s.net.groups o).map (·.val) else none)) ++
      enc1 s.net.huntPointer.val⟩

/-- READ_ELEMENT (R93). -/
def execReadElement (port : Port) (element : Half) (s : State) : Outcome State Fault Refusal :=
  .next (s.readCommand (.readElement port element) port .controllers (readElementResponse element))

end Sys2Proof.Machine
end

