-- ==== Sys2Proof/Machine/Lines.lean ====
section
/-! DEFINITION. Chapter 2: the administration of lines and incoming trunk terminals, the wait timer, the promotion of a
deferred terminal and the service of the queue head. The scan phase itself stands in Machine/Scan.lean. -/

namespace Sys2Proof.Machine

open Host (Outcome)

/-- R34: a terminal that is OUT_OF_SERVICE is put into service, IDLE or LOCKOUT by its accepted loop. -/
def State.putIntoService (s : State) (t : Terminal) : State := s.leaveCall t

/-- R34: the change of class is refused while a directory slot maps to party B of a TWO_PARTY line. -/
def State.classLocked (s : State) (n : LineNo) (cls : LineClass) : Bool :=
  (s.line n).cls = .twoParty && !decide (cls = .twoParty) && s.inDirectory ⟨n, .b⟩

/-- R34: Write Line. -/
def writeLine (kind : Byte) (number : Half) (cls : Byte) (_ : Side) (s : State) : State × Response :=
  match terminalOperand kind number, classOperand cls with
  | some (.line n), some c =>
    match (s.line n).state with
    | .outOfService =>
      if s.classLocked n c then refuse s .inUse
      else doneWith ((s.modLine n fun l => { l with cls := c }).putIntoService (.line n))
    | .idle => if s.classLocked n c then refuse s .inUse else doneWith (s.modLine n fun l => { l with cls := c })
    | .lockout => if s.classLocked n c then refuse s .inUse else doneWith (s.modLine n fun l => { l with cls := c })
    | _ => refuse s .inUse
  | some (.trunk i), some _ =>
    match (s.trunk i).state with
    | .outOfService => doneWith (s.putIntoService (.trunk i))
    | .idle => doneWith s
    | .lockout => doneWith s
    | _ => refuse s .inUse
  | _, _ => refuse s .badOperand

/-- WRITE_LINE (R34). -/
def execWriteLine (port : Port) (kind : Byte) (number : Half) (cls : Byte) (s : State) : Outcome State Fault Refusal :=
  .next (s.controllerCommand (.writeLine port kind number cls) port (writeLine kind number cls))

/-- A terminal becomes OUT_OF_SERVICE; its class, filter and meters are kept (R35). -/
def State.takeOut (s : State) : Terminal → State
  | .line n => s.modLine n fun l => l.outOfCall .outOfService
  | .trunk i => s.modTrunk i fun k => k.outOfCall .outOfService

/-- R35: Remove Line. A waiting or deferred terminal leaves the queue or the set, and a freed place is filled (R31). -/
def removeLine (kind : Byte) (number : Half) (_ : Side) (s : State) : State × Response :=
  match terminalOperand kind number with
  | none => refuse s .badOperand
  | some (.line n) =>
    match (s.line n).state with
    | .outOfService => doneWith s
    | .idle => doneWith (s.takeOut (.line n))
    | .lockout => doneWith (s.takeOut (.line n))
    | .waiting => doneWith ((s.leaveQueue (.line n)).takeOut (.line n)).settle
    | .deferred => doneWith ((s.leaveQueue (.line n)).takeOut (.line n))
    | _ => refuse s .inUse
  | some (.trunk i) =>
    match (s.trunk i).state with
    | .outOfService => doneWith s
    | .idle => doneWith (s.takeOut (.trunk i))
    | .lockout => doneWith (s.takeOut (.trunk i))
    | .waiting => doneWith ((s.leaveQueue (.trunk i)).takeOut (.trunk i)).settle
    | .deferred => doneWith ((s.leaveQueue (.trunk i)).takeOut (.trunk i))
    | .busy => refuse s .inUse

/-- REMOVE_LINE (R35). -/
def execRemoveLine (port : Port) (kind : Byte) (number : Half) (s : State) : Outcome State Fault Refusal :=
  .next (s.controllerCommand (.removeLine port kind number) port (removeLine kind number))

/-- The result of Read Line (R36): 17, 13 or 4 bytes for a line, an incoming trunk terminal or an outgoing trunk, each kind with the items
that R36 lists for it, where R192 speaks of one length for a command (log entry 23, DESIGN CHOICE). -/
def readLineResponse (kind : Byte) (number : Half) (s : State) : Response :=
  match terminalOperand kind number with
  | some (.line n) => ⟨.done, s.encLine n⟩
  | some (.trunk i) => ⟨.done, s.encTrunk i⟩
  | none =>
    match kind.toNat, numbered 32 number.toNat with
    | 2, some o => ⟨.done, s.encAnswer o⟩
    | _, _ => .of .badOperand

/-- READ_LINE (R36). -/
def execReadLine (port : Port) (kind : Byte) (number : Half) (s : State) : Outcome State Fault Refusal :=
  .next (s.readCommand (.readLine port kind number) port .controllers (readLineResponse kind number))

/-- R25: a WAITING or DEFERRED terminal whose wait timer has expired leaves the queue or the set and goes to LOCKOUT. -/
def State.waitExpiry (s : State) (t : Terminal) : State :=
  if s.awaitsService t ∧ s.waitTimer t = some 0 then ((s.leaveQueue t).toLockout t).settle else s

/-- WAIT_TIMER_EXPIRY (R25). -/
def execWaitTimerExpiry (terminal : Terminal) (s : State) : Outcome State Fault Refusal := .next (s.waitExpiry terminal)

/-- DEFERRED_PROMOTION (R31): one terminal moves into a free place of the queue, and the service conditions are examined. In
this model every action that frees a place does the same at once (log entry 2). -/
def execDeferredPromotion (s : State) : Outcome State Fault Refusal :=
  .next (if !s.scan.deferred.isEmpty && decide (s.scan.queue.length < Config.queuePlaces) then s.settle else s)

/-- QUEUE_HEAD_SERVICE (R32): the head of the queue is served when the three conditions hold. In this model every action that
brings them about does the same at once (log entry 2). -/
def execQueueHeadService (s : State) : Outcome State Fault Refusal := .next s.serveHead

end Sys2Proof.Machine
end

