-- ==== Sys2Proof/Machine/Links.lean ====
section
/-! DEFINITION. Chapter 11: the steps of a link port beside the commands: frames that fail the checks, frames discarded, the
start mark, the end of a response and the link-reset line. -/

namespace Sys2Proof.Machine

open Host (Outcome)

/-- BAD_FRAME (R191, checks 1, 2 and 4), examined before the fence and the permission. -/
def execBadFrame (port : Port) (s : State) : Outcome State Fault Refusal :=
  .next (s.refuseFrame (.badFrame port) port .badFrame)

/-- UNKNOWN_COMMAND (R191, check 3), examined before the fence and the permission. -/
def execUnknownCommand (port : Port) (s : State) : Outcome State Fault Refusal :=
  .next (s.refuseFrame (.unknownCommand port) port .unknownCommand)

/-- FRAME_START_MARK (R189). -/
def execFrameStartMark (frame : FrameStart) (s : State) : Outcome State Fault Refusal :=
  .next (s.startMark frame.port frame.bytes)

/-- A frame is being gathered on the port, beside a response or not (R189). -/
def State.gathers (s : State) (p : Port) : Bool :=
  match (s.link p).phase with
  | .receiving _ => true
  | .answering _ f => f.isSome
  | _ => false

/-- FRAME_DISCARDED (R189): a frame cut off by a new start mark leaves the new frame being gathered; a frame that ends while a
response is being sent leaves the port answering with no frame begun. Where no frame is gathered none is discarded. -/
def execFrameDiscarded (port : Port) (cause : DiscardCause) (s : State) : Outcome State Fault Refusal :=
  .next (match cause with
    | .cutOff bytes => if s.gathers port then s.startMark port bytes else s
    | .endedWhileAnswering => s.dropFrame port)

/-- R189: the response has been sent, with its end mark; a frame that has begun meanwhile goes on being gathered. -/
def State.endResponse (s : State) (p : Port) : State :=
  match (s.link p).phase with
  | .answering _ (some f) => s.setPhase p (.receiving f)
  | .answering _ none => s.setPhase p .ready
  | _ => s

/-- RESPONSE_SENT (R189). -/
def execResponseSent (port : Port) (s : State) : Outcome State Fault Refusal := .next (s.endResponse port)

/-- R188: what the port reset of a controller port does to the Attention Unit. The fence is kept. -/
def State.resetController (s : State) (y : Side) : State :=
  (s.returnBindings y).modPort y fun p => { p with enabled := false, strikes := 0 }

/-- R193, R188: the port reset at the change of a link-reset line from negated to asserted. -/
def State.portReset (s : State) (p : Port) : State :=
  let u : State := { s with links := s.links.put p ⟨.heldInReset, true⟩ }
  match p with
  | .controller y => u.resetController y
  | .billing => u

/-- LINK_RESET_ASSERTED (R193): taken at the change of the line; a line already asserted changes nothing. -/
def execLinkResetAsserted (port : Port) (s : State) : Outcome State Fault Refusal :=
  .next (if (s.link port).resetAsserted then s else s.portReset port)

/-- LINK_RESET_NEGATED (R190): the port becomes READY and waits for the next start mark. -/
def execLinkResetNegated (port : Port) (s : State) : Outcome State Fault Refusal :=
  .next (if (s.link port).resetAsserted then { s with links := s.links.put port ⟨.ready, false⟩ } else s)

end Sys2Proof.Machine
end

