-- ==== Sys2Proof/Machine/Orders.lean ====
section
/-! DEFINITION. Chapter 6: the taking of an order, completions and their check results, the drive completion limit and Read
Orders. -/

namespace Sys2Proof.Machine

open Host (Outcome)

/-- ORDER_TAKE (R98): the step that follows when an order has joined the queue with none in flight. Where the in-flight record becomes
absent, the same action takes the oldest order (R98, R109, R110). -/
def execOrderTake (s : State) : Outcome State Fault Refusal := .next s.takeOrder

/-- R99: the check result of an element of the in-flight list: good if it appears with GOOD, bad if it appears with BAD or
not at all. An element that appears with both has a free value (log entry 7). -/
def checkResult (draw : Nat) (results : List (Half × Bool)) (e : ElemNo) : Bool :=
  let good := results.any fun x => x.1.toNat = e.val && x.2
  let bad := results.any fun x => x.1.toNat = e.val && !x.2
  if good && bad then Config.contradictoryCheckGood draw e.val else good

/-- A part of a path record whose element is in the list is removed (R1). -/
def Path.without (p : Path) (es : List ElemNo) : Path :=
  ⟨p.oLink.filter (· ∉ es), p.middle.filter (· ∉ es), p.tLink.filter (· ∉ es)⟩

/-- The bad elements become FAULTED and leave the path record; the good ones take the state given. -/
def State.applyChecks (s : State) (r : RegNo) (good bad : List ElemNo) (x : ElemState) : State :=
  ((s.setElems bad .faulted).setElems good x).modReg r fun g => { g with path := g.path.without bad }

/-- R102, step 4: a called line in TERM_RESERVED becomes IDLE without a test of its loop. -/
def State.returnCalled (s : State) (r : RegNo) : State :=
  match (s.reg r).destination with
  | some x => if (s.line x.line).state = .termReserved ∧ (s.line x.line).register = some r then s.toIdle (.line x.line) else s
  | none => s

/-- ELEMENT_FAULT is posted to M when any element was bad (R108). -/
def State.postFault (s : State) (bad : List ElemNo) : State :=
  if bad.isEmpty then s else s.post .maintenance .elementFault

/-- R101: a good operate. -/
def State.operateGood (s : State) (r : RegNo) (es : List ElemNo) : State :=
  ((s.setElems es .held).modReg r fun g => { g with state := .set }).post (.register r) .pathReady

/-- R102: a partly faulted operate. -/
def State.operatePartly (s : State) (r : RegNo) (good bad : List ElemNo) : State :=
  (((s.applyChecks r good bad .releasing).appendOrder (.release r)).returnCalled r).postFault bad

/-- R103: an operate wholly bad. -/
def State.operateBad (s : State) (r : RegNo) (bad : List ElemNo) : State :=
  ((((s.applyChecks r [] bad .faulted).returnCalled r).modReg r fun g => { g with state := .translated }).post
    (.register r) .pathFault).postFault bad

/-- R105: the completion of a cancelled operate. -/
def State.operateCancelled (s : State) (r : RegNo) (good bad : List ElemNo) : State :=
  let u := s.applyChecks r good bad .releasing
  (if good.isEmpty then u.enterEnded r else u.appendOrder (.release r)).postFault bad

/-- R107: the completion of a release. -/
def State.releaseDone (s : State) (r : RegNo) (good bad : List ElemNo) : State :=
  let u := ((s.applyChecks r good bad .free).modReg r fun g => { g with path := Path.empty }).postFault bad
  match (u.reg r).state with
  | .clearing => u.enterEnded r
  | .connecting => (u.modReg r fun g => { g with state := .translated }).post (.register r) .pathFault
  | _ => u

/-- R109: the completion of NETWORK_CLEAR. -/
def State.networkClearDone (s : State) (bad : List ElemNo) : State :=
  if bad.isEmpty then
    ({ s with net := { s.net with elements := Vector.replicate 352 .free } } : State).post .maintenance .networkCleared
  else
    ({ s with orders := { s.orders with queue := .networkClear :: s.orders.queue } } : State).post .maintenance .driveTimeout

/-- R99: the check results of the order `f` that was in flight are applied, `good` saying which elements are good; the
in-flight record becomes absent. -/
def State.complete (s : State) (f : InFlight) (good : ElemNo → Bool) : State :=
  let ok := f.elements.filter good
  let bad := f.elements.filter fun e => !good e
  let u : State := { s with orders := { s.orders with inFlight := none } }
  match f.order with
  | .operate r =>
    if f.cancelled then u.operateCancelled r ok bad
    else if bad.isEmpty then u.operateGood r ok
    else if ok.isEmpty then u.operateBad r bad
    else u.operatePartly r ok bad
  | .release r => u.releaseDone r ok bad
  | .networkClear => u.networkClearDone bad

/-- R99: a completion is matched by kind and tag, and discarded when it matches nothing. The same action takes the next order (R98). -/
def State.takeCompletion (s : State) (c : Completion) : State :=
  match s.orders.inFlight with
  | some f =>
    if f.order.kind = c.kind ∧ f.tag = c.tag then
      (({ s with draws := s.draws + 1 } : State).complete f (checkResult s.draws c.results)).settle.takeOrder
    else s
  | none => s

/-- DRIVE_COMPLETION (R99). -/
def execDriveCompletion (completion : Completion) (s : State) : Outcome State Fault Refusal := .next (s.takeCompletion completion)

/-- R100: the drive completion limit of the in-flight order expires: every element is bad, the drive last-timeout record names
the order, and DRIVE_TIMEOUT is posted to M. -/
def State.driveExpiry (s : State) : State :=
  match s.orders.inFlight with
  | some f =>
    if Config.driveLimit ≤ f.time then
      let u := s.complete f fun _ => false
      (({ u with orders := { u.orders with lastTimeout := some (f.order, f.tag) } } : State).post .maintenance
        .driveTimeout).settle.takeOrder
    else s
  | none => s

/-- DRIVE_COMPLETION_LIMIT_EXPIRY (R100). -/
def execDriveCompletionLimitExpiry (s : State) : Outcome State Fault Refusal := .next s.driveExpiry

/-- READ_ORDERS (R111). -/
def execReadOrders (port : Port) (s : State) : Outcome State Fault Refusal :=
  .next (s.readCommand (.readOrders port) port .controllers fun t => ⟨.done, encOrders t.orders⟩)

end Sys2Proof.Machine
end

