-- ==== Sys2Proof/Machine/Registers.lean ====
section
/-! DEFINITION. Chapter 1: Read Register, Give Tone, Release Call and the expiry of the TONE timer. -/

namespace Sys2Proof.Machine

open Host (Outcome)

/-- The result of Read Register (R17, register as read). -/
def readRegisterResponse (register : Byte) (s : State) : Response :=
  match numbered 40 register.toNat with
  | none => .of .badOperand
  | some r => ⟨.done, encRegister (s.reg r) (s.subject (.register r))⟩

/-- READ_REGISTER (R17). -/
def execReadRegister (port : Port) (register : Byte) (s : State) : Outcome State Fault Refusal :=
  .next (s.readCommand (.readRegister port register) port .controllers (readRegisterResponse register))

/-- R6: a SET register gives up its called line, if its destination is LOCAL, before it enters TONE. -/
def State.giveUpCalled (s : State) (r : RegNo) : State :=
  match (s.reg r).destination with
  | some x => if s.calledRole r x.line then s.leaveCall (.line x.line) else s
  | none => s

/-- R5, R6: Give Tone from a binder. -/
def giveTone (register tone : Byte) (x : Side) (s : State) : State × Response :=
  match toneOperand tone with
  | none => refuse s .badOperand
  | some y =>
    acting x register s fun r =>
      match (s.reg r).state with
      | .translated => doneWith (s.enterTone r y .ordered)
      | .set => doneWith ((s.giveUpCalled r).enterTone r y .ordered)
      | _ => refuse s .wrongState

/-- GIVE_TONE (R5). -/
def execGiveTone (port : Port) (register tone : Byte) (s : State) : Outcome State Fault Refusal :=
  .next (s.controllerCommand (.giveTone port register tone) port (giveTone register tone))

/-- R16: Release Call from a binder. -/
def releaseCall (register : Byte) (x : Side) (s : State) : State × Response :=
  acting x register s fun r =>
    match (s.reg r).state with
    | .free => refuse s .wrongState
    | .clearing => refuse s .wrongState
    | .ended => refuse s .wrongState
    | .dialing => doneWith (s.endDialing r .forced).settle
    | _ => doneWith (s.release r .forced).settle

/-- RELEASE_CALL (R16). -/
def execReleaseCall (port : Port) (register : Byte) (s : State) : Outcome State Fault Refusal :=
  .next (s.controllerCommand (.releaseCall port register) port (releaseCall register))

/-- R8: expiry of the TONE timer releases the call; the tone cause decides the end cause. -/
def State.toneExpiry (s : State) (r : RegNo) : State :=
  if (s.reg r).state = .tone ∧ (s.reg r).expired .tone then
    (s.release r (if (s.reg r).tone.map (·.2) = some .digitError then .digitError else .toneTimeout)).settle
  else s

/-- TONE_TIMER_EXPIRY (R8). -/
def execToneTimerExpiry (register : RegNo) (s : State) : Outcome State Fault Refusal := .next (s.toneExpiry register)

end Sys2Proof.Machine
end

