-- ==== Sys2Proof/Machine/Restarts.lean ====
section
/-! DEFINITION. Chapter 10, restarts: the cold start, the warm restart and what starts each of them. -/

namespace Sys2Proof.Machine

open Host (Outcome)

/-! ### Cold start -/

/-- The order unit at a cold start, before NETWORK_CLEAR is taken (R109). -/
def OrderUnit.cold (tag : BitVec 8) : OrderUnit := ⟨[.networkClear], none, tag, none⟩

/-- R186: the cold start. Every block takes its initial contents (R18, R38, R56, R75, R94, R109, R129, R148, R169, R170) and
NETWORK_CLEAR is taken at once with the tag after the one given. The port states and the RESTART line stand (R194). -/
def State.coldStart (s : State) (cause : RestartCause) (tag : BitVec 8) : State :=
  ({ s with
    regs := Vector.replicate 40 CallRegister.free
    scan := Scanner.cold
    receivers := Vector.replicate 12 .free
    trans := Translator.cold
    net := Network.cold
    orders := OrderUnit.cold tag
    sig := Signalling.cold
    tariff := TariffUnit.cold
    store := MeterStore.cold
    tickets := TicketQueue.cold
    att := Attention.cold cause } : State).takeOrder

/-- Some register is in a state other than FREE. -/
def State.someBusyRegister (s : State) : Bool := !(tfind (fun _ g => !decide (g.state = .free)) s.regs).isEmpty

/-- R186: Initialise. The tag counter keeps its value (R109). -/
def initialise (_ : Side) (s : State) : State × Response :=
  if s.someBusyRegister then refuse s .inUse else doneWith (s.coldStart .initialise s.orders.tag)

/-- INITIALISE (R186). -/
def execInitialise (port : Port) (s : State) : Outcome State Fault Refusal :=
  .next (s.controllerCommand (.initialise port) port initialise)

/-! ### Warm restart -/

/-- R187, step 1: the Attention Unit is set as for a cold start, and the handling last-timeout record is kept. -/
def State.clearAttention (s : State) (cause : RestartCause) : State :=
  { s with att := { Attention.cold cause with lastTimeout := s.att.lastTimeout, lastRestart := (.warm, cause) } }

/-- R19: a register that the restart makes FREE. Its receiver detaches without DIAL_TONE_OFF (R56), and its reservation and its
route reference are returned. -/
def State.restartFree (s : State) (r : RegNo) : State := ((s.detachReceiver r true).returnReservation r).freeReg r

/-- R19: a register that the restart releases with end cause RESTART: R10 and R11 apply, its reservation is returned, and it
enters CLEARING with its path. -/
def State.restartRelease (s : State) (r : RegNo) : State :=
  let g := s.reg r
  let u := (s.modReg r fun g => { g with endCause := some .restart }).stopParts r g.state
  ((u.endRoles r .restart).returnReservation r).modReg r fun g => { g with state := .clearing }

/-- R19: a register at a warm restart, according to its state. -/
def State.restartReg (s : State) (r : RegNo) : State :=
  match (s.reg r).state with
  | .free => s
  | .talk => s
  | .clearing => s
  | .dialing => s.restartFree r
  | .translated => s.restartFree r
  | .ended => s.restartFree r
  | .tone => if (s.reg r).path.elements.isEmpty then s.restartFree r else s.restartRelease r
  | _ => s.restartRelease r

/-- R39: a terminal named in a role by a register in TALK. -/
def State.inTalk (s : State) (t : Terminal) : Bool :=
  match s.named t with
  | none => false
  | some r =>
    decide ((s.reg r).state = .talk) &&
      (s.callingRole r t || match t with
        | .line n => s.calledRole r n
        | .trunk _ => false)

/-- R39: a line at a warm restart; `kept` says that a register in TALK names it. -/
def LineRec.restarted (l : LineRec) (kept : Bool) : LineRec :=
  if l.state = .outOfService || kept then l
  else l.outOfCall (if l.accepted = .opened then .idle else .lockout)

/-- R39: an incoming trunk terminal at a warm restart. -/
def TrunkRec.restarted (k : TrunkRec) (kept : Bool) : TrunkRec :=
  if k.state = .outOfService || kept then k
  else k.outOfCall (if k.accepted = .opened then .idle else .lockout)

/-- Some terminal stands in LOCKOUT. -/
def Scanner.someLockout (c : Scanner) : Bool :=
  !(tfind (fun _ l => decide (l.state = .lockout)) c.lines).isEmpty ||
    !(tfind (fun _ k => decide (k.state = .lockout)) c.trunks).isEmpty

/-- R39, R129: the terminals, the Originating Queue and the Deferred Set at a warm restart, and the clear timers, which are kept
for the terminals of kept TALK calls alone. LOCKOUT is posted to M when a terminal stands in LOCKOUT after it (log entry 12). -/
def State.restartTerminals (s : State) : State :=
  let scan : Scanner := { s.scan with
    lines := tmap (fun n l => l.restarted (s.inTalk (.line n))) s.scan.lines
    trunks := tmap (fun i k => k.restarted (s.inTalk (.trunk i))) s.scan.trunks
    queue := []
    deferred := [] }
  let u : State := { s with
    scan := scan
    sig := { s.sig with clearTimers := tmap (fun i t => if s.inTalk (.trunk i) then t else none) s.sig.clearTimers } }
  if scan.someLockout then u.post .maintenance .lockout else u

/-- R110: a register's order is regenerated. -/
def State.regenerate (s : State) (r : RegNo) : State :=
  let es := (s.reg r).path.elements
  if (s.reg r).state = .clearing ∧ es ≠ [] then
    if s.flying (.operate r) then s.cancelInFlight
    else if s.flying (.release r) then s
    else (s.setElems (es.filter fun e => s.elem e = .reserved || s.elem e = .held) .releasing).appendOrder (.release r)
  else s

/-- A line to which some signal is applied. -/
def LineSignal.applied (g : LineSignal) : Bool := g.dialTone || g.ringing.isSome || g.tone.isSome

/-- R129: every signal still applied to a line is removed. -/
def State.silenceLine (s : State) (n : LineNo) : State :=
  ((s.sendDialTone n false).sendRinging n none).sendTone (.line n) none

/-- R129: every signal still applied to a terminal is removed, the lines in ascending number and then the incoming trunk
terminals. -/
def State.silence (s : State) : State :=
  (tfind (fun _ x => x.isSome) s.sig.trunkTones).foldl (fun t i => t.sendTone (.trunk i) none)
    ((tfind (fun _ g => LineSignal.applied g) s.sig.lineSignals).foldl State.silenceLine s)

/-- R187, step 2: the blocks at a warm restart. The order queue is discarded first and regenerated after the registers have been
treated (R110); the snapshot becomes IDLE (R169). -/
def State.restartBlocks (s : State) : State :=
  let u : State := { s with
    orders := { s.orders with queue := [] }
    store := { s.store with snapshot := .idle } }
  let v := (List.finRange 40).foldl State.restartReg u
  ((List.finRange 40).foldl State.regenerate v.restartTerminals).silence

/-- R187: the warm restart, one action in three steps; the first regenerated order is taken at once (R110). -/
def State.warmRestart (s : State) (cause : RestartCause) : State :=
  (((s.clearAttention cause).restartBlocks).post .maintenance .restarted).settle.takeOrder

/-- RESTART (R187). -/
def execRestart (port : Port) (s : State) : Outcome State Fault Refusal :=
  .next (s.controllerCommand (.restart port) port fun _ t => doneWith (t.warmRestart .restartCommand))

/-- RESTART_LINE_ASSERTED (R187): taken at the change of the line; a line already asserted starts nothing. -/
def execRestartLineAsserted (s : State) : Outcome State Fault Refusal :=
  .next (if s.restartLine then s else ({ s with restartLine := true } : State).warmRestart .restartLine)

/-- RESTART_LINE_NEGATED (R187). -/
def execRestartLineNegated (s : State) : Outcome State Fault Refusal := .next { s with restartLine := false }

/-! ### Power-up -/

/-- R187, R194: the RESTART line's previous level and the port states when the power-up restart completes. -/
def State.takeLevels (s : State) (l : LineLevels) : State :=
  { s with
    links := ⟨LinkPort.atPowerUp l.linkResetA, LinkPort.atPowerUp l.linkResetB, LinkPort.atPowerUp l.linkResetBilling⟩
    restartLine := l.restart }

/-- POWER_UP (R185): a retention check that passes leads to a warm restart and one that fails to a cold start, at which the tag
counter is set to 0 (R109). -/
def execPowerUp (retained : Bool) (levels : LineLevels) (s : State) : Outcome State Fault Refusal :=
  .next ((if retained then s.warmRestart .powerUp else s.coldStart .powerUp 0).takeLevels levels)

end Sys2Proof.Machine
end

