-- ==== Sys2Proof/Machine/Signals.lean ====
section
/-! DEFINITION. Chapter 7: Ring, Send, the phases of a pulse sender, the RING, ANSWER_WAIT, CALLED_RELEASE and clear timers, and
the blocking of senders. -/

namespace Sys2Proof.Machine

open Host (Outcome)

/-! ### Ring -/

/-- R115: Ring of a SET register: answer at once on an early off-hook, ringing otherwise. -/
def State.startRinging (s : State) (r : RegNo) (x : Subscriber) : State :=
  if (s.line x.line).earlyOffHook = some true then s.answerCall r
  else
    let u := s.sendRinging x.line (some x.party)
    let v := if s.calledRole r x.line then u.modLine x.line fun l => { l with state := .termRinging, earlyOffHook := none }
      else u
    v.modReg r fun g => { g with state := .ringing, timer := some ⟨.ring, Config.ringTime⟩ }

/-- R114: Ring from a binder. -/
def ringCall (register : Byte) (x : Side) (s : State) : State × Response :=
  acting x register s fun r =>
    if (s.reg r).state ≠ .set then refuse s .wrongState
    else
      match s.routeEntry r, (s.reg r).destination with
      | some (.localCall _ _), some y => doneWith (s.startRinging r y)
      | _, _ => refuse s .wrongState

/-- RING (R114). -/
def execRing (port : Port) (register : Byte) (s : State) : Outcome State Fault Refusal :=
  .next (s.controllerCommand (.ring port register) port (ringCall register))

/-! ### Send -/

/-- R119: the string to be sent: the prefix digits, then the dialled digits from index strip onward. -/
def sendString (prefixDigits : List Digit) (strip : Nat) (digits : List Digit) : List Digit := prefixDigits ++ digits.drop strip

/-- R121: the register enters AWAIT_ANSWER and SENT is posted. -/
def State.awaitAnswer (s : State) (r : RegNo) : State :=
  (s.modReg r fun g => { g with state := .awaitAnswer, timer := some ⟨.answerWait, Config.answerWaitTime⟩ }).post
    (.register r) .sent

/-- R119: a sender is attached to the outgoing trunk of the path record. -/
def State.startSending (s : State) (r : RegNo) (k : SenderNo) (o : OutNo) (digits : List Digit) : State :=
  ((s.setSender k (.busy ⟨false, r, o, digits, 0, .leadPause, 0, Config.leadPause⟩)).sendSenderAttach k o).modReg r fun g =>
    { g with state := .sending, sender := some k }

/-- R119: Send from a binder. -/
def sendCall (register : Byte) (x : Side) (s : State) : State × Response :=
  acting x register s fun r =>
    if (s.reg r).state ≠ .set then refuse s .wrongState
    else
      match s.routeEntry r with
      | some (.outgoing _ _ _ _ _ prefixDigits strip _) =>
        let digits := sendString prefixDigits strip (s.reg r).digits
        if digits.isEmpty then doneWith (s.awaitAnswer r)
        else
          match s.freeSender, (s.reg r).path.trunk with
          | some k, some o => doneWith (s.startSending r k o digits)
          | _, _ => refuse s .noUnit
      | _ => refuse s .wrongState

/-- SEND (R119). -/
def execSend (port : Port) (register : Byte) (s : State) : Outcome State Fault Refusal :=
  .next (s.controllerCommand (.send port register) port (sendCall register))

/-- R120: a busy sender begins a BREAK with this number of pulses left. -/
def State.senderBreak (s : State) (k : SenderNo) (b : Sending) (pulses : Nat) : State :=
  (s.setSender k (.busy { b with phase := .brk, pulsesLeft := pulses, phaseTime := Config.senderBreak })).sendSenderLoop k .opened

/-- R120, R121: a busy sender whose phase time has run out moves on. -/
def State.senderPhase (s : State) (k : SenderNo) : State :=
  match s.sender k with
  | .busy b =>
    if b.phaseTime ≠ 0 then s
    else
      match b.phase with
      | .leadPause => s.senderBreak k b ((b.digits[b.position]?).map digitPulses |>.getD 0)
      | .digitPause => s.senderBreak k b ((b.digits[b.position]?).map digitPulses |>.getD 0)
      | .brk =>
        (s.setSender k (.busy { b with phase := .make, pulsesLeft := b.pulsesLeft - 1, phaseTime := Config.senderMake })).sendSenderLoop
          k .closed
      | .make =>
        if 0 < b.pulsesLeft then s.senderBreak k b b.pulsesLeft
        else if b.position + 1 < b.digits.length then
          s.setSender k (.busy { b with phase := .digitPause, position := b.position + 1, phaseTime := Config.digitPause })
        else (s.detachSender k).awaitAnswer b.register
  | _ => s

/-- SENDER_PHASE_END (R120). -/
def execSenderPhaseEnd (sender : SenderNo) (s : State) : Outcome State Fault Refusal := .next (s.senderPhase sender)

/-! ### Timers -/

/-- R117: expiry of the RING timer. The called line becomes IDLE without a test of its loop (R33). -/
def State.ringExpiry (s : State) (r : RegNo) : State :=
  if (s.reg r).state = .ringing ∧ (s.reg r).expired .ring then
    let u := match (s.reg r).destination with
      | some x =>
        let v := s.sendRinging x.line none
        if s.calledRole r x.line then v.toIdle (.line x.line) else v
      | none => s
    ((u.enterTone r .busy .noAnswer).post (.register r) .noAnswer).settle
  else s

/-- RING_TIMER_EXPIRY (R117). -/
def execRingTimerExpiry (register : RegNo) (s : State) : Outcome State Fault Refusal := .next (s.ringExpiry register)

/-- R123: expiry of the ANSWER_WAIT timer. -/
def State.answerWaitExpiry (s : State) (r : RegNo) : State :=
  if (s.reg r).state = .awaitAnswer ∧ (s.reg r).expired .answerWait then
    (s.enterTone r .congestion .noAnswer).post (.register r) .noAnswer
  else s

/-- ANSWER_WAIT_EXPIRY (R123). -/
def execAnswerWaitExpiry (register : RegNo) (s : State) : Outcome State Fault Refusal := .next (s.answerWaitExpiry register)

/-- R125: expiry of the CALLED_RELEASE timer. -/
def State.calledReleaseExpiry (s : State) (r : RegNo) : State :=
  if (s.reg r).expired .calledRelease then (s.release r .calledRelease).settle else s

/-- CALLED_RELEASE_EXPIRY (R125). -/
def execCalledReleaseExpiry (register : RegNo) (s : State) : Outcome State Fault Refusal :=
  .next (s.calledReleaseExpiry register)

/-- R126: the clear timer of an incoming trunk terminal has reached 400 ms. -/
def State.incomingClear (s : State) (i : TrunkNo) : State :=
  if (tget s.sig.clearTimers i).any fun t => Config.incomingClearTime ≤ t then
    let u := s.setClearTimer i none
    match (s.trunk i).register with
    | some r => (u.release r .callingClear).settle
    | none => u
  else s

/-- INCOMING_CLEAR_TIMER_EXPIRY (R126). -/
def execIncomingClearTimerExpiry (trunk : TrunkNo) (s : State) : Outcome State Fault Refusal := .next (s.incomingClear trunk)

/-! ### Blocking (section 7.7) -/

/-- R127: Block Sender. -/
def blockSender (sender : Byte) (_ : Side) (s : State) : State × Response :=
  match numbered 6 sender.toNat with
  | none => refuse s .badOperand
  | some k =>
    match s.sender k with
    | .free => doneWith (s.setSender k .blocked)
    | .busy b => (s.setSender k (.busy { b with blockAfterUse := true }), .of .inUse)
    | .blocked => doneWith s

/-- BLOCK_SENDER (R127). -/
def execBlockSender (port : Port) (sender : Byte) (s : State) : Outcome State Fault Refusal :=
  .next (s.controllerCommand (.blockSender port sender) port (blockSender sender))

/-- R128: Unblock Sender. -/
def unblockSender (sender : Byte) (_ : Side) (s : State) : State × Response :=
  match numbered 6 sender.toNat with
  | none => refuse s .badOperand
  | some k =>
    match s.sender k with
    | .free => doneWith s
    | .busy b => doneWith (s.setSender k (.busy { b with blockAfterUse := false }))
    | .blocked => doneWith (s.setSender k .free)

/-- UNBLOCK_SENDER (R128). -/
def execUnblockSender (port : Port) (sender : Byte) (s : State) : Outcome State Fault Refusal :=
  .next (s.controllerCommand (.unblockSender port sender) port (unblockSender sender))

/-- The result of Read Sender (R128). -/
def readSenderResponse (sender : Byte) (s : State) : Response :=
  match numbered 6 sender.toNat with
  | none => .of .badOperand
  | some k => ⟨.done, encSender (s.sender k)⟩

/-- READ_SENDER (R128). -/
def execReadSender (port : Port) (sender : Byte) (s : State) : Outcome State Fault Refusal :=
  .next (s.readCommand (.readSender port sender) port .controllers (readSenderResponse sender))

end Sys2Proof.Machine
end

