-- ==== Sys2Proof/Machine/Scan.lean ====
section
/-! DEFINITION. Chapter 2: the scan phase. The running times advance, every filter takes its sample, and the accepted changes are
handed to the blocks that own their consequences. -/

namespace Sys2Proof.Machine

open Host (Outcome)

/-! ### Time and samples -/

/-- R4: a running supervisory timer loses 4 ms. -/
def CallRegister.tick (g : CallRegister) : CallRegister :=
  { g with timer := g.timer.map fun t => { t with remaining := t.remaining - Config.scanPhase } }

/-- R126: a running clear timer gains 4 ms. -/
def tickClear (t : Nat) : Nat := min Config.incomingClearTime (t + Config.scanPhase)

/-- R4, R25, R42, R126: the time advance of a scan phase. -/
def State.advanceTimes (s : State) : State :=
  { s with
    regs := tmap (fun _ g => g.tick) s.regs
    receivers := tmap (fun _ k => k.advance) s.receivers
    scan := { s.scan with
      lines := tmap (fun _ l => { l with waitTimer := l.waitTimer.map (· - Config.scanPhase) }) s.scan.lines
      trunks := tmap (fun _ k => { k with waitTimer := k.waitTimer.map (· - Config.scanPhase) }) s.scan.trunks }
    sig := { s.sig with clearTimers := tmap (fun _ t => t.map tickClear) s.sig.clearTimers } }

/-- The loop sample of a terminal. -/
def loopSample (x : SampleSet) (t : Terminal) : Loop := if t ∈ x.closed then .closed else .opened

/-- R21, R37: every filter takes its sample, which displaces the oldest of the three held. -/
def State.takeSamples (s : State) (x : SampleSet) : State :=
  { s with scan := { s.scan with
      lines := tmap (fun n l =>
        { l with samples := l.samples.shift (loopSample x (.line n)), grounds := l.grounds.shift (decide (n ∈ x.grounded)) })
        s.scan.lines
      trunks := tmap (fun i k => { k with samples := k.samples.shift (loopSample x (.trunk i)) }) s.scan.trunks
      answers := tmap (fun o f => { f with samples := f.samples.shift (decide (o ∈ x.reversed)) }) s.scan.answers } }

/-! ### Accepted loop changes -/

/-- R21: the accepted loop state of a terminal changes. -/
def State.acceptLoop (s : State) : Terminal → State
  | .line n => s.modLine n fun l => { l with accepted := l.accepted.flip }
  | .trunk i => s.modTrunk i fun k => { k with accepted := k.accepted.flip }

/-- R28, R29: an accepted change handed to the dial receiver of a DIALING register. -/
def State.toReceiver (s : State) (r : RegNo) (x : Loop) : State :=
  match (s.reg r).receiver, x with
  | some k, .opened => s.beginBreak k
  | some k, .closed => s.endBreak k
  | none, _ => s

/-- R28: an accepted change on an ORIGINATING line. -/
def State.callingLineChange (s : State) (r : RegNo) (x : Loop) : State :=
  if (s.reg r).state = .dialing then s.toReceiver r x
  else
    match x with
    | .opened => s.release r .callingClear
    | .closed => s

/-- R125: an accepted change on a line in TERM_BUSY. -/
def State.calledLineChange (s : State) (r : RegNo) : Loop → State
  | .opened =>
    (s.post (.register r) .calledClear).modReg r fun g =>
      { g with timer := some ⟨.calledRelease, Config.calledReleaseTime⟩ }
  | .closed => s.modReg r fun g => { g with timer := g.timer.filter fun t => t.kind ≠ .calledRelease }

/-- Section 2.2: what an accepted change to `x` does on a line, by the line's state (R23, R24, R26, R27, R28). -/
def State.lineChange (s : State) (n : LineNo) (x : Loop) : State :=
  match (s.line n).state, (s.line n).register, x with
  | .idle, _, .closed => s.originate (.line n)
  | .waiting, _, .opened => (s.leaveQueue (.line n)).toIdle (.line n)
  | .deferred, _, .opened => (s.leaveQueue (.line n)).toIdle (.line n)
  | .lockout, _, .opened => s.toIdle (.line n)
  | .originating, some r, _ => s.callingLineChange r x
  | .termReserved, _, _ => s.modLine n fun l => { l with earlyOffHook := some (decide (x = .closed)) }
  | .termRinging, some r, .closed => s.answerCall r
  | .termBusy, some r, _ => s.calledLineChange r x
  | _, _, _ => s

/-- R29, R126: an accepted change on a BUSY incoming trunk terminal. -/
def State.busyTrunkChange (s : State) (i : TrunkNo) (r : RegNo) (x : Loop) : State :=
  if (s.reg r).state = .dialing then s.toReceiver r x
  else
    match x with
    | .opened => s.setClearTimer i (some 0)
    | .closed => s.setClearTimer i none

/-- R29: what an accepted change to `x` does on an incoming trunk terminal. -/
def State.trunkChange (s : State) (i : TrunkNo) (x : Loop) : State :=
  match (s.trunk i).state, (s.trunk i).register, x with
  | .idle, _, .closed => s.originate (.trunk i)
  | .waiting, _, .opened => (s.leaveQueue (.trunk i)).toIdle (.trunk i)
  | .deferred, _, .opened => (s.leaveQueue (.trunk i)).toIdle (.trunk i)
  | .lockout, _, .opened => s.toIdle (.trunk i)
  | .busy, some r, _ => s.busyTrunkChange i r x
  | _, _, _ => s

/-- What an accepted change to `x` does on a terminal. -/
def State.terminalChange (s : State) (t : Terminal) (x : Loop) : State :=
  match t with
  | .line n => s.lineChange n x
  | .trunk i => s.trunkChange i x

/-- R42: the clear or digit end that this phase's advance has reached on the receiver of a terminal's register is taken before the
terminal's accepted change. -/
def State.receiverFirst (s : State) (t : Terminal) : State :=
  match (s.named t).bind fun r => (s.reg r).receiver with
  | some k => s.takeReceiver k
  | none => s

/-- R21: a terminal's accepted loop change, when its three held samples ask for one, with its consequence. -/
def State.takeChange (s : State) (t : Terminal) : State :=
  if s.loopChangeDue t then
    let u := s.receiverFirst t
    ((u.acceptLoop t).terminalChange t (u.accepted t).flip).settle
  else s

/-! ### Accepted answer changes -/

/-- R122, R124: what an accepted answer change does to the call of the trunk's register. -/
def State.trunkAnswerChange (s : State) (o : OutNo) (reversed : Bool) : State :=
  match s.trunkRegister o with
  | none => s
  | some r =>
    match (s.reg r).state, reversed with
    | .sending, true => s.answerCall r
    | .awaitAnswer, true => s.answerCall r
    | .talk, false => s.release r .farEndClear
    | _, _ => s

/-- R37: an outgoing trunk's accepted answer change, when its three held samples ask for one, with its consequence. -/
def State.takeAnswerChange (s : State) (o : OutNo) : State :=
  if s.answerChangeDue o then
    let x := !(tget s.scan.answers o).accepted
    let u : State := { s with scan := { s.scan with
      answers := tmod s.scan.answers o fun f => { f with accepted := x } } }
    (u.trunkAnswerChange o x).settle
  else s

/-! ### The scan phase -/

/-- An expiry taken within a scan phase; each is examined by its own rule. -/
def State.takeExpiry (s : State) : Expiry → State
  | .dialTimeout r => s.dialExpiry r
  | .endOfDialing r => s.endOfDialingExpiry r
  | .wait t => s.waitExpiry t
  | .tone r => s.toneExpiry r
  | .ring r => s.ringExpiry r
  | .answerWait r => s.answerWaitExpiry r
  | .calledRelease r => s.calledReleaseExpiry r
  | .incomingClear i => s.incomingClear i

/-- One thing taken within a scan phase (log entry 4). -/
def State.takeItem (s : State) : ScanItem → State
  | .expiry e => s.takeExpiry e
  | .receiver k => s.takeReceiver k
  | .change t => s.takeChange t
  | .answerChange o => s.takeAnswerChange o

/-- What a scan phase takes after its schedule: the clears and digit ends its advance has reached, then the accepted changes of
the lines, of the incoming trunk terminals and of the outgoing trunks, each in ascending number. -/
def State.takeRest (s : State) : State :=
  let u := (List.finRange 12).foldl State.takeReceiver s
  let v := (tfind (fun _ l => l.samples.allAre l.accepted.flip) u.scan.lines).foldl (fun t n => t.takeChange (.line n)) u
  let w := (tfind (fun _ k => k.samples.allAre k.accepted.flip) v.scan.trunks).foldl (fun t i => t.takeChange (.trunk i)) v
  (tfind (fun _ f => f.samples.allAre (!f.accepted)) w.scan.answers).foldl State.takeAnswerChange w

/-- R20: a scan phase. -/
def State.scanPhase (s : State) (x : SampleSet) (schedule : List ScanItem) : State :=
  (schedule.foldl State.takeItem (s.advanceTimes.takeSamples x)).takeRest

/-- SCAN_SAMPLE_SET (R20). -/
def execScanSampleSet (samples : SampleSet) (schedule : List ScanItem) (s : State) : Outcome State Fault Refusal :=
  .next (s.scanPhase samples schedule)

end Sys2Proof.Machine
end

