-- ==== Sys2Proof/Machine/Shared.lean ====
section
/-! DEFINITION. Chapter 10: Take Event, Done, the handling limit, fencing, the attention enable and Read Port Status. -/

namespace Sys2Proof.Machine

open Host (Outcome)

/-- The state byte of a Take Event response: a register's state, 255 for M (11.6). -/
def State.subjectState (s : State) : Subject → List Byte
  | .register r => enc1 (s.reg r).state.code
  | .maintenance => enc1 255

/-- R175: Take Event. -/
def takeEvent (x : Side) (s : State) : State × Response :=
  match s.att.queue with
  | [] => refuse s .empty
  | j :: rest =>
    let u : State := { s with att := { s.att with queue := rest } }
    (u.modSubject j fun _ => ⟨some ⟨x, 0⟩, 0, false⟩,
      ⟨.done, enc1 (subjectIndex j).val ++ encPending (s.subject j).pending ++ s.subjectState j⟩)

/-- TAKE_EVENT (R175). -/
def execTakeEvent (port : Port) (s : State) : Outcome State Fault Refusal :=
  .next (s.controllerCommand (.takeEvent port) port takeEvent)

/-- R176: Done by the binder of a subject. -/
def State.finish (s : State) (x : Side) (j : Subject) : State :=
  let u := (s.modSubject j fun k => { k with binding := none }).modPort x fun p => { p with strikes := 0 }
  if (s.subject j).pending ≠ 0 then u.enqueue j
  else
    match j with
    | .register r => if (s.reg r).state = .ended then (u.freeReg r).settle else u
    | .maintenance => u

/-- R176: Done. -/
def doneSubject (subject : Byte) (x : Side) (s : State) : State × Response :=
  match subjectOperand subject with
  | none => refuse s .badOperand
  | some j =>
    match s.handler j with
    | none => refuse s .notBound
    | some y => if y = x then doneWith (s.finish x j) else refuse s .heldByOther

/-- DONE (R176). -/
def execDone (port : Port) (subject : Byte) (s : State) : Outcome State Fault Refusal :=
  .next (s.controllerCommand (.done port subject) port (doneSubject subject))

/-- R178: the handling limit of a binding expires. -/
def State.handlingExpiry (s : State) (j : Subject) : State :=
  match (s.subject j).binding with
  | some b =>
    if Config.handlingLimit ≤ b.time then
      let u := s.returnBinding j
      let v : State := { u with att := { u.att with lastTimeout := some (b.port, j) } }
      (v.post .maintenance .handlerTimeout).strike b.port
    else s
  | none => s

/-- HANDLING_LIMIT_EXPIRY (R178). -/
def execHandlingLimitExpiry (subject : Subject) (s : State) : Outcome State Fault Refusal := .next (s.handlingExpiry subject)

/-- R181: Fence Other. -/
def fenceOther (x : Side) (s : State) : State × Response :=
  if (s.att.port x.other).fenced then refuse s .wrongState else doneWith (s.fence x.other)

/-- FENCE_OTHER (R181). -/
def execFenceOther (port : Port) (s : State) : Outcome State Fault Refusal :=
  .next (s.controllerCommand (.fenceOther port) port fenceOther)

/-- R182: Admit Other. -/
def admitOther (x : Side) (s : State) : State × Response :=
  if (s.att.port x.other).fenced then doneWith (s.modPort x.other fun p => { p with fenced := false, strikes := 0 })
  else refuse s .wrongState

/-- ADMIT_OTHER (R182). -/
def execAdmitOther (port : Port) (s : State) : Outcome State Fault Refusal :=
  .next (s.controllerCommand (.admitOther port) port admitOther)

/-- R183: Set Attention. -/
def setAttention (setting : Byte) (x : Side) (s : State) : State × Response :=
  match flagOperand setting with
  | none => refuse s .badOperand
  | some on => doneWith (s.modPort x fun p => { p with enabled := on })

/-- SET_ATTENTION (R183). -/
def execSetAttention (port : Port) (setting : Byte) (s : State) : Outcome State Fault Refusal :=
  .next (s.controllerCommand (.setAttention port setting) port (setAttention setting))

/-- READ_PORT_STATUS (R184), the one command that a fenced port may issue. -/
def execReadPortStatus (port : Port) (s : State) : Outcome State Fault Refusal :=
  .next (if s.listens port (.readPortStatus port) then s.answer port ⟨.done, s.encPortStatus port⟩
    else s.unheard port (.readPortStatus port))

end Sys2Proof.Machine
end

