-- ==== Sys2Proof/Machine/Tariffs.lean ====
section
/-! DEFINITION. Chapter 8: the tariff tables, the band, the clock, the metering-step boundary and the expiry of a period. -/

namespace Sys2Proof.Machine

open Host (Outcome)

/-- R131: Write Tariff Cell, into the pending table. -/
def writeTariffCell (zone band u0 : Byte) (period : Half) (fraction : Byte) (_ : Side) (s : State) : State × Response :=
  match numbered 8 zone.toNat, bandOperand band, numbered 16 u0.toNat, numbered 16 fraction.toNat with
  | some z, some b, some u, some f =>
    doneWith { s with tariff := { s.tariff with
      pending := tset s.tariff.pending (cellIndex z b) ⟨u, period.toFin, f⟩ } }
  | _, _, _, _ => refuse s .badOperand

/-- WRITE_TARIFF_CELL (R131). -/
def execWriteTariffCell (port : Port) (zone band u0 : Byte) (period : Half) (fraction : Byte) (s : State) :
    Outcome State Fault Refusal :=
  .next (s.controllerCommand (.writeTariffCell port zone band u0 period fraction) port
    (writeTariffCell zone band u0 period fraction))

/-- R132: Apply Tariffs. -/
def applyTariffs (_ : Side) (s : State) : State × Response :=
  doneWith { s with tariff := { s.tariff with active := s.tariff.pending, generation := s.tariff.generation + 1 } }

/-- APPLY_TARIFFS (R132). -/
def execApplyTariffs (port : Port) (s : State) : Outcome State Fault Refusal :=
  .next (s.controllerCommand (.applyTariffs port) port applyTariffs)

/-- R133: Select Band. -/
def selectBand (band : Byte) (_ : Side) (s : State) : State × Response :=
  match bandOperand band with
  | none => refuse s .badOperand
  | some b => doneWith { s with tariff := { s.tariff with band := b, generation := s.tariff.generation + 1 } }

/-- SELECT_BAND (R133). -/
def execSelectBand (port : Port) (band : Byte) (s : State) : Outcome State Fault Refusal :=
  .next (s.controllerCommand (.selectBand port band) port (selectBand band))

/-- R136: Set Clock. -/
def setClock (day minute : Half) (_ : Side) (s : State) : State × Response :=
  if 1440 ≤ minute.toNat then refuse s .badOperand
  else doneWith { s with tariff := { s.tariff with day := day, minute := minute.toNat, stepCount := 0 } }

/-- SET_CLOCK (R136). -/
def execSetClock (port : Port) (day minute : Half) (s : State) : Outcome State Fault Refusal :=
  .next (s.controllerCommand (.setClock port day minute) port (setClock day minute))

/-- The result of Read Tariff Cell (R137). -/
def readTariffCellResponse (table zone band : Byte) (s : State) : Response :=
  match tableOperand table, numbered 8 zone.toNat, bandOperand band with
  | some pending, some z, some b =>
    ⟨.done, encCell (tget (if pending then s.tariff.pending else s.tariff.active) (cellIndex z b))⟩
  | _, _, _ => .of .badOperand

/-- READ_TARIFF_CELL (R137). -/
def execReadTariffCell (port : Port) (table zone band : Byte) (s : State) : Outcome State Fault Refusal :=
  .next (s.readCommand (.readTariffCell port table zone band) port .controllers (readTariffCellResponse table zone band))

/-- The result of Read Tariff Status (R137). -/
def readTariffStatusResponse (s : State) : Response :=
  ⟨.done, enc1 s.tariff.band.code ++ enc1 s.tariff.generation.toNat ++ enc2 s.tariff.day.toNat ++ enc2 s.tariff.minute ++
    enc2 s.tariff.stepCount⟩

/-- READ_TARIFF_STATUS (R137). -/
def execReadTariffStatus (port : Port) (s : State) : Outcome State Fault Refusal :=
  .next (s.readCommand (.readTariffStatus port) port .controllers readTariffStatusResponse)

/-- The result of Read Meter Context (R147). -/
def readMeterContextResponse (register : Byte) (s : State) : Response :=
  match numbered 40 register.toNat with
  | none => .of .badOperand
  | some r => ⟨.done, encContext (s.reg r).meter⟩

/-- READ_METER_CONTEXT (R147). -/
def execReadMeterContext (port : Port) (register : Byte) (s : State) : Outcome State Fault Refusal :=
  .next (s.readCommand (.readMeterContext port register) port .controllers (readMeterContextResponse register))

/-! ### Boundaries and expiries -/

/-- R143, steps 2 and 3, R144: at a period expiry a context whose generation differs from the current one reloads, and any other
advances its frame position; the next period starts unless the cell now in use has P = 0 (R145). -/
def MeterContext.nextPeriod (c : MeterContext) (u : TariffUnit) : MeterContext :=
  if c.generation ≠ u.generation then
    let cell := tget u.active (cellIndex c.zone u.band)
    { c with
      band := u.band
      cell := cell
      generation := u.generation
      framePosition := 0
      tariffChanged := true
      periodRemaining := cell.periodAt 0 }
  else { c with framePosition := c.framePosition + 1, periodRemaining := c.cell.periodAt (c.framePosition + 1) }

/-- R143: the expiry of the running period of register `r`'s context: a unit is charged, then the next period is taken up. -/
def State.expirePeriod (s : State) (r : RegNo) : State :=
  (s.chargeUnit r).modReg r fun g => { g with meter := g.meter.map fun c => c.nextPeriod s.tariff }

/-- A context's running period has reached zero. -/
def CallRegister.periodDue (g : CallRegister) : Bool := g.meter.any fun c => c.periodRemaining = some 0

/-- PERIOD_EXPIRY (R143). A metering-step boundary takes the expiry it reaches within the same action (R142). -/
def execPeriodExpiry (register : RegNo) (s : State) : Outcome State Fault Refusal :=
  .next (if (s.reg register).periodDue then s.expirePeriod register else s)

/-- R142: a context's count at a metering-step boundary. -/
def MeterContext.step (c : MeterContext) : MeterContext :=
  { c with
    duration := min Config.maxMeter (c.duration + 1)
    periodRemaining := c.periodRemaining.map (· - 1) }

/-- R142: the metering-step boundary of register `r`'s context, with the expiry it reaches. -/
def State.stepContext (s : State) (r : RegNo) : State :=
  match (s.reg r).meter with
  | none => s
  | some c =>
    let u := s.modReg r fun g => { g with meter := some c.step }
    if c.step.periodRemaining = some 0 then u.expirePeriod r else u

/-- R135: the clock's advance at a metering-step boundary. -/
def TariffUnit.advance (u : TariffUnit) : TariffUnit :=
  if u.stepCount + 1 < 600 then { u with stepCount := u.stepCount + 1 }
  else if u.minute + 1 < 1440 then { u with stepCount := 0, minute := u.minute + 1 }
  else { u with stepCount := 0, minute := 0, day := u.day + 1 }

/-- METERING_STEP_BOUNDARY (R142, R135): every present context takes the boundary, and the clock advances. -/
def execMeteringStepBoundary (s : State) : Outcome State Fault Refusal :=
  let u := (List.finRange 40).foldl State.stepContext s
  .next { u with tariff := u.tariff.advance }

end Sys2Proof.Machine
end

