-- ==== Sys2Proof/Machine/Translation.lean ====
section
/-! DEFINITION. Chapter 4, administration: the translation store, the routes, the directory map, the incoming root and Probe
Access. -/

namespace Sys2Proof.Machine

open Host (Outcome)

/-- The result of Probe Access (R69): the answer and its reason. The room check of R62 is not made. -/
def probeAccessResponse (kind : Byte) (number : Half) (route : Byte) (s : State) : Response :=
  match terminalOperand kind number, numbered 48 route.toNat with
  | some t, some r =>
    match s.checkRoute (s.route r).entry (s.accessLevel t) true with
    | .accepted => ⟨.done, enc1 0 ++ opt1 none⟩
    | .noRoom => ⟨.done, enc1 0 ++ opt1 none⟩
    | .invalidRoute => ⟨.done, enc1 1 ++ enc1 0⟩
    | .level => ⟨.done, enc1 1 ++ enc1 1⟩
    | .ticketsFull => ⟨.done, enc1 1 ++ enc1 2⟩
  | _, _ => .of .badOperand

/-- PROBE_ACCESS (R69). -/
def execProbeAccess (port : Port) (kind : Byte) (number : Half) (route : Byte) (s : State) : Outcome State Fault Refusal :=
  .next (s.readCommand (.probeAccess port kind number route) port .controllers (probeAccessResponse kind number route))

/-- R70: Write Node Slot. -/
def writeNodeSlot (node digit contentKind contentNumber : Byte) (_ : Side) (s : State) : State × Response :=
  match numbered 128 node.toNat, digitOperand digit, slotOperand contentKind contentNumber with
  | some n, some d, some c =>
    doneWith { s with trans := { s.trans with nodes := tmod s.trans.nodes n fun slots => tset slots d c } }
  | _, _, _ => refuse s .badOperand

/-- WRITE_NODE_SLOT (R70). -/
def execWriteNodeSlot (port : Port) (node digit contentKind contentNumber : Byte) (s : State) :
    Outcome State Fault Refusal :=
  .next (s.controllerCommand (.writeNodeSlot port node digit contentKind contentNumber) port
    (writeNodeSlot node digit contentKind contentNumber))

/-- R71: Write Route. -/
def writeRoute (route : Byte) (entry : RouteBytes) (_ : Side) (s : State) : State × Response :=
  match numbered 48 route.toNat, routeOperand entry with
  | some r, some e =>
    if 0 < (s.route r).refCount then refuse s .inUse
    else doneWith { s with trans := { s.trans with routes := tset s.trans.routes r ⟨e, 0⟩ } }
  | _, _ => refuse s .badOperand

/-- WRITE_ROUTE (R71). -/
def execWriteRoute (port : Port) (route : Byte) (entry : RouteBytes) (s : State) : Outcome State Fault Refusal :=
  .next (s.controllerCommand (.writeRoute port route entry) port (writeRoute route entry))

/-- R68: another slot of the directory already maps to this subscriber. -/
def State.mappedElsewhere (s : State) (slot : Fin 1000) (x : Subscriber) : Bool :=
  !(tfind (fun i d => decide (i ≠ slot) && decide (d = some x)) s.trans.directory).isEmpty

/-- R68: Write Directory. -/
def writeDirectory (slot : Half) (kind : Byte) (equipment : Half) (party : Byte) (_ : Side) (s : State) :
    State × Response :=
  match numbered 1000 slot.toNat, directoryOperand kind equipment party with
  | some i, some none => doneWith { s with trans := { s.trans with directory := tset s.trans.directory i none } }
  | some i, some (some x) =>
    if x.party = .b ∧ (s.line x.line).cls ≠ .twoParty then refuse s .badOperand
    else if s.mappedElsewhere i x then refuse s .inUse
    else doneWith { s with trans := { s.trans with directory := tset s.trans.directory i (some x) } }
  | _, _ => refuse s .badOperand

/-- WRITE_DIRECTORY (R68). -/
def execWriteDirectory (port : Port) (slot : Half) (kind : Byte) (equipment : Half) (party : Byte) (s : State) :
    Outcome State Fault Refusal :=
  .next (s.controllerCommand (.writeDirectory port slot kind equipment party) port (writeDirectory slot kind equipment party))

/-- Some register is in this state. -/
def State.someRegister (s : State) (x : RegState) : Bool := !(tfind (fun _ g => decide (g.state = x)) s.regs).isEmpty

/-- R72: Clear Translations. -/
def clearTranslations (_ : Side) (s : State) : State × Response :=
  if s.someRegister .dialing then refuse s .inUse
  else doneWith { s with trans := { s.trans with nodes := Vector.replicate 128 (Vector.replicate 10 .vacant) } }

/-- CLEAR_TRANSLATIONS (R72). -/
def execClearTranslations (port : Port) (s : State) : Outcome State Fault Refusal :=
  .next (s.controllerCommand (.clearTranslations port) port clearTranslations)

/-- R73: Set Incoming Root. -/
def setIncomingRoot (node : Byte) (_ : Side) (s : State) : State × Response :=
  match numbered 128 node.toNat with
  | none => refuse s .badOperand
  | some n => doneWith { s with trans := { s.trans with incomingRoot := n } }

/-- SET_INCOMING_ROOT (R73). -/
def execSetIncomingRoot (port : Port) (node : Byte) (s : State) : Outcome State Fault Refusal :=
  .next (s.controllerCommand (.setIncomingRoot port node) port (setIncomingRoot node))

/-- The digits in the order in which Read Node carries a node's slots: 1 to 9, then 0 (R57, R74). -/
def slotOrder : List Digit := [1, 2, 3, 4, 5, 6, 7, 8, 9, 0]

/-- The result of Read Node (R74). -/
def readNodeResponse (node : Byte) (s : State) : Response :=
  match numbered 128 node.toNat with
  | none => .of .badOperand
  | some n =>
    ⟨.done, slotOrder.flatMap (fun d => encSlot (tget (tget s.trans.nodes n) d)) ++ enc1 s.trans.incomingRoot.val⟩

/-- READ_NODE (R74). -/
def execReadNode (port : Port) (node : Byte) (s : State) : Outcome State Fault Refusal :=
  .next (s.readCommand (.readNode port node) port .controllers (readNodeResponse node))

/-- The result of Read Route (R74). -/
def readRouteResponse (route : Byte) (s : State) : Response :=
  match numbered 48 route.toNat with
  | none => .of .badOperand
  | some r => ⟨.done, encRoute (s.route r).entry ++ enc1 (s.route r).refCount⟩

/-- READ_ROUTE (R74). -/
def execReadRoute (port : Port) (route : Byte) (s : State) : Outcome State Fault Refusal :=
  .next (s.readCommand (.readRoute port route) port .controllers (readRouteResponse route))

/-- The result of Read Directory (R74). -/
def readDirectoryResponse (slot : Half) (s : State) : Response :=
  match numbered 1000 slot.toNat with
  | none => .of .badOperand
  | some i => ⟨.done, encDirectory (tget s.trans.directory i)⟩

/-- READ_DIRECTORY (R74). -/
def execReadDirectory (port : Port) (slot : Half) (s : State) : Outcome State Fault Refusal :=
  .next (s.readCommand (.readDirectory port slot) port .controllers (readDirectoryResponse slot))

end Sys2Proof.Machine
end

