-- ==== Sys2Proof/Machine/Dispatch.lean ====
section
/-! DEFINITION. One arm per row of spec/opcode_table.json, each a direct call of the row's meaning. -/

namespace Sys2Proof.Machine

open Host (Outcome)

def exec (i : Instr) (s : State) : Host.Outcome State Fault Refusal :=
  match i with
  | .readRegister port register => Sys2Proof.Machine.execReadRegister port register s
  | .giveTone port register tone => Sys2Proof.Machine.execGiveTone port register tone s
  | .releaseCall port register => Sys2Proof.Machine.execReleaseCall port register s
  | .writeLine port kind number cls => Sys2Proof.Machine.execWriteLine port kind number cls s
  | .removeLine port kind number => Sys2Proof.Machine.execRemoveLine port kind number s
  | .readLine port kind number => Sys2Proof.Machine.execReadLine port kind number s
  | .blockReceiver port receiver => Sys2Proof.Machine.execBlockReceiver port receiver s
  | .unblockReceiver port receiver => Sys2Proof.Machine.execUnblockReceiver port receiver s
  | .readReceiver port receiver => Sys2Proof.Machine.execReadReceiver port receiver s
  | .probeAccess port kind number route => Sys2Proof.Machine.execProbeAccess port kind number route s
  | .writeNodeSlot port node digit contentKind contentNumber => Sys2Proof.Machine.execWriteNodeSlot port node digit contentKind contentNumber s
  | .writeRoute port route entry => Sys2Proof.Machine.execWriteRoute port route entry s
  | .writeDirectory port slot kind equipment party => Sys2Proof.Machine.execWriteDirectory port slot kind equipment party s
  | .clearTranslations port => Sys2Proof.Machine.execClearTranslations port s
  | .setIncomingRoot port node => Sys2Proof.Machine.execSetIncomingRoot port node s
  | .readNode port node => Sys2Proof.Machine.execReadNode port node s
  | .readRoute port route => Sys2Proof.Machine.execReadRoute port route s
  | .readDirectory port slot => Sys2Proof.Machine.execReadDirectory port slot s
  | .huntPath port register => Sys2Proof.Machine.execHuntPath port register s
  | .seizeElement port element => Sys2Proof.Machine.execSeizeElement port element s
  | .returnElement port element => Sys2Proof.Machine.execReturnElement port element s
  | .assignTrunkGroup port trunk group => Sys2Proof.Machine.execAssignTrunkGroup port trunk group s
  | .readElement port element => Sys2Proof.Machine.execReadElement port element s
  | .readOrders port => Sys2Proof.Machine.execReadOrders port s
  | .ring port register => Sys2Proof.Machine.execRing port register s
  | .send port register => Sys2Proof.Machine.execSend port register s
  | .blockSender port sender => Sys2Proof.Machine.execBlockSender port sender s
  | .unblockSender port sender => Sys2Proof.Machine.execUnblockSender port sender s
  | .readSender port sender => Sys2Proof.Machine.execReadSender port sender s
  | .writeTariffCell port zone band u0 period fraction => Sys2Proof.Machine.execWriteTariffCell port zone band u0 period fraction s
  | .applyTariffs port => Sys2Proof.Machine.execApplyTariffs port s
  | .selectBand port band => Sys2Proof.Machine.execSelectBand port band s
  | .setClock port day minute => Sys2Proof.Machine.execSetClock port day minute s
  | .readTariffCell port table zone band => Sys2Proof.Machine.execReadTariffCell port table zone band s
  | .readTariffStatus port => Sys2Proof.Machine.execReadTariffStatus port s
  | .readMeterContext port register => Sys2Proof.Machine.execReadMeterContext port register s
  | .readMeter port equipment party => Sys2Proof.Machine.execReadMeter port equipment party s
  | .adjustMeter port equipment party n => Sys2Proof.Machine.execAdjustMeter port equipment party n s
  | .presetMeter port equipment party value => Sys2Proof.Machine.execPresetMeter port equipment party value s
  | .takeSnapshot port => Sys2Proof.Machine.execTakeSnapshot port s
  | .readSnapshot port block => Sys2Proof.Machine.execReadSnapshot port block s
  | .releaseSnapshot port => Sys2Proof.Machine.execReleaseSnapshot port s
  | .readTicket port => Sys2Proof.Machine.execReadTicket port s
  | .removeTicket port sequence => Sys2Proof.Machine.execRemoveTicket port sequence s
  | .readTicketStatus port => Sys2Proof.Machine.execReadTicketStatus port s
  | .setDirectoryDigit port digit => Sys2Proof.Machine.execSetDirectoryDigit port digit s
  | .takeEvent port => Sys2Proof.Machine.execTakeEvent port s
  | .done port subject => Sys2Proof.Machine.execDone port subject s
  | .setAttention port setting => Sys2Proof.Machine.execSetAttention port setting s
  | .fenceOther port => Sys2Proof.Machine.execFenceOther port s
  | .admitOther port => Sys2Proof.Machine.execAdmitOther port s
  | .readPortStatus port => Sys2Proof.Machine.execReadPortStatus port s
  | .initialise port => Sys2Proof.Machine.execInitialise port s
  | .restart port => Sys2Proof.Machine.execRestart port s
  | .badFrame port => Sys2Proof.Machine.execBadFrame port s
  | .unknownCommand port => Sys2Proof.Machine.execUnknownCommand port s
  | .frameDiscarded port cause => Sys2Proof.Machine.execFrameDiscarded port cause s
  | .scanSampleSet samples schedule => Sys2Proof.Machine.execScanSampleSet samples schedule s
  | .clear receiver => Sys2Proof.Machine.execClear receiver s
  | .digitEnd receiver => Sys2Proof.Machine.execDigitEnd receiver s
  | .dialTimeout register => Sys2Proof.Machine.execDialTimeout register s
  | .endOfDialingExpiry register => Sys2Proof.Machine.execEndOfDialingExpiry register s
  | .waitTimerExpiry terminal => Sys2Proof.Machine.execWaitTimerExpiry terminal s
  | .deferredPromotion => Sys2Proof.Machine.execDeferredPromotion s
  | .queueHeadService => Sys2Proof.Machine.execQueueHeadService s
  | .toneTimerExpiry register => Sys2Proof.Machine.execToneTimerExpiry register s
  | .orderTake => Sys2Proof.Machine.execOrderTake s
  | .driveCompletion completion => Sys2Proof.Machine.execDriveCompletion completion s
  | .driveCompletionLimitExpiry => Sys2Proof.Machine.execDriveCompletionLimitExpiry s
  | .senderPhaseEnd sender => Sys2Proof.Machine.execSenderPhaseEnd sender s
  | .ringTimerExpiry register => Sys2Proof.Machine.execRingTimerExpiry register s
  | .answerWaitExpiry register => Sys2Proof.Machine.execAnswerWaitExpiry register s
  | .calledReleaseExpiry register => Sys2Proof.Machine.execCalledReleaseExpiry register s
  | .incomingClearTimerExpiry trunk => Sys2Proof.Machine.execIncomingClearTimerExpiry trunk s
  | .meteringStepBoundary => Sys2Proof.Machine.execMeteringStepBoundary s
  | .periodExpiry register => Sys2Proof.Machine.execPeriodExpiry register s
  | .sweepReachesMeter => Sys2Proof.Machine.execSweepReachesMeter s
  | .sweepCompletion => Sys2Proof.Machine.execSweepCompletion s
  | .handlingLimitExpiry subject => Sys2Proof.Machine.execHandlingLimitExpiry subject s
  | .powerUp retained levels => Sys2Proof.Machine.execPowerUp retained levels s
  | .restartLineAsserted => Sys2Proof.Machine.execRestartLineAsserted s
  | .linkResetAsserted port => Sys2Proof.Machine.execLinkResetAsserted port s
  | .linkResetNegated port => Sys2Proof.Machine.execLinkResetNegated port s
  | .restartLineNegated => Sys2Proof.Machine.execRestartLineNegated s
  | .responseSent port => Sys2Proof.Machine.execResponseSent port s
  | .frameStartMark frame => Sys2Proof.Machine.execFrameStartMark frame s

end Sys2Proof.Machine
end

