-- ==== Sys2Proof/Machine/TimeBase.lean ====
section
/-! DEFINITION. The times that the Time Base counts to the millisecond beside the scan: the phase times of the pulse senders (R120),
the time since the order in flight was sent (R98), the binding times (R178) and the time since Take Snapshot (R157). The table
has no row for the passage of time: a step with no command waiting is one millisecond (log entry 3). Each time stops at the
value at which its own row is taken. -/

namespace Sys2Proof.Machine

/-- R120: a busy sender's phase time runs down. -/
def Sender.pass : Sender → Sender
  | .busy b => .busy { b with phaseTime := b.phaseTime - 1 }
  | k => k

/-- R171, R178: a binding's time runs up. -/
def SubjectRec.pass (j : SubjectRec) : SubjectRec :=
  { j with binding := j.binding.map fun b => { b with time := min Config.handlingLimit (b.time + 1) } }

/-- R98: the time since the order in flight was sent. -/
def InFlight.pass (f : InFlight) : InFlight := { f with time := min Config.driveLimit (f.time + 1) }

/-- R157: the time since Take Snapshot. -/
def SnapshotState.pass : SnapshotState → SnapshotState
  | .sweeping position time => .sweeping position (min Config.sweepTime (time + 1))
  | x => x

/-- The times of one millisecond. -/
def State.passMillisecond (s : State) : State :=
  { s with
    sig := { s.sig with senders := tmap (fun _ k => k.pass) s.sig.senders }
    att := { s.att with subjects := tmap (fun _ j => j.pass) s.att.subjects }
    orders := { s.orders with inFlight := s.orders.inFlight.map InFlight.pass }
    store := { s.store with snapshot := s.store.snapshot.pass } }

end Sys2Proof.Machine
end

