-- ==== Sys2Proof/Safety.lean ====
section
/-! DEFINITION. The laws of the device that the manual states for all times, and the notions in which claims about it are worded. -/

namespace Sys2Proof.Machine

/-! ### Commands -/

/-- The ports column of the command summary, by a command's code (11.5). -/
def permissionOf (code : Nat) : Permission :=
  if 40 ≤ code ∧ code ≤ 44 then .billing
  else if code = 37 ∨ code = 45 ∨ code = 52 then .all
  else .controllers

/-- The commands that read: each rule of theirs says that reading changes nothing (R17, R36, R55, R69, R74, R93, R111, R128, R137,
R147, R152, R159, R166, R168, R184). -/
def readCodes : List Nat := [1, 6, 9, 10, 16, 17, 18, 23, 24, 29, 34, 35, 36, 37, 41, 43, 45, 52]

/-- The command `c` is taken on a controller port: its frame has been gathered there, its end mark falls now, and the port is not
fenced. -/
abbrev State.takes (s : State) (x : Side) (c : Instr) : Prop := s.listens (.controller x) c = true ∧ (s.att.port x).fenced = false

/-- What the command `c` does when it is taken on port `p`: with its frame gathered there and, on a controller port, no fence, `exec`
answers the next state `t`. -/
abbrev State.runs (s : State) (p : Port) (c : Instr) (t : State) : Prop :=
  s.listens p c = true → (∀ x, p = .controller x → (s.att.port x).fenced = false) → exec c s = .next t

/-- The bytes of the response that a port is sending (R192). -/
def State.responseOn (s : State) (p : Port) : Option (List Byte) :=
  match (s.link p).phase with
  | .answering bytes _ => some bytes
  | _ => none

/-- The sum of the bytes of a frame (R191). -/
def byteSum (bs : List Byte) : Byte := bs.foldl (· + ·) 0

/-! ### Laws of the device -/

/-- R180: at most one controller port is fenced, and no subject is bound to a fenced port. -/
def FenceLaw (s : State) : Prop :=
  ¬((s.att.port .a).fenced = true ∧ (s.att.port .b).fenced = true) ∧
    ∀ x j, (s.att.port x).fenced = true → s.handler j ≠ some x

/-- R173: the Attention Queue never holds the same subject twice and never holds a bound subject, and a subject's queued flag is set
exactly while it stands in the queue. -/
def AttentionLaw (s : State) : Prop :=
  s.att.queue.Nodup ∧
    ∀ j, ((s.subject j).queued = true ↔ j ∈ s.att.queue) ∧ ((s.subject j).queued = true → (s.subject j).binding = none)

/-- A terminal is WAITING. -/
def State.waits (s : State) : Terminal → Prop
  | .line n => (s.line n).state = .waiting
  | .trunk i => (s.trunk i).state = .waiting

/-- A terminal is DEFERRED. -/
def State.isDeferred (s : State) : Terminal → Prop
  | .line n => (s.line n).state = .deferred
  | .trunk i => (s.trunk i).state = .deferred

/-- R30, R31: the Originating Queue holds at most 32 terminals, each once, trunks ahead of lines, and they are the WAITING ones; the
Deferred Set holds the DEFERRED ones, which the model keeps in the order of promotion, and it is empty unless 32 are queued. -/
def QueueLaw (s : State) : Prop :=
  s.scan.queue.length ≤ Config.queuePlaces ∧ (s.scan.queue.map Origin.terminal).Nodup ∧
    (∃ trunks lines, s.scan.queue = trunks ++ lines ∧ (∀ e ∈ trunks, e.isTrunk = true) ∧ ∀ e ∈ lines, e.isTrunk = false) ∧
    (∀ t, s.waits t ↔ t ∈ s.scan.queue.map Origin.terminal) ∧
    (∀ t, s.isDeferred t ↔ t ∈ s.scan.deferred.map Origin.terminal) ∧
    s.scan.deferred.Pairwise (fun d e => d.promotedBefore e = true) ∧
    (s.scan.deferred ≠ [] → s.scan.queue.length = Config.queuePlaces)

/-- R150: a meter's value lies in 0 to 16,777,215. -/
def MeterRange (s : State) : Prop := ∀ i, (tget s.store.meters i).value ≤ Config.maxMeter

/-- R135: the ranges of the clock. -/
def ClockRange (s : State) : Prop := s.tariff.minute < 1440 ∧ s.tariff.stepCount < 600

/-- R155, R158: what the snapshot shows for a meter: the copy where its mark is set, the meter itself where it is clear. -/
def State.snapshotView (s : State) (i : Fin 1024) : Meter :=
  if tget s.store.marks i then tget s.store.values i else tget s.store.meters i

/-- The snapshot is SWEEPING. -/
def State.sweeping (s : State) : Prop := ∃ position time, s.store.snapshot = .sweeping position time

/-- R139: the steps of a complete frame of sixteen periods. -/
def TariffCell.frameLength (cell : TariffCell) : Nat := ((List.finRange 16).map cell.length).sum

/-- R135: the clock as one number of metering steps. -/
def TariffUnit.clock (u : TariffUnit) : Nat := (u.day.toNat * 1440 + u.minute) * 600 + u.stepCount

/-- R120: the time a digit takes on the loop: 100 ms for each pulse. -/
def digitTime (d : Digit) : Nat := 100 * digitPulses d

/-- R120: the milliseconds a busy sender still takes to the end of its last make: the rest of the phase and of the digit in
progress, then 800 ms and the digit's time for each later digit. -/
def Sending.timeLeft (b : Sending) : Nat :=
  let later := ((b.digits.drop (b.position + 1)).map fun d => Config.digitPause + digitTime d).sum
  match b.phase with
  | .leadPause => b.phaseTime + ((b.digits[b.position]?).map digitTime).getD 0 + later
  | .digitPause => b.phaseTime + ((b.digits[b.position]?).map digitTime).getD 0 + later
  | .brk => b.phaseTime + Config.senderMake + 100 * (b.pulsesLeft - 1) + later
  | .make => b.phaseTime + 100 * b.pulsesLeft + later

end Sys2Proof.Machine
end

