-- ==== Sys2Proof/Certificates/Slice0/Obligations.lean ====
section
/-! DEFINITION. The statements put to the provers, in the order of OBLIGATIONS.json. `s.takes x c` says that the frame of the command
`c` has been gathered on controller port `x`, which is not fenced; `s.runs p c t` says that under this condition on port `p` the
command `c` answers the next state `t`. `u.answer p r` is the state `u` with the response `r` begun on port `p`, which
`IllFormedFramesAndResponsesAreSent` describes. `{ s with f := u.f }` says that nothing but `f` differs from `s`. -/

open Sys2Proof Sys2Proof.Machine
open Host (Outcome)

/-! ### The step, the frames and the links -/

/-- The model's queue (log entry 3): a step takes the command in front. With no command waiting an order that can be taken is taken
(ORDER_TAKE, log entry 2) and a millisecond passes, in which sender phases run down and the times of the order in flight, of the
bindings and of the sweep run up, and nothing else changes. -/
def Obligations.StepTakesTheFrontCommand : Prop :=
  (∀ (c : Instr) (rest : List Instr) (s : State), step { s with pending := c :: rest } = exec c { s with pending := rest }) ∧
  ∀ s : State, s.pending = [] → ∃ u t : State, exec .orderTake s = .next u ∧ step s = .next t ∧
    (∀ k b, s.sender k = .busy b → t.sender k = .busy { b with phaseTime := b.phaseTime - 1 }) ∧
    (∀ k, (s.sender k = .free ∨ s.sender k = .blocked) → t.sender k = s.sender k) ∧
    (∀ j, t.subject j = { s.subject j with
      binding := (s.subject j).binding.map fun b => { b with time := min 3000 (b.time + 1) } }) ∧
    t.orders = { u.orders with inFlight := u.orders.inFlight.map fun f => { f with time := min 250 (f.time + 1) } } ∧
    (∀ position time, s.store.snapshot = .sweeping position time →
      t.store.snapshot = .sweeping position (min 20 (time + 1))) ∧
    (¬s.sweeping → t.store = s.store) ∧
    t = { u with
      sig := { s.sig with senders := t.sig.senders }, att := { s.att with subjects := t.att.subjects }, orders := t.orders
      store := { s.store with snapshot := t.store.snapshot } }

/-- R191, sections 11.5 and 11.6: the frame of every command of the summary is 2 to 16 bytes long, sums to 255 and is read as that
command, with every operand at every value. -/
def Obligations.EveryCommandFrameReadsBack : Prop :=
  ∀ (c : Instr) (p : Port) (bytes : List Byte), frameOf c = some (p, bytes) →
    decodeFrame p bytes = c ∧ 2 ≤ bytes.length ∧ bytes.length ≤ 16 ∧ byteSum bytes = 255

/-- R191, checks 1 to 4: what a frame of any bytes is on a port. A frame too short, too long or with a wrong sum is BAD_FRAME; a
frame that passes checks 1 and 2 with a code of no command is UNKNOWN_COMMAND; any other frame is the one command whose frame
it is, or BAD_FRAME where its operand count is another. -/
def Obligations.FramesAreJudgedInOrder : Prop :=
  ∀ (p : Port) (bytes : List Byte),
    (bytes.length < 2 ∨ 16 < bytes.length → decodeFrame p bytes = .badFrame p) ∧
    (byteSum bytes ≠ 255 → decodeFrame p bytes = .badFrame p) ∧
    ∀ (code : Byte) (operands : List Byte) (check : Byte), bytes = code :: operands ++ [check] → bytes.length ≤ 16 →
      byteSum bytes = 255 →
        (code.toNat = 0 ∨ 55 ≤ code.toNat → decodeFrame p bytes = .unknownCommand p) ∧
        (1 ≤ code.toNat ∧ code.toNat ≤ 54 →
          decodeFrame p bytes = .badFrame p ∨ frameOf (decodeFrame p bytes) = some (p, bytes))

/-- R189, R191, R192: a frame that fails checks 1, 2 or 4 is answered BAD_FRAME and one that fails check 3 UNKNOWN_COMMAND, on a fenced
port too; one that ends while a response is being sent is dropped, and outside such a frame nothing happens (log entry 10). Sending
a response makes its port ANSWERING with the status, the result and the check byte, all summing to 255, and changes nothing else. -/
def Obligations.IllFormedFramesAndResponsesAreSent : Prop :=
  (∀ (p : Port) (s : State),
     let judged (c : Instr) (x : Status) : Prop :=
       (s.listens p c = true → exec c s = .next (s.answer p ⟨x, []⟩)) ∧
       (∀ bytes f, (s.link p).phase = .answering bytes (some f) → f.judged p = c →
         exec c s = .next (s.setPhase p (.answering bytes none))) ∧
       (s.listens p c = false → (∀ bytes f, (s.link p).phase = .answering bytes (some f) → f.judged p ≠ c) →
         exec c s = .next s)
     judged (.badFrame p) .badFrame ∧ judged (.unknownCommand p) .unknownCommand) ∧
  (∀ (s : State) (p : Port) (r : Response),
     (s.answer p r).responseOn p =
       some (BitVec.ofNat 8 r.status.code :: r.result ++ [255 - byteSum (BitVec.ofNat 8 r.status.code :: r.result)]) ∧
     byteSum r.bytes = 255 ∧ (∀ q, q ≠ p → (s.answer p r).link q = s.link q) ∧
     ((s.answer p r).link p).resetAsserted = (s.link p).resetAsserted ∧
     s.answer p r = { s with links := (s.answer p r).links })

/-- R189, R191, checks 5 and 6: a command acts at the end mark of its own frame alone. Every command of a fenced controller port but Read
Port Status is answered FENCED, every command outside the billing set NOT_PERMITTED on the billing port, and every command of
the billing link alone NOT_PERMITTED on a controller port that is not fenced. The end mark of its frame while a response is being
sent drops the frame; outside such a frame, in READY or held in reset, nothing happens (log entry 10). -/
def Obligations.CommandsPassTheGateOrAreDropped : Prop :=
  ∀ (c : Instr) (p : Port) (code : Nat) (operands : List Byte) (s : State), commandParts c = some (p, code, operands) →
    (s.listens p c = true →
      (∀ x, p = .controller x → (s.att.port x).fenced = true → code ≠ 52 →
        exec c s = .next (s.answer p ⟨.fenced, []⟩)) ∧
      (p = .billing → permissionOf code = .controllers → exec c s = .next (s.answer p ⟨.notPermitted, []⟩)) ∧
      ∀ x, p = .controller x → (s.att.port x).fenced = false → permissionOf code = .billing →
        exec c s = .next (s.answer p ⟨.notPermitted, []⟩)) ∧
    (∀ bytes f, (s.link p).phase = .answering bytes (some f) → f.judged p = c →
      exec c s = .next (s.setPhase p (.answering bytes none))) ∧
    (s.listens p c = false → (∀ bytes f, (s.link p).phase = .answering bytes (some f) → f.judged p ≠ c) →
      exec c s = .next s)

/-- R188, R189, R190, R193: a link port's own steps. A start mark begins a frame whose first sixteen bytes are kept and whose others are
counted, in RECEIVING in place of the frame cut off and in ANSWERING beside the response; the frame is judged by its bytes. The
marks, the end of a response and the negation of the link-reset line move the port alone. The port reset at the assertion of the
line holds the port in reset; on a controller port every subject bound to it is unbound and queued in ascending order with
HANDLER_RETURNED, the enable is OFF, the strikes 0 and the fence as it stood. -/
def Obligations.LinkPortsMoveAndAreReset : Prop :=
  (∀ (s : State) (p : Port) (bytes : List Byte),
     let f : Frame := ⟨bytes.take 16, bytes.length - 16⟩
     (∀ c, (s.link p).phase = .receiving f → s.listens p c = decide (decodeFrame p bytes = c)) ∧
     ((s.link p).phase = .ready → exec (.frameStartMark ⟨p, bytes⟩) s = .next (s.setPhase p (.receiving f)) ∧
       exec (.frameDiscarded p (.cutOff bytes)) s = .next s ∧ exec (.responseSent p) s = .next s) ∧
     (∀ g, (s.link p).phase = .receiving g →
       exec (.frameStartMark ⟨p, bytes⟩) s = .next (s.setPhase p (.receiving f)) ∧
       exec (.frameDiscarded p (.cutOff bytes)) s = .next (s.setPhase p (.receiving f)) ∧
       exec (.responseSent p) s = .next s) ∧
     (∀ response g, (s.link p).phase = .answering response g →
       exec (.frameStartMark ⟨p, bytes⟩) s = .next (s.setPhase p (.answering response (some f))) ∧
       (g ≠ none → exec (.frameDiscarded p (.cutOff bytes)) s = .next (s.setPhase p (.answering response (some f)))) ∧
       exec (.frameDiscarded p .endedWhileAnswering) s = .next (s.setPhase p (.answering response none)) ∧
       (g = none → exec (.responseSent p) s = .next (s.setPhase p .ready)) ∧
       ∀ h, g = some h → exec (.responseSent p) s = .next (s.setPhase p (.receiving h))) ∧
     ((s.link p).phase = .heldInReset → exec (.frameStartMark ⟨p, bytes⟩) s = .next s ∧
       exec (.frameDiscarded p (.cutOff bytes)) s = .next s ∧ exec (.responseSent p) s = .next s) ∧
     ((s.link p).resetAsserted = true →
       exec (.linkResetNegated p) s = .next { s with links := s.links.put p ⟨.ready, false⟩ })) ∧
  (∀ (s : State) (p : Port), AttentionLaw s → (s.link p).resetAsserted = false →
     ∃ t, exec (.linkResetAsserted p) s = .next t ∧
     t.link p = ⟨.heldInReset, true⟩ ∧ (∀ q, q ≠ p → t.link q = s.link q) ∧
     (p = .billing → t = { s with links := t.links }) ∧ t = { s with links := t.links, att := t.att } ∧
     ∀ y, p = .controller y →
       t.att.port y = ⟨(s.att.port y).fenced, 0, false⟩ ∧ t.att.port y.other = s.att.port y.other ∧
       (∀ j, s.handler j = some y → t.handler j = none ∧ t.isPending j .handlerReturned = true) ∧
       t.att.queue = s.att.queue ++ allSubjects.filter (fun j => s.handler j = some y) ∧
       ∀ j, s.handler j ≠ some y → t.subject j = s.subject j)

/-! ### Reads -/

/-- R17, R36, R55, R69, R74, R93, R111, R128, R137, R147, R152, R159, R166, R168, R184: reading changes nothing; a read moves its
own link port alone. -/
def Obligations.ReadsChangeNothing : Prop :=
  ∀ (c : Instr) (p : Port) (code : Nat) (operands : List Byte) (s t : State), commandParts c = some (p, code, operands) →
    code ∈ readCodes → exec c s = .next t →
      t = { s with links := t.links } ∧ ∀ q, q ≠ p → t.link q = s.link q

/-- R17, R36, R55, R69, R74, R93, R111, R128, R137, R147, R152, R159, R166, R168, R184: every read answers DONE with the record as it stands,
in the encoding of section 11.6, and refuses an operand out of range BAD_OPERAND; Probe Access answers PERMITTED or the first check of R62 that
fails, the room check apart; Read Port Status is answered on a fenced port too. -/
def Obligations.ReadsAnswerTheRecord : Prop :=
  (∀ (x : Side) (s : State),
     let p := Port.controller x
     let bad : State := s.answer p ⟨.badOperand, []⟩
     (∀ b : Byte, (40 ≤ b.toNat → s.runs p (.readRegister p b) bad ∧ s.runs p (.readMeterContext p b) bad) ∧
       ∀ h : b.toNat < 40,
         s.runs p (.readRegister p b) (s.answer p ⟨.done,
           encRegister (s.reg ⟨b.toNat, h⟩) (s.subject (.register ⟨b.toNat, h⟩))⟩) ∧
         s.runs p (.readMeterContext p b) (s.answer p ⟨.done, encContext (s.reg ⟨b.toNat, h⟩).meter⟩)) ∧
     (∀ b : Byte, (12 ≤ b.toNat → s.runs p (.readReceiver p b) bad) ∧
       ∀ h : b.toNat < 12,
         s.runs p (.readReceiver p b) (s.answer p ⟨.done, s.encReceiver (s.receiver ⟨b.toNat, h⟩)⟩)) ∧
     (∀ b : Byte, (6 ≤ b.toNat → s.runs p (.readSender p b) bad) ∧
       ∀ h : b.toNat < 6, s.runs p (.readSender p b) (s.answer p ⟨.done, encSender (s.sender ⟨b.toNat, h⟩)⟩)) ∧
     (∀ e : Half, (352 ≤ e.toNat → s.runs p (.readElement p e) bad) ∧
       ∀ h : e.toNat < 352,
         s.runs p (.readElement p e) (s.answer p ⟨.done,
           enc1 (s.elem ⟨e.toNat, h⟩).code ++ opt1 ((s.readElementRegister ⟨e.toNat, h⟩).map (·.val)) ++
           opt1 (if g : 320 ≤ e.toNat then (tget s.net.groups ⟨e.toNat - 320, by omega⟩).map (·.val) else none) ++
           enc1 s.net.huntPointer.val⟩)) ∧
     s.runs p (.readOrders p) (s.answer p ⟨.done, encOrders s.orders⟩)) ∧
  (∀ (x : Side) (s : State),
     let p := Port.controller x
     (∀ n : LineNo, s.runs p (.readLine p 0 (BitVec.ofNat 16 n.val)) (s.answer p ⟨.done, s.encLine n⟩)) ∧
     (∀ i : TrunkNo, s.runs p (.readLine p 1 (BitVec.ofNat 16 i.val)) (s.answer p ⟨.done, s.encTrunk i⟩)) ∧
     (∀ o : OutNo, s.runs p (.readLine p 2 (BitVec.ofNat 16 o.val)) (s.answer p ⟨.done, s.encAnswer o⟩)) ∧
     (∀ n : NodeNo, s.runs p (.readNode p (BitVec.ofNat 8 n.val)) (s.answer p ⟨.done,
       ([1, 2, 3, 4, 5, 6, 7, 8, 9, 0] : List Digit).flatMap (fun d => encSlot (tget (tget s.trans.nodes n) d)) ++
         enc1 s.trans.incomingRoot.val⟩)) ∧
     (∀ r : RouteNo, s.runs p (.readRoute p (BitVec.ofNat 8 r.val)) (s.answer p ⟨.done,
       encRoute (s.route r).entry ++ enc1 (s.route r).refCount⟩)) ∧
     (∀ d : Fin 1000, s.runs p (.readDirectory p (BitVec.ofNat 16 d.val)) (s.answer p ⟨.done,
       encDirectory (tget s.trans.directory d)⟩)) ∧
     (∀ (z : Zone) (b : Band),
       s.runs p (.readTariffCell p 0 (BitVec.ofNat 8 z.val) (BitVec.ofNat 8 b.code)) (s.answer p ⟨.done,
         encCell (tget s.tariff.active (cellIndex z b))⟩) ∧
       s.runs p (.readTariffCell p 1 (BitVec.ofNat 8 z.val) (BitVec.ofNat 8 b.code)) (s.answer p ⟨.done,
         encCell (tget s.tariff.pending (cellIndex z b))⟩)) ∧
     s.runs p (.readTariffStatus p) (s.answer p ⟨.done,
       enc1 s.tariff.band.code ++ enc1 s.tariff.generation.toNat ++ enc2 s.tariff.day.toNat ++ enc2 s.tariff.minute ++
         enc2 s.tariff.stepCount⟩) ∧
     (∀ (n : LineNo) (r : RouteNo),
       s.runs p (.probeAccess p 0 (BitVec.ofNat 16 n.val) (BitVec.ofNat 8 r.val)) (s.answer p ⟨.done,
         match (s.route r).entry.terms with
         | none => [1, 0]
         | some (level, _, ticketed) =>
           if (s.line n).cls.accessLevel < level then [1, 1]
           else if ticketed = true ∧ 64 ≤ s.tickets.stored.length + s.tickets.reserved then [1, 2]
           else [0, 255]⟩)) ∧
     (∀ (i : TrunkNo) (r : RouteNo),
       s.runs p (.probeAccess p 1 (BitVec.ofNat 16 i.val) (BitVec.ofNat 8 r.val)) (s.answer p ⟨.done,
         match (s.route r).entry.terms with
         | none => [1, 0]
         | some (level, _, ticketed) =>
           if 0 < level then [1, 1]
           else if ticketed = true ∧ 64 ≤ s.tickets.stored.length + s.tickets.reserved then [1, 2]
           else [0, 255]⟩))) ∧
  (∀ (p : Port) (s : State),
     (s.listens p (.readPortStatus p) = true → exec (.readPortStatus p) s = .next (s.answer p ⟨.done, s.encPortStatus p⟩)) ∧
     s.runs p (.readTicketStatus p) (s.answer p ⟨.done,
       enc1 s.tickets.stored.length ++ enc1 s.tickets.reserved ++ enc2 s.tickets.sequence.toNat ++
         encDigit s.tickets.directoryDigit⟩) ∧
     (∀ (n : LineNo) (y : Party), s.runs p (.readMeter p (BitVec.ofNat 16 n.val) (BitVec.ofNat 8 y.code)) (s.answer p ⟨.done,
       enc3 (tget s.store.meters (Subscriber.meterIndex ⟨n, y⟩)).value ++
         encFlag (tget s.store.meters (Subscriber.meterIndex ⟨n, y⟩)).full ++ enc2 s.store.fullCount⟩)) ∧
     (p = .billing →
       (∀ t rest, s.tickets.stored = t :: rest → s.runs p (.readTicket p) (s.answer p ⟨.done, encTicket t⟩)) ∧
       (s.tickets.stored = [] → s.runs p (.readTicket p) (s.answer p ⟨.empty, []⟩)) ∧
       ∀ b : Fin 64,
         let c := Instr.readSnapshot p (BitVec.ofNat 8 b.val)
         (s.store.snapshot = .ready → s.runs p c (s.answer p ⟨.done, encSnapshotBlock s.store b⟩)) ∧
         (s.sweeping → s.runs p c (s.answer p ⟨.busy, []⟩)) ∧
         (s.store.snapshot = .idle → s.runs p c (s.answer p ⟨.wrongState, []⟩)))) ∧
  (∀ (x : Side) (s : State),
     let p := Port.controller x
     let bad : State := s.answer p ⟨.badOperand, []⟩
     (∀ (kind : Byte) (n : Half), 3 ≤ kind.toNat ∨ (kind = 0 ∧ 512 ≤ n.toNat) ∨ (kind = 1 ∧ 16 ≤ n.toNat) ∨
       (kind = 2 ∧ 32 ≤ n.toNat) → s.runs p (.readLine p kind n) bad) ∧
     (∀ b : Byte, (128 ≤ b.toNat → s.runs p (.readNode p b) bad) ∧ (48 ≤ b.toNat → s.runs p (.readRoute p b) bad)) ∧
     (∀ d : Half, 1000 ≤ d.toNat → s.runs p (.readDirectory p d) bad) ∧
     (∀ table zone band : Byte, 2 ≤ table.toNat ∨ 8 ≤ zone.toNat ∨ 3 ≤ band.toNat →
       s.runs p (.readTariffCell p table zone band) bad) ∧
     (∀ (kind : Byte) (n : Half) (b : Byte), 2 ≤ kind.toNat ∨ (kind = 0 ∧ 512 ≤ n.toNat) ∨ (kind = 1 ∧ 16 ≤ n.toNat) ∨
       48 ≤ b.toNat → s.runs p (.probeAccess p kind n b) bad) ∧
     ∀ (n : Half) (y : Byte), 512 ≤ n.toNat ∨ 2 ≤ y.toNat → s.runs p (.readMeter p n y) bad) ∧
  ∀ (s : State) (b : Byte), 64 ≤ b.toNat →
    s.runs .billing (.readSnapshot .billing b) (s.answer .billing ⟨.badOperand, []⟩)

/-- Section 11.6 with R36, R55, R111, R128, R138, R147, R159, R164, R184: the records as read, each field at its offset: a register in
52 bytes, a ticket in 36, a line in 17, an incoming trunk terminal in 13, an outgoing trunk in 4, a receiver in 13, a sender, the
orders, a meter context in 25, a snapshot block in 68 and the port status. Where the manual gives the fields and not their bytes
the layout is log entry 9; the order of the elements in flight is entry 21, the level of an attention line entry 22, and the
lengths of Read Line entry 23. -/
def Obligations.RecordsAsRead : Prop :=
  (∀ (g : CallRegister) (j : SubjectRec),
     let b := encRegister g j
     b.length = 52 ∧ b.take 1 = enc1 g.state.code ∧
     (∀ n p, g.origin = some (.line n p) → (b.drop 1).take 4 = enc1 0 ++ enc2 n.val ++ enc1 p.code) ∧
     (∀ i, g.origin = some (.trunk i) → (b.drop 1).take 4 = enc1 1 ++ enc2 i.val ++ enc1 255) ∧
     (g.origin = none → (b.drop 1).take 4 = enc1 255 ++ enc2 65535 ++ enc1 255) ∧
     (b.drop 5).take 1 = enc1 g.digits.length ∧
     (∀ k, k < 14 → b[6 + k]? = some (BitVec.ofNat 8 (((g.digits[k]?).map digitPulses).getD 0))) ∧
     (b.drop 20).take 2 = opt1 (g.walkNode.map (·.val)) ++ opt1 (g.route.map (·.val)) ∧
     (b.drop 22).take 3 = opt2 (g.destination.map (·.line.val)) ++ opt1 (g.destination.map (·.party.code)) ∧
     (b.drop 25).take 6 = opt2 (g.path.oLink.map (·.val)) ++ opt2 (g.path.middle.map (·.val)) ++
       opt2 (g.path.tLink.map (·.val)) ∧
     (b.drop 31).take 2 = opt1 (g.receiver.map (·.val)) ++ opt1 (g.sender.map (·.val)) ∧
     (b.drop 33).take 3 = opt1 (g.tone.map (·.1.code)) ++ opt1 (g.tone.map (·.2.code)) ++ opt1 (g.timer.map (·.kind.code)) ∧
     (b.drop 36).take 3 = enc3 ((g.timer.map (·.remaining)).getD 0) ∧
     (b.drop 39).take 6 = encFlag g.meter.isSome ++ enc2 ((g.meter.map (·.units)).getD 0) ++
       enc3 ((g.meter.map (·.duration)).getD 0) ∧
     (b.drop 45).take 2 = encFlag g.reservation ++ opt1 (g.endCause.map (·.code)) ∧
     (b.drop 47).take 1 = enc1 (handlerCode (j.binding.map (·.port))) ∧
     (∀ k : EventKind, (b[48 + k.code / 8]?).map (fun x => x.getLsbD (k.code % 8)) = some (j.pending.getLsbD k.code)) ∧
     b.drop 51 = encFlag j.queued) ∧
  (∀ t : Ticket,
     let b := encTicket t
     b.length = 36 ∧ b.take 3 = enc2 t.sequence.toNat ++ encFlag t.number.isNone ∧
     (t.number = none → (b.drop 3).take 4 = enc2 t.equipment.val ++ enc1 0 ++ enc1 0) ∧
     (∀ d d1 d2 d3 : Digit, ∀ slot : Fin 1000, slot.val = 100 * d1.val + 10 * d2.val + d3.val → t.number = some (d, slot) →
       (b.drop 3).take 4 = encDigit d ++ encDigit d1 ++ encDigit d2 ++ encDigit d3) ∧
     (b.drop 7).take 2 = enc1 t.party.code ++ enc1 t.digits.length ∧
     (∀ k, k < 14 → b[9 + k]? = some (BitVec.ofNat 8 (((t.digits[k]?).map digitPulses).getD 0))) ∧
     (b.drop 23).take 3 = enc1 t.route.val ++ enc1 t.zone.val ++ enc1 t.answerBand.code ∧
     (b.drop 26).take 4 = enc2 t.answerDay.toNat ++ enc2 t.answerMinute ∧
     (b.drop 30).take 5 = enc3 t.duration ++ enc2 t.units ∧ b.drop 35 = encFlag t.tariffChanged) ∧
  ((∀ (s : State) (n : LineNo),
      let b := s.encLine n
      let l := s.line n
      let waiting := s.scan.queue ++ s.scan.deferred
      b.length = 17 ∧ b.take 3 = enc1 l.cls.code ++ enc1 l.state.code ++ opt1 (l.register.map (·.val)) ∧
      (b.drop 3).take 2 = opt1 (l.originParty.map (·.code)) ++ opt1 (l.earlyOffHook.map (·.toNat)) ∧
      (∀ y, .line n y ∈ waiting → (∀ z, .line n z ∈ waiting → z = y) → (b.drop 5).take 1 = enc1 y.code) ∧
      ((∀ y, .line n y ∉ waiting) → (b.drop 5).take 1 = enc1 255) ∧
      (b.drop 6).take 3 = enc3 (l.waitTimer.getD 16777215) ∧
      (∀ ahead y behind, s.scan.queue = ahead ++ .line n y :: behind → (∀ e ∈ ahead, e.terminal ≠ .line n) →
        (b.drop 9).take 1 = enc1 ahead.length) ∧
      ((∀ e ∈ s.scan.queue, e.terminal ≠ .line n) → (b.drop 9).take 1 = enc1 255) ∧
      (b.drop 10).take 1 = enc1 l.accepted.code ∧
      (b.drop 11).take 3 = [l.samples.oldest, l.samples.middle, l.samples.newest].flatMap (fun x => enc1 x.code) ∧
      b.drop 14 = [l.grounds.oldest, l.grounds.middle, l.grounds.newest].flatMap fun x => enc1 (if x then 0 else 1)) ∧
   (∀ (s : State) (i : TrunkNo),
      let b := s.encTrunk i
      let k := s.trunk i
      b.length = 13 ∧ b.take 2 = enc1 k.state.code ++ opt1 (k.register.map (·.val)) ∧
      (b.drop 2).take 6 = enc3 16777215 ++ enc3 (k.waitTimer.getD 16777215) ∧
      (∀ ahead behind, s.scan.queue = ahead ++ .trunk i :: behind → (∀ e ∈ ahead, e.terminal ≠ .trunk i) →
        (b.drop 8).take 1 = enc1 ahead.length) ∧
      ((∀ e ∈ s.scan.queue, e.terminal ≠ .trunk i) → (b.drop 8).take 1 = enc1 255) ∧
      (b.drop 9).take 1 = enc1 k.accepted.code ∧
      b.drop 10 = [k.samples.oldest, k.samples.middle, k.samples.newest].flatMap fun x => enc1 x.code) ∧
   (∀ (s : State) (o : OutNo),
      let f := tget s.scan.answers o
      s.encAnswer o = [f.accepted, f.samples.oldest, f.samples.middle, f.samples.newest].flatMap encFlag) ∧
   (∀ s : State, s.encReceiver .free = 0 :: List.replicate 12 255 ∧ s.encReceiver .blocked = 2 :: List.replicate 12 255) ∧
   (∀ (s : State) (a : Attachment),
      let b := s.encReceiver (.attached a)
      b.length = 13 ∧ b.take 3 = enc1 1 ++ encFlag a.blockAfterUse ++ enc1 a.register.val ∧
      (∀ n y, (s.reg a.register).origin = some (.line n y) → (b.drop 3).take 3 = enc1 0 ++ enc2 n.val) ∧
      (∀ i, (s.reg a.register).origin = some (.trunk i) → (b.drop 3).take 3 = enc1 1 ++ enc2 i.val) ∧
      (a.phase = .make → (b.drop 6).take 1 = enc1 0 ∧ (b.drop 10).take 2 = enc2 65535) ∧
      (∀ z, a.phase = .brk z → (b.drop 6).take 1 = enc1 1 ∧ (b.drop 10).take 2 = enc2 z) ∧
      (b.drop 7).take 3 = enc1 a.pulses ++ enc2 a.makeTime ∧ b.drop 12 = encFlag a.dialTone) ∧
   (encSender .free = [0, 255, 255, 255, 0, 255, 255, 255, 255, 255] ∧
    encSender .blocked = [2, 255, 255, 255, 0, 255, 255, 255, 255, 255]) ∧
   (∀ a : Sending,
      let b := encSender (.busy a)
      b.take 5 = enc1 1 ++ encFlag a.blockAfterUse ++ enc1 a.register.val ++ enc1 a.trunk.val ++ enc1 a.digits.length ∧
      (b.drop 5).take a.digits.length = a.digits.map (fun d => BitVec.ofNat 8 (digitPulses d)) ∧
      b.drop (5 + a.digits.length) = enc1 a.position ++ enc1 a.phase.code ++ enc1 a.pulsesLeft ++ enc2 a.phaseTime)) ∧
  ((∀ u : OrderUnit,
      let b := encOrders u
      let order (o : Order) : List Byte := enc1 (kindCode o.kind) ++ opt1 (o.register.map (·.val))
      let elements := (u.inFlight.map (·.elements)).getD []
      let rest := b.drop (8 + 2 * elements.length)
      (u.inFlight = none → b.take 8 = List.replicate 6 255 ++ enc2 0) ∧
      (∀ f, u.inFlight = some f →
        b.take 8 = order f.order ++ enc1 f.tag.toNat ++ encFlag f.cancelled ++ enc2 f.time ++ enc2 f.elements.length ∧
        ∀ k e, f.elements[k]? = some e → (b.drop (8 + 2 * k)).take 2 = enc2 e.val) ∧
      rest.take 1 = enc1 u.queue.length ∧ (∀ k o, u.queue[k]? = some o → (rest.drop (1 + 2 * k)).take 2 = order o) ∧
      (u.lastTimeout = none → rest.drop (1 + 2 * u.queue.length) = enc1 u.tag.toNat ++ List.replicate 3 255) ∧
      ∀ o tag, u.lastTimeout = some (o, tag) →
        rest.drop (1 + 2 * u.queue.length) = enc1 u.tag.toNat ++ order o ++ enc1 tag.toNat) ∧
   encContext none = List.replicate 25 255 ∧
   (∀ c : MeterContext,
      let b := encContext (some c)
      b.length = 25 ∧ b.take 2 = enc1 c.zone.val ++ enc1 c.answerBand.code ∧
      (b.drop 2).take 4 = enc2 c.answerDay.toNat ++ enc2 c.answerMinute ∧
      (b.drop 6).take 5 = enc1 c.band.code ++ enc1 c.cell.u0.val ++ enc2 c.cell.period.val ++ enc1 c.cell.fraction.val ∧
      (b.drop 11).take 2 = enc1 c.generation.toNat ++ enc1 c.framePosition.val ∧
      (b.drop 13).take 3 = enc3 (c.periodRemaining.getD 16777215) ∧ (b.drop 16).take 5 = enc2 c.units ++ enc3 c.duration ∧
      (b.drop 21).take 1 = encFlag c.tariffChanged ∧
      b.drop 22 = opt2 (c.meter.map (·.line.val)) ++ opt1 (c.meter.map (·.party.code))) ∧
   (∀ (u : MeterStore) (block : Fin 64),
      let b := encSnapshotBlock u block
      b.length = 68 ∧ b.take 4 = enc2 u.snapshotDay.toNat ++ enc2 u.snapshotMinute ∧
      ∀ (k : Fin 16) (i : Fin 1024), i.val = 16 * block.val + k.val →
        (b.drop (4 + 4 * k.val)).take 4 = enc3 (tget u.values i).value ++ encFlag (tget u.values i).full) ∧
   ∀ (s : State) (p : Port),
      let b := s.encPortStatus p
      let q := s.att.queue.length
      let side (x : Side) : List Byte :=
        encFlag (s.att.port x).fenced ++ enc1 (s.att.port x).strikes ++ encFlag (s.att.port x).enabled ++
          enc1 (if q ≠ 0 ∧ (s.att.port x).fenced = false ∧ (s.att.port x).enabled = true then 1 else 0) ++
          enc1 (allSubjects.filter fun j => s.handler j = some x).length
      let m := s.subject .maintenance
      b.take 1 = enc1 (portCode p) ∧ (b.drop 1).take 5 = side .a ∧ (b.drop 6).take 5 = side .b ∧
      (b.drop 11).take 1 = enc1 q ∧ (∀ k j, s.att.queue[k]? = some j → b[12 + k]? = some (BitVec.ofNat 8 (subjectIndex j).val)) ∧
      (b.drop (12 + q)).take 2 = enc1 (handlerCode (s.handler .maintenance)) ++ encFlag m.queued ∧
      (∀ k : EventKind, (b[14 + q + k.code / 8]?).map (fun x => x.getLsbD (k.code % 8)) = some (m.pending.getLsbD k.code)) ∧
      (s.att.lastTimeout = none → (b.drop (17 + q)).take 2 = enc2 65535) ∧
      (∀ x j, s.att.lastTimeout = some (x, j) → (b.drop (17 + q)).take 2 = enc1 (sideCode x) ++ enc1 (subjectIndex j).val) ∧
      b.drop (19 + q) = enc1 s.att.lastRestart.1.code ++ enc1 s.att.lastRestart.2.code)

/-! ### Call registers -/

/-- R5, R6, R7: Give Tone of its binder takes a TRANSLATED or SET register into TONE with the tone given and tone cause ORDERED: the tone
goes to the calling terminal, dial tone is removed, TONE runs with 30,000 ms, and path, route, destination and reservation
stay. From SET the called line is given up: IDLE, or LOCKOUT with the notice where its loop is CLOSED. -/
def Obligations.GiveToneEntersTone : Prop :=
  ∀ (x : Side) (s : State) (r : RegNo) (b c : Byte) (y : Tone) (o : Origin), s.takes x (.giveTone (.controller x) b c) →
    b.toNat = r.val → c.toNat = y.code →
    s.handler (.register r) = some x → (s.reg r).state = .translated ∨ (s.reg r).state = .set → (s.reg r).origin = some o →
    (s.reg r).receiver = none → (s.reg r).walkNode = none →
    ∃ u : State, exec (.giveTone (.controller x) b c) s = .next (u.answer (.controller x) ⟨.done, []⟩) ∧
      u.reg r = { s.reg r with state := .tone, tone := some (y, .ordered), timer := some ⟨.tone, 30000⟩ } ∧
      (∀ q, q ≠ r → u.reg q = s.reg q) ∧
      u.toneOf o.terminal = some y ∧ (∀ t, t ≠ o.terminal → u.toneOf t = s.toneOf t) ∧
      (∀ n p, o = .line n p → (tget u.sig.lineSignals n).dialTone = false) ∧
      ((s.reg r).state = .translated ∨ (s.reg r).destination = none → u.scan = s.scan ∧ u.att = s.att) ∧
      (∀ d, (s.reg r).state = .set → (s.reg r).destination = some d → s.calledRole r d.line = true →
        u.line d.line = { s.line d.line with
          state := if (s.line d.line).accepted = .closed then .lockout else .idle
          register := none
          originParty := none
          earlyOffHook := none
          waitTimer := none } ∧
        (∀ n, n ≠ d.line → u.line n = s.line n) ∧ u.scan = { s.scan with lines := u.scan.lines } ∧
        ((s.line d.line).accepted = .closed → u.isPending .maintenance .lockout = true) ∧
        ((s.line d.line).accepted = .opened → u.att = s.att)) ∧
      (∀ j, j ≠ .maintenance → u.subject j = s.subject j) ∧
      u = { s with regs := u.regs, scan := u.scan, sig := u.sig, att := u.att }

/-- R8, R9, R16, R125, R126: what starts a release and the end cause it gives: Release Call, the expiry of the TONE timer, the expiry
of the CALLED_RELEASE timer and the far-end clear of an incoming trunk. A cause that reaches a register outside the calling
states does not act on it. What the release itself does is the subject of the next three statements. -/
def Obligations.CausesOfRelease : Prop :=
  (∀ (x : Side) (s : State) (r : RegNo) (b : Byte), s.takes x (.releaseCall (.controller x) b) → b.toNat = r.val →
    s.handler (.register r) = some x → (s.reg r).state ∈ [.translated, .connecting, .set, .ringing, .sending, .awaitAnswer, .talk, .tone] →
    exec (.releaseCall (.controller x) b) s = .next ((s.release r .forced).settle.answer (.controller x) ⟨.done, []⟩)) ∧
  (∀ (s : State) (r : RegNo) (y : Tone) (c : ToneCause), (s.reg r).state = .tone → (s.reg r).timer = some ⟨.tone, 0⟩ →
    (s.reg r).tone = some (y, c) →
    exec (.toneTimerExpiry r) s = .next (s.release r (if c = .digitError then .digitError else .toneTimeout)).settle) ∧
  (∀ (s : State) (r : RegNo), (s.reg r).timer = some ⟨.calledRelease, 0⟩ →
    exec (.calledReleaseExpiry r) s = .next (s.release r .calledRelease).settle) ∧
  (∀ (s : State) (i : TrunkNo) (r : RegNo), tget s.sig.clearTimers i = some 400 → (s.trunk i).register = some r →
    exec (.incomingClearTimerExpiry i) s = .next ((s.setClearTimer i none).release r .callingClear).settle) ∧
  (∀ (s : State) (r : RegNo) (c : EndCause), (s.reg r).state ∈ [.free, .dialing, .clearing, .ended] → s.release r c = s) ∧
  ∀ (s : State) (r : RegNo) (t : Nat), (s.reg r).timer ≠ some ⟨.tone, 0⟩ → (s.reg r).timer ≠ some ⟨.calledRelease, 0⟩ →
    exec (.toneTimerExpiry r) s = .next s ∧ exec (.calledReleaseExpiry r) s = .next s ∧
    ∀ i, tget s.sig.clearTimers i = some t → t < 400 → exec (.incomingClearTimerExpiry i) s = .next s

/-- R9, R10, R11, R14: a release stops the parts of the call and ends its roles. The end cause is present; timer, meter context, tone
and sender are absent; the reservation is settled; origin, digits, route and destination stay. The sender returns with its
loop closed; tone, ringing and dial tone are removed. The calling terminal becomes IDLE after a calling clear, and otherwise
both terminals become IDLE or LOCKOUT by their loops. No other register, line or subject changes. -/
def Obligations.ReleaseStopsPartsAndEndsRoles : Prop :=
  ∀ (s : State) (r : RegNo) (c : EndCause) (o : Origin),
    (s.reg r).state ∈ [.translated, .connecting, .set, .ringing, .sending, .awaitAnswer, .talk, .tone] →
    (s.reg r).origin = some o → s.callingRole r o.terminal = true → (c = .callingClear → s.accepted o.terminal = .opened) →
    (∀ k, (s.reg r).sender = some k → ∃ b, s.sender k = .busy b ∧ b.register = r) →
    let t := s.release r c
    (t.reg r).endCause = some c ∧ (t.reg r).timer = none ∧ (t.reg r).meter = none ∧ (t.reg r).tone = none ∧
    (t.reg r).sender = none ∧ (t.reg r).reservation = false ∧ (t.reg r).origin = some o ∧ (t.reg r).digits = (s.reg r).digits ∧
    (t.reg r).route = (s.reg r).route ∧ (t.reg r).destination = (s.reg r).destination ∧
    (∀ q, q ≠ r → t.reg q = s.reg q) ∧
    (∀ k b, (s.reg r).sender = some k → s.sender k = .busy b →
      t.sender k = (if b.blockAfterUse then .blocked else .free) ∧ tget t.sig.senderSignals k = ⟨none, .closed⟩) ∧
    (∀ k, (s.reg r).sender ≠ some k → t.sender k = s.sender k) ∧
    (∀ n p, o = .line n p →
      t.line n = (s.line n).outOfCall (if (s.line n).accepted = .opened then .idle else .lockout) ∧
      (tget t.sig.lineSignals n).dialTone = false) ∧
    (∀ i, o = .trunk i →
      t.trunk i = (s.trunk i).outOfCall (if (s.trunk i).accepted = .opened then .idle else .lockout) ∧
      tget t.sig.clearTimers i = none) ∧
    (∀ d, (s.reg r).destination = some d → s.calledRole r d.line = true →
      t.line d.line = (s.line d.line).outOfCall (if (s.line d.line).accepted = .opened then .idle else .lockout) ∧
      ((s.line d.line).accepted = .closed → t.isPending .maintenance .lockout = true)) ∧
    (∀ n, Terminal.line n ≠ o.terminal → s.calledRole r n = false → t.line n = s.line n) ∧
    (∀ i, Terminal.trunk i ≠ o.terminal → t.trunk i = s.trunk i) ∧
    (s.accepted o.terminal = .closed → t.isPending .maintenance .lockout = true) ∧
    ((s.reg r).state = .tone → t.toneOf o.terminal = none) ∧
    (∀ d, (s.reg r).state = .ringing → (s.reg r).destination = some d → (tget t.sig.lineSignals d.line).ringing = none) ∧
    (∀ j, j ≠ .maintenance → j ≠ .register r → t.subject j = s.subject j) ∧
    t.scan.queue = s.scan.queue ∧ t.scan.deferred = s.scan.deferred ∧ t.scan.answers = s.scan.answers ∧
    t = { s with
      regs := t.regs, scan := t.scan, net := t.net, orders := t.orders, sig := t.sig, tickets := t.tickets, att := t.att }

/-- R13, R14, R104, R105: what a release does with the path. With no path the register is ENDED and CLEARED is posted. An operated
path becomes RELEASING, RELEASE joins the order queue and the register is CLEARING. From CONNECTING a queued OPERATE is
withdrawn and its elements become FREE, an OPERATE in flight is marked cancelled, and a fault release serves the clear. -/
def Obligations.ReleaseDealsWithThePath : Prop :=
  ∀ (s : State) (r : RegNo) (c : EndCause),
    let t := s.release r c
    let es := (s.reg r).path.elements
    ((s.reg r).state ∈ [.translated, .set, .ringing, .sending, .awaitAnswer, .talk, .tone] → es = [] →
      (t.reg r).state = .ended ∧ (t.reg r).path = Path.empty ∧ t.isPending (.register r) .cleared = true ∧ t.net = s.net ∧
      t.orders = s.orders) ∧
    ((s.reg r).state ∈ [.translated, .set, .ringing, .sending, .awaitAnswer, .talk, .tone] → es ≠ [] →
      (t.reg r).state = .clearing ∧ (t.reg r).path = (s.reg r).path ∧ (∀ e ∈ es, t.elem e = .releasing) ∧
      (∀ e, e ∉ es → t.elem e = s.elem e) ∧ t.orders = { s.orders with queue := s.orders.queue ++ [.release r] }) ∧
    ((s.reg r).state = .connecting → Order.operate r ∈ s.orders.queue →
      (t.reg r).state = .ended ∧ (t.reg r).path = Path.empty ∧ t.isPending (.register r) .cleared = true ∧
      (∀ e ∈ es, t.elem e = .free) ∧ (∀ e, e ∉ es → t.elem e = s.elem e) ∧
      t.orders = { s.orders with queue := s.orders.queue.filter fun o => o ≠ .operate r }) ∧
    (∀ f, (s.reg r).state = .connecting → Order.operate r ∉ s.orders.queue → s.orders.inFlight = some f →
      f.order = .operate r →
      (t.reg r).state = .clearing ∧ (t.reg r).path = (s.reg r).path ∧ t.net = s.net ∧
      t.orders = { s.orders with inFlight := some { f with cancelled := true } }) ∧
    ((s.reg r).state = .connecting → Order.operate r ∉ s.orders.queue →
      (∀ f, s.orders.inFlight = some f → f.order ≠ .operate r) →
      (t.reg r).state = .clearing ∧ (t.reg r).path = (s.reg r).path ∧ t.net = s.net ∧ t.orders = s.orders) ∧
    ((t.reg r).state = .clearing → (s.reg r).state ≠ .clearing → t.subject (.register r) = s.subject (.register r))

/-- R12, R163, R164: the release of a call in TALK turns its reservation into a ticket at the tail of the queue, built from the record
and the meter context as they stood, and counts the sequence up; the release from any other state returns the reservation. -/
def Obligations.ReleaseFromTalkMakesTheTicket : Prop :=
  ∀ (s : State) (r : RegNo) (c : EndCause),
    let t := s.release r c
    (∀ n p ro m, (s.reg r).state = .talk → (s.reg r).reservation = true → (s.reg r).origin = some (.line n p) →
      (s.reg r).route = some ro → (s.reg r).meter = some m →
      ∃ k : Ticket, t.tickets = { s.tickets with
          stored := s.tickets.stored ++ [k], reserved := s.tickets.reserved - 1, sequence := s.tickets.sequence + 1 } ∧
        k.sequence = s.tickets.sequence ∧ k.equipment = n ∧ k.party = p ∧ k.digits = (s.reg r).digits ∧ k.route = ro ∧
        k.zone = m.zone ∧ k.answerBand = m.answerBand ∧ k.answerDay = m.answerDay ∧ k.answerMinute = m.answerMinute ∧
        k.duration = m.duration ∧ k.units = m.units ∧ k.tariffChanged = m.tariffChanged ∧
        (∀ d, tget s.trans.directory d = some ⟨n, p⟩ → (∀ d', tget s.trans.directory d' = some ⟨n, p⟩ → d' = d) →
          k.number = some (s.tickets.directoryDigit, d)) ∧
        ((∀ d, tget s.trans.directory d ≠ some ⟨n, p⟩) → k.number = none)) ∧
    ((s.reg r).state ∈ [.translated, .connecting, .set, .ringing, .sending, .awaitAnswer, .tone] → (s.reg r).reservation = true →
      t.tickets = { s.tickets with reserved := s.tickets.reserved - 1 }) ∧
    ((s.reg r).reservation = false → t.tickets = s.tickets)

/-- R16, R46, R49, R51: a call that ends from DIALING: by Release Call with FORCED, by the clear of its receiver with ABANDONED, by the
expiry of FIRST_DIGIT or INTERDIGIT, after DIAL_TIMEOUT is posted, with DIAL_TIMEOUT. The receiver is returned, a reservation is
returned, the calling terminal leaves the call by its loop, and the register is ENDED with CLEARED posted. -/
def Obligations.EndFromDialling : Prop :=
  (∀ (x : Side) (s : State) (r : RegNo) (b : Byte), s.takes x (.releaseCall (.controller x) b) → b.toNat = r.val →
    s.handler (.register r) = some x → (s.reg r).state = .dialing →
    exec (.releaseCall (.controller x) b) s = .next ((s.endDialing r .forced).settle.answer (.controller x) ⟨.done, []⟩)) ∧
  (∀ (s : State) (k : ReceiverNo) (a : Attachment), s.receiver k = .attached a → a.phase = .brk 400 →
    exec (.clear k) s = .next (s.endDialing a.register .abandoned).settle) ∧
  (∀ (s : State) (r : RegNo), (s.reg r).state = .dialing →
    (s.reg r).timer = some ⟨.firstDigit, 0⟩ ∨ (s.reg r).timer = some ⟨.interdigit, 0⟩ →
    exec (.dialTimeout r) s = .next ((s.post (.register r) .dialTimeout).endDialing r .dialTimeout).settle) ∧
  ∀ (s : State) (r : RegNo) (c : EndCause) (o : Origin) (k : ReceiverNo) (a : Attachment), (s.reg r).origin = some o →
    s.callingRole r o.terminal = true → (s.reg r).receiver = some k → s.receiver k = .attached a →
    let t := s.endDialing r c
    t.reg r = { s.reg r with
      state := .ended, walkNode := none, receiver := none, sender := none, tone := none, timer := none, meter := none
      path := Path.empty, reservation := false, endCause := some c } ∧
    (∀ q, q ≠ r → t.reg q = s.reg q) ∧ t.isPending (.register r) .cleared = true ∧
    t.receiver k = (if a.blockAfterUse then .blocked else .free) ∧ (∀ l, l ≠ k → t.receiver l = s.receiver l) ∧
    (∀ n p, o = .line n p →
      t.line n = (s.line n).outOfCall (if (s.line n).accepted = .opened then .idle else .lockout) ∧
      (∀ m, m ≠ n → t.line m = s.line m) ∧ t.scan.trunks = s.scan.trunks ∧
      (a.dialTone = true → (tget t.sig.lineSignals n).dialTone = false)) ∧
    (∀ i, o = .trunk i →
      t.trunk i = (s.trunk i).outOfCall (if (s.trunk i).accepted = .opened then .idle else .lockout) ∧
      (∀ j, j ≠ i → t.trunk j = s.trunk j) ∧ t.scan.lines = s.scan.lines) ∧
    (s.accepted o.terminal = .closed → t.isPending .maintenance .lockout = true) ∧
    t.tickets = (if (s.reg r).reservation = true then { s.tickets with reserved := s.tickets.reserved - 1 } else s.tickets) ∧
    (∀ j, j ≠ .maintenance → j ≠ .register r → t.subject j = s.subject j) ∧
    t.scan.queue = s.scan.queue ∧ t.scan.deferred = s.scan.deferred ∧
    t = { s with
      regs := t.regs, scan := t.scan, receivers := t.receivers, sig := t.sig, tickets := t.tickets, att := t.att }

/-! ### Lines and trunks -/

/-- R3, R31, R32, R41: DEFERRED_PROMOTION and QUEUE_HEAD_SERVICE. A free place takes the first terminal of the Deferred Set, a line at the
tail, a trunk after the last trunk; it is WAITING with its wait timer kept. The head of the queue goes to the lowest-numbered
FREE register and receiver: the record is filled, the receiver attached, a line ORIGINATING with dial tone, a trunk BUSY with
PROCEED, and the freed place is filled. Where a condition fails nothing happens. -/
def Obligations.WaitingTerminalsAreServedInOrder : Prop :=
  (∀ s : State,
     (∀ e rest, s.scan.deferred = e :: rest → s.scan.queue.length < 32 →
       let t := s.promote
       exec .deferredPromotion s = .next (State.serve 12 t) ∧ t.scan.deferred = rest ∧
       (∀ n p, e = .line n p → t.scan.queue = s.scan.queue ++ [e] ∧ t.line n = { s.line n with state := .waiting } ∧
         (∀ m, m ≠ n → t.line m = s.line m) ∧ t.scan.trunks = s.scan.trunks) ∧
       (∀ i trunks lines, e = .trunk i → s.scan.queue = trunks ++ lines → (∀ x ∈ trunks, x.isTrunk = true) →
         (∀ x ∈ lines, x.isTrunk = false) →
         t.scan.queue = trunks ++ e :: lines ∧ t.trunk i = { s.trunk i with state := .waiting } ∧
         (∀ j, j ≠ i → t.trunk j = s.trunk j) ∧ t.scan.lines = s.scan.lines) ∧
       t = { s with scan := t.scan } ∧ t.scan.answers = s.scan.answers) ∧
     (s.scan.deferred = [] ∨ 32 ≤ s.scan.queue.length → exec .deferredPromotion s = .next s ∧ s.promote = s)) ∧
  (∀ s : State,
     (∀ e rest r k, s.scan.queue = e :: rest → (s.reg r).state = .free → (∀ q, q < r → (s.reg q).state ≠ .free) →
       s.receiver k = .free → (∀ l, l < k → s.receiver l ≠ .free) →
       ∃ u : State, exec .queueHeadService s = .next u.promote ∧ u.scan.queue = rest ∧
         u.reg r = { CallRegister.free with
           state := .dialing
           origin := some e
           walkNode := some (if e.isTrunk then s.trans.incomingRoot else 0)
           receiver := some k
           timer := some ⟨.firstDigit, 20000⟩ } ∧
         (∀ q, q ≠ r → u.reg q = s.reg q) ∧
         u.receiver k = .attached ⟨false, r, .make, 0, 0, !e.isTrunk⟩ ∧ (∀ l, l ≠ k → u.receiver l = s.receiver l) ∧
         (∀ n p, e = .line n p →
           u.line n = { s.line n with
             state := .originating, register := some r, originParty := some p, waitTimer := none } ∧
           (∀ m, m ≠ n → u.line m = s.line m) ∧ u.scan = { s.scan with queue := rest, lines := u.scan.lines } ∧
           (tget u.sig.lineSignals n).dialTone = true ∧
           ((tget s.sig.lineSignals n).dialTone = false → u.sig.sent = s.sig.sent ++ [.dialToneOn n])) ∧
         (∀ i, e = .trunk i →
           u.trunk i = { s.trunk i with state := .busy, register := some r, waitTimer := none } ∧
           (∀ j, j ≠ i → u.trunk j = s.trunk j) ∧ u.scan = { s.scan with queue := rest, trunks := u.scan.trunks } ∧
           u.sig.sent = s.sig.sent ++ [.proceed i]) ∧
         u = { s with regs := u.regs, scan := u.scan, receivers := u.receivers, sig := u.sig }) ∧
     (s.scan.queue = [] ∨ (∀ r, (s.reg r).state ≠ .free) ∨ (∀ k, s.receiver k ≠ .free) →
       exec .queueHeadService s = .next s))

/-- R31, R32: what follows at once on an action that frees a register, a receiver or a place (`State.settle`, log entry 2): the freed place
is filled, then the head of the queue is served, service after service, each where the conditions hold, until they no longer hold
together. Registers and receivers that were not FREE, and every block but the registers, the queue, the receivers and the line
orders, stand; where nothing can be promoted or served nothing changes. -/
def Obligations.ServiceGoesOnWhileItCan : Prop :=
  ∀ s : State,
    let t := s.settle
    let canServe (u : State) : Prop := u.scan.queue ≠ [] ∧ (∃ r, (u.reg r).state = .free) ∧ ∃ k, u.receiver k = .free
    (∃ (n : Nat) (v : Nat → State), n ≤ 12 ∧ v 0 = s.promote ∧ v n = t ∧ ¬canServe t ∧
      ∀ k, k < n → canServe (v k) ∧ exec .queueHeadService (v k) = .next (v (k + 1))) ∧
    (∀ r, (s.reg r).state ≠ .free → t.reg r = s.reg r) ∧ (∀ k, s.receiver k ≠ .free → t.receiver k = s.receiver k) ∧
    (s.scan.deferred = [] ∨ 32 ≤ s.scan.queue.length → ¬canServe s → t = s) ∧
    t = { s with
      regs := t.regs
      scan := { t.scan with answers := s.scan.answers }
      receivers := t.receivers
      sig := { s.sig with lineSignals := t.sig.lineSignals, sent := t.sig.sent } }

/-- R34, R35: Write Line and Remove Line by the state of the terminal. -/
def Obligations.LinesArePutInAndOutOfService : Prop :=
  ∀ (x : Side) (s : State),
    let p := Port.controller x
    (∀ (n : LineNo) (number : Half) (c : LineClass) (cls : Byte), number.toNat = n.val → cls.toNat = c.code →
      let locked := (s.line n).cls = .twoParty ∧ c ≠ .twoParty ∧ ∃ d, tget s.trans.directory d = some ⟨n, .b⟩
      ((s.line n).state ∈ [.outOfService, .idle, .lockout] → locked →
        s.runs p (.writeLine p 0 number cls) (s.answer p ⟨.inUse, []⟩)) ∧
      ((s.line n).state = .outOfService → ¬locked → ∃ u : State,
        s.runs p (.writeLine p 0 number cls) (u.answer p ⟨.done, []⟩) ∧
        u.line n = { (s.line n).outOfCall (if (s.line n).accepted = .opened then .idle else .lockout) with cls := c } ∧
        (∀ m, m ≠ n → u.line m = s.line m) ∧ u = { s with scan := { s.scan with lines := u.scan.lines }, att := u.att } ∧
        ((s.line n).accepted = .closed → u.isPending .maintenance .lockout = true) ∧
        ((s.line n).accepted = .opened → u.att = s.att)) ∧
      ((s.line n).state = .idle ∨ (s.line n).state = .lockout → ¬locked → ∃ u : State,
        s.runs p (.writeLine p 0 number cls) (u.answer p ⟨.done, []⟩) ∧ u.line n = { s.line n with cls := c } ∧
        (∀ m, m ≠ n → u.line m = s.line m) ∧ u = { s with scan := { s.scan with lines := u.scan.lines } }) ∧
      ((s.line n).state ∉ [.outOfService, .idle, .lockout] →
        s.runs p (.writeLine p 0 number cls) (s.answer p ⟨.inUse, []⟩)) ∧
      ((s.line n).state = .outOfService → s.runs p (.removeLine p 0 number) (s.answer p ⟨.done, []⟩)) ∧
      ((s.line n).state ∈ [.idle, .lockout, .waiting, .deferred] → ∃ u : State,
        s.runs p (.removeLine p 0 number) ((if (s.line n).state = .waiting then u.settle else u).answer p ⟨.done, []⟩) ∧
        u.line n = (s.line n).outOfCall .outOfService ∧ (∀ m, m ≠ n → u.line m = s.line m) ∧
        u.scan.queue = (if (s.line n).state = .waiting ∨ (s.line n).state = .deferred then
          s.scan.queue.filter fun e => e.terminal ≠ .line n else s.scan.queue) ∧
        u.scan.deferred = (if (s.line n).state = .waiting ∨ (s.line n).state = .deferred then
          s.scan.deferred.filter fun e => e.terminal ≠ .line n else s.scan.deferred) ∧
        u.scan.trunks = s.scan.trunks ∧ u.scan.answers = s.scan.answers ∧ u = { s with scan := u.scan }) ∧
      ((s.line n).state ∈ [.originating, .termReserved, .termRinging, .termBusy] →
        s.runs p (.removeLine p 0 number) (s.answer p ⟨.inUse, []⟩))) ∧
    (∀ (i : TrunkNo) (number : Half) (cls : Byte), number.toNat = i.val → cls.toNat ≤ 4 →
      ((s.trunk i).state = .outOfService → ∃ u : State,
        s.runs p (.writeLine p 1 number cls) (u.answer p ⟨.done, []⟩) ∧
        u.trunk i = (s.trunk i).outOfCall (if (s.trunk i).accepted = .opened then .idle else .lockout) ∧
        ((s.trunk i).accepted = .closed → u.isPending .maintenance .lockout = true)) ∧
      ((s.trunk i).state = .outOfService → s.runs p (.removeLine p 1 number) (s.answer p ⟨.done, []⟩)) ∧
      ((s.trunk i).state = .idle ∨ (s.trunk i).state = .lockout →
        s.runs p (.writeLine p 1 number cls) (s.answer p ⟨.done, []⟩)) ∧
      ((s.trunk i).state ∈ [.idle, .lockout, .waiting, .deferred] → ∃ u : State,
        s.runs p (.removeLine p 1 number) ((if (s.trunk i).state = .waiting then u.settle else u).answer p ⟨.done, []⟩) ∧
        u.trunk i = (s.trunk i).outOfCall .outOfService ∧ (∀ j, j ≠ i → u.trunk j = s.trunk j) ∧
        u.scan.queue = (if (s.trunk i).state = .waiting ∨ (s.trunk i).state = .deferred then
          s.scan.queue.filter fun e => e.terminal ≠ .trunk i else s.scan.queue) ∧
        u.scan.deferred = (if (s.trunk i).state = .waiting ∨ (s.trunk i).state = .deferred then
          s.scan.deferred.filter fun e => e.terminal ≠ .trunk i else s.scan.deferred) ∧
        u.scan.lines = s.scan.lines ∧ u.scan.answers = s.scan.answers ∧ u = { s with scan := u.scan }) ∧
      ((s.trunk i).state ∈ [.waiting, .deferred, .busy] →
        s.runs p (.writeLine p 1 number cls) (s.answer p ⟨.inUse, []⟩)) ∧
      ((s.trunk i).state = .busy → s.runs p (.removeLine p 1 number) (s.answer p ⟨.inUse, []⟩))) ∧
    ∀ (kind : Byte) (number : Half) (cls : Byte),
      (5 ≤ cls.toNat → s.runs p (.writeLine p kind number cls) (s.answer p ⟨.badOperand, []⟩)) ∧
      (2 ≤ kind.toNat ∨ (kind = 0 ∧ 512 ≤ number.toNat) ∨ (kind = 1 ∧ 16 ≤ number.toNat) →
        s.runs p (.writeLine p kind number cls) (s.answer p ⟨.badOperand, []⟩) ∧
        s.runs p (.removeLine p kind number) (s.answer p ⟨.badOperand, []⟩))

/-- R25, R26: the expiry of the wait timer of a WAITING or DEFERRED terminal takes it out of the queue or the set into LOCKOUT and posts
LOCKOUT to M; the freed place is filled. A wait timer still running, and a terminal in another state, expire nothing. -/
def Obligations.WaitExpiryLocksOut : Prop :=
  ∀ (s : State) (t : Terminal),
    (s.waits t ∨ s.isDeferred t → s.waitTimer t = some 0 → ∃ u : State, exec (.waitTimerExpiry t) s = .next u.settle ∧
      u.scan.queue = s.scan.queue.filter (fun e => e.terminal ≠ t) ∧
      u.scan.deferred = s.scan.deferred.filter (fun e => e.terminal ≠ t) ∧
      (∀ n, t = .line n → u.line n = (s.line n).outOfCall .lockout ∧ (∀ m, m ≠ n → u.line m = s.line m)) ∧
      (∀ i, t = .trunk i → u.trunk i = (s.trunk i).outOfCall .lockout ∧ (∀ j, j ≠ i → u.trunk j = s.trunk j)) ∧
      u.isPending .maintenance .lockout = true ∧ (∀ j, j ≠ .maintenance → u.subject j = s.subject j) ∧
      u = { s with scan := u.scan, sig := u.sig, att := u.att }) ∧
    (¬(s.waits t ∨ s.isDeferred t) ∨ s.waitTimer t ≠ some 0 → exec (.waitTimerExpiry t) s = .next s)

/-- R20, R21, R37, R42: a scan phase, whatever order its consequences are taken in. Every filter takes its sample in place of the oldest,
in every state of its terminal or trunk, and an accepted state changes exactly where the three held samples now all show the
other state. Where one accepted change falls due, and the schedule names nothing else (log entry 4), the phase is the advance and the samples (described by
`QuietScanPhaseAdvancesTheTimes`), the clear or digit end that the advance has reached on that terminal's receiver, the change
with its consequence (described by `AcceptedChangesByState`) and the service that follows. The premise on the receivers is what every run
gives: a break begins before the make time has reached 160 ms, where the digit has ended (R126). -/
def Obligations.FiltersTakeSamplesAndAcceptChanges : Prop :=
  (∀ (x : SampleSet) (schedule : List ScanItem) (s : State), ∃ t : State, exec (.scanSampleSet x schedule) s = .next t ∧
    (∀ n : LineNo,
      (t.line n).samples = ⟨(s.line n).samples.middle, (s.line n).samples.newest,
        if Terminal.line n ∈ x.closed then .closed else .opened⟩ ∧
      (t.line n).grounds = ⟨(s.line n).grounds.middle, (s.line n).grounds.newest, decide (n ∈ x.grounded)⟩ ∧
      (t.line n).accepted = (if (t.line n).samples.allAre (s.line n).accepted.flip = true then (s.line n).accepted.flip
        else (s.line n).accepted) ∧
      (t.line n).cls = (s.line n).cls) ∧
    (∀ i : TrunkNo,
      (t.trunk i).samples = ⟨(s.trunk i).samples.middle, (s.trunk i).samples.newest,
        if Terminal.trunk i ∈ x.closed then .closed else .opened⟩ ∧
      (t.trunk i).accepted = (if (t.trunk i).samples.allAre (s.trunk i).accepted.flip = true then (s.trunk i).accepted.flip
        else (s.trunk i).accepted)) ∧
    ∀ o : OutNo,
      (tget t.scan.answers o).samples = ⟨(tget s.scan.answers o).samples.middle, (tget s.scan.answers o).samples.newest,
        decide (o ∈ x.reversed)⟩ ∧
      (tget t.scan.answers o).accepted = (if (tget t.scan.answers o).samples.allAre (!(tget s.scan.answers o).accepted) = true
        then !(tget s.scan.answers o).accepted else (tget s.scan.answers o).accepted)) ∧
  ∀ (x : SampleSet) (s : State),
    (∀ k a l, s.receiver k = .attached a → a.phase = .brk l → a.makeTime < 160) →
    let v := s.advanceTimes.takeSamples x
    let due (k : ReceiverNo) : Prop := (v.receiver k).clearDue = true ∨ (v.receiver k).digitEndDue = true
    (∀ (y : Terminal) (schedule : List ScanItem) (w : State), schedule = [] ∨ schedule = [.change y] →
      (∀ z, v.loopChangeDue z = decide (z = y)) → (∀ o, v.answerChangeDue o = false) →
      (w = v ∧ ∀ k, ¬due k) ∨ (∃ r k a, v.named y = some r ∧ (v.reg r).receiver = some k ∧ v.receiver k = .attached a ∧
        a.register = r ∧ (∀ l, l ≠ k → ¬due l) ∧
        ((v.receiver k).clearDue = true ∧ exec (.clear k) v = .next w ∨
          (v.receiver k).digitEndDue = true ∧ exec (.digitEnd k) v = .next w)) →
      (∀ n, y = .line n → exec (.scanSampleSet x schedule) s = .next
        ((w.modLine n fun l => { l with accepted := l.accepted.flip }).lineChange n (w.line n).accepted.flip).settle) ∧
      ∀ i, y = .trunk i → exec (.scanSampleSet x schedule) s = .next
        ((w.modTrunk i fun k => { k with accepted := k.accepted.flip }).trunkChange i (w.trunk i).accepted.flip).settle) ∧
    ∀ (o : OutNo) (schedule : List ScanItem), schedule = [] ∨ schedule = [.answerChange o] →
      (∀ z, v.loopChangeDue z = false) → (∀ p, v.answerChangeDue p = decide (p = o)) → (∀ k, ¬due k) →
      let reversed := !(tget s.scan.answers o).accepted
      let u : State := { v with scan := { v.scan with
        answers := tmod v.scan.answers o fun f => { f with accepted := reversed } } }
      exec (.scanSampleSet x schedule) s = .next (u.trunkAnswerChange o reversed).settle

/-- R4, R25, R42, R126: a scan phase in which nothing falls due lets the running times go on by 4 ms and changes nothing else but the
held samples: supervisory and wait timers run down, break, make and clear times run up. That a clear time stops at its 400 ms is
log entry 20 and that a schedule that names nothing leaves a timer at 0 for its own row log entry 4 (both DESIGN CHOICE). -/
def Obligations.QuietScanPhaseAdvancesTheTimes : Prop :=
  ∀ (x : SampleSet) (s : State),
    (∀ n, ((s.line n).samples.shift (if Terminal.line n ∈ x.closed then .closed else .opened)).allAre
      (s.line n).accepted.flip = false) →
    (∀ i, ((s.trunk i).samples.shift (if Terminal.trunk i ∈ x.closed then .closed else .opened)).allAre
      (s.trunk i).accepted.flip = false) →
    (∀ o, ((tget s.scan.answers o).samples.shift (decide (o ∈ x.reversed))).allAre (!(tget s.scan.answers o).accepted) = false) →
    (∀ k a, s.receiver k = .attached a →
      (∀ t, a.phase = .brk t → t + 4 < 400) ∧ (a.phase = .make → a.pulses = 0 ∨ a.makeTime + 4 < 160)) →
    let t := s.advanceTimes.takeSamples x
    exec (.scanSampleSet x []) s = .next t ∧
      (∀ r, t.reg r = { s.reg r with
        timer := (s.reg r).timer.map fun z => { z with remaining := z.remaining - 4 } }) ∧
      (∀ k, s.receiver k = .free ∨ s.receiver k = .blocked → t.receiver k = s.receiver k) ∧
      (∀ k a, s.receiver k = .attached a →
        (∀ b, a.phase = .brk b → t.receiver k = .attached { a with phase := .brk (b + 4) }) ∧
        (a.phase = .make → t.receiver k =
          .attached { a with makeTime := if a.pulses = 0 then 0 else a.makeTime + 4 })) ∧
      (∀ n, t.line n = { s.line n with
        waitTimer := (s.line n).waitTimer.map (· - 4), samples := (t.line n).samples, grounds := (t.line n).grounds }) ∧
      (∀ i, t.trunk i = { s.trunk i with
          waitTimer := (s.trunk i).waitTimer.map (· - 4), samples := (t.trunk i).samples } ∧
        tget t.sig.clearTimers i = (tget s.sig.clearTimers i).map fun z => min 400 (z + 4)) ∧
      (∀ o, tget t.scan.answers o = ⟨(tget s.scan.answers o).accepted,
        (tget s.scan.answers o).samples.shift (decide (o ∈ x.reversed))⟩) ∧
      t = { s with
        regs := t.regs, receivers := t.receivers
        scan := { s.scan with lines := t.scan.lines, trunks := t.scan.trunks, answers := t.scan.answers }
        sig := { s.sig with clearTimers := t.sig.clearTimers } }

/-- R22 to R30, R37, R116, R122, R124, R125, R126: what an accepted change does in each state of a line, of an incoming trunk terminal and
of an outgoing trunk's call. An accepted CLOSED in IDLE originates: into the queue while it holds fewer than 32, otherwise into
the Deferred Set, with 60,000 ms, the party of a TWO_PARTY line B where two or three held samples show GROUND. -/
def Obligations.AcceptedChangesByState : Prop :=
  (∀ s : State,
     (∀ n : LineNo, (s.line n).state = .idle →
       let u := s.lineChange n .closed
       let g := (s.line n).grounds
       let p : Party := if (s.line n).cls = .twoParty ∧ 2 ≤ ([g.oldest, g.middle, g.newest].count true) then .b else .a
       (s.scan.queue.length < 32 →
         u.line n = { s.line n with state := .waiting, waitTimer := some 60000 } ∧
         u.scan.queue = s.scan.queue ++ [.line n p] ∧ u.scan.deferred = s.scan.deferred) ∧
       (32 ≤ s.scan.queue.length →
         u.line n = { s.line n with state := .deferred, waitTimer := some 60000 } ∧
         u.scan.queue = s.scan.queue ∧ ∀ e, e ∈ u.scan.deferred ↔ e = .line n p ∨ e ∈ s.scan.deferred) ∧
       (∀ m, m ≠ n → u.line m = s.line m) ∧ u.scan.trunks = s.scan.trunks ∧ u.scan.answers = s.scan.answers ∧
       u = { s with scan := u.scan }) ∧
     ∀ i : TrunkNo, (s.trunk i).state = .idle →
       let u := s.trunkChange i .closed
       (∀ trunks lines, s.scan.queue.length < 32 → s.scan.queue = trunks ++ lines → (∀ x ∈ trunks, x.isTrunk = true) →
         (∀ x ∈ lines, x.isTrunk = false) →
         u.trunk i = { s.trunk i with state := .waiting, waitTimer := some 60000 } ∧
         u.scan.queue = trunks ++ .trunk i :: lines ∧ u.scan.deferred = s.scan.deferred) ∧
       (32 ≤ s.scan.queue.length →
         u.trunk i = { s.trunk i with state := .deferred, waitTimer := some 60000 } ∧
         u.scan.queue = s.scan.queue ∧ ∀ e, e ∈ u.scan.deferred ↔ e = .trunk i ∨ e ∈ s.scan.deferred) ∧
       (∀ j, j ≠ i → u.trunk j = s.trunk j) ∧ u.scan.lines = s.scan.lines ∧ u.scan.answers = s.scan.answers ∧
       u = { s with scan := u.scan }) ∧
  (∀ s : State,
     (∀ n : LineNo,
       ((s.line n).state = .waiting ∨ (s.line n).state = .deferred → (s.line n).accepted = .opened →
         let u := s.lineChange n .opened
         u.line n = (s.line n).outOfCall .idle ∧ u.scan.queue = (s.scan.queue.filter fun e => e.terminal ≠ .line n) ∧
         u.scan.deferred = (s.scan.deferred.filter fun e => e.terminal ≠ .line n) ∧ u = { s with scan := u.scan }) ∧
       ((s.line n).state = .lockout → (s.line n).accepted = .opened →
         s.lineChange n .opened = s.modLine n fun l => l.outOfCall .idle) ∧
       ((s.line n).state = .termReserved →
         s.lineChange n .closed = (s.modLine n fun l => { l with earlyOffHook := some true }) ∧
         s.lineChange n .opened = s.modLine n fun l => { l with earlyOffHook := some false }) ∧
       ((s.line n).state = .outOfService → ∀ x, s.lineChange n x = s) ∧
       (∀ r, (s.line n).register = some r →
         ((s.line n).state = .originating → (s.reg r).state ≠ .dialing → s.lineChange n .opened = s.release r .callingClear) ∧
         (∀ k, (s.line n).state = .originating → (s.reg r).state = .dialing → (s.reg r).receiver = some k →
           s.lineChange n .opened = s.beginBreak k ∧ s.lineChange n .closed = s.endBreak k) ∧
         ((s.line n).state = .termRinging → s.lineChange n .closed = s.answerCall r) ∧
         ((s.line n).state = .termBusy →
           let u := s.lineChange n .opened
           u.reg r = { s.reg r with timer := some ⟨.calledRelease, 60000⟩ } ∧ (∀ q, q ≠ r → u.reg q = s.reg q) ∧
           u.isPending (.register r) .calledClear = true ∧ u = { s with regs := u.regs, att := u.att } ∧
           ∀ z, (s.reg r).timer = some ⟨.calledRelease, z⟩ →
             s.lineChange n .closed = s.modReg r fun g => { g with timer := none }))) ∧
     (∀ i : TrunkNo,
       ((s.trunk i).state = .waiting ∨ (s.trunk i).state = .deferred → (s.trunk i).accepted = .opened →
         let u := s.trunkChange i .opened
         u.trunk i = (s.trunk i).outOfCall .idle ∧ u.scan.queue = (s.scan.queue.filter fun e => e.terminal ≠ .trunk i) ∧
         u.scan.deferred = (s.scan.deferred.filter fun e => e.terminal ≠ .trunk i) ∧
         u = { s with scan := u.scan, sig := u.sig }) ∧
       ((s.trunk i).state = .lockout → (s.trunk i).accepted = .opened →
         s.trunkChange i .opened = (s.modTrunk i fun k => k.outOfCall .idle).setClearTimer i none) ∧
       ((s.trunk i).state = .outOfService → ∀ x, s.trunkChange i x = s)) ∧
     (∀ i r, (s.trunk i).state = .busy → (s.trunk i).register = some r →
       ((s.reg r).state ≠ .dialing → s.trunkChange i .opened = s.setClearTimer i (some 0) ∧
         s.trunkChange i .closed = s.setClearTimer i none) ∧
       ∀ k, (s.reg r).state = .dialing → (s.reg r).receiver = some k →
         s.trunkChange i .opened = s.beginBreak k ∧ s.trunkChange i .closed = s.endBreak k) ∧
     ∀ o r, (s.reg r).path.middle = some (outElem o) → (∀ q, q ≠ r → (s.reg q).path.middle ≠ some (outElem o)) →
       ((s.reg r).state = .sending ∨ (s.reg r).state = .awaitAnswer → s.trunkAnswerChange o true = s.answerCall r) ∧
       ((s.reg r).state = .talk → s.trunkAnswerChange o false = s.release r .farEndClear) ∧
       ((s.reg r).state ∉ [.sending, .awaitAnswer, .talk] → ∀ x, s.trunkAnswerChange o x = s))

/-- R30, R31: every step keeps the law of the queue: at most 32 terminals, each once, trunks ahead of lines, exactly the WAITING ones;
the Deferred Set holds exactly the DEFERRED ones, in the order of promotion, and is empty unless 32 are queued. -/
def Obligations.QueueLawIsKept : Prop :=
  ∀ (s t : State), QueueLaw s → step s = .next t → QueueLaw t

/-! ### Dialling and translation -/

/-- R43, R44, R45, R48: an accepted OPEN begins a break and an accepted CLOSED classifies it by its length. Below 24 ms it is ignored;
from 24 to 100 ms it is a pulse, which removes dial tone; longer, or as an eleventh pulse, it is a digit error: TONE with NU
and cause DIGIT_ERROR, the receiver returned, DIGIT_ERROR posted, the digits already appended kept. -/
def Obligations.BreaksAreClassifiedByLength : Prop :=
  ∀ (s : State) (k : ReceiverNo) (a : Attachment), s.receiver k = .attached a →
    (a.phase = .make → s.beginBreak k = s.setReceiver k (.attached { a with phase := .brk 0 })) ∧
    ∀ l, a.phase = .brk l →
      (l < 24 → s.endBreak k = s.setReceiver k (.attached { a with phase := .make })) ∧
      (24 ≤ l → l ≤ 100 → a.pulses < 10 →
        let u := s.endBreak k
        u.receiver k = .attached { a with phase := .make, pulses := a.pulses + 1, makeTime := 0, dialTone := false } ∧
        (∀ j, j ≠ k → u.receiver j = s.receiver j) ∧
        (∀ n p, a.dialTone = true → (s.reg a.register).origin = some (.line n p) →
          (tget u.sig.lineSignals n).dialTone = false) ∧
        (a.dialTone = false → u.sig = s.sig) ∧ u = { s with receivers := u.receivers, sig := u.sig }) ∧
      (100 < l ∨ (24 ≤ l ∧ a.pulses = 10) → ∀ o, (s.reg a.register).origin = some o → (s.reg a.register).receiver = some k →
        let u := s.endBreak k
        u.reg a.register = { s.reg a.register with
          state := .tone, tone := some (.nu, .digitError), timer := some ⟨.tone, 30000⟩, receiver := none, walkNode := none } ∧
        (∀ q, q ≠ a.register → u.reg q = s.reg q) ∧ u.receiver k = (if a.blockAfterUse then .blocked else .free) ∧
        (∀ j, j ≠ k → u.receiver j = s.receiver j) ∧ u.toneOf o.terminal = some .nu ∧
        (∀ n p, o = .line n p → (tget u.sig.lineSignals n).dialTone = false) ∧
        u.isPending (.register a.register) .digitError = true ∧
        (∀ j, j ≠ .register a.register → u.subject j = s.subject j) ∧
        u = { s with regs := u.regs, receivers := u.receivers, sig := u.sig, att := u.att })

/-- R47, R50: a make that reaches 160 ms with 1 to 10 pulses counted ends a digit. The count is cleared, the digit, 0 for ten pulses, is
appended and walked, and a register still DIALING runs END_OF_DIALING with 4,000 ms on an open-ended route and INTERDIGIT with
15,000 ms otherwise. With no digit due nothing happens. -/
def Obligations.DigitEndAppendsAndWalks : Prop :=
  ∀ (s : State) (k : ReceiverNo) (a : Attachment), s.receiver k = .attached a →
    (∀ d : Digit, a.phase = .make → a.makeTime = 160 → digitPulses d = a.pulses →
      ∃ v w : State,
        v.reg a.register = { s.reg a.register with digits := (s.reg a.register).digits ++ [d] } ∧
        (∀ q, q ≠ a.register → v.reg q = s.reg q) ∧ v.receiver k = .attached { a with pulses := 0, makeTime := 0 } ∧
        (∀ j, j ≠ k → v.receiver j = s.receiver j) ∧ v = { s with regs := v.regs, receivers := v.receivers } ∧
        w = v.translate a.register d ∧
        ((w.reg a.register).state ≠ .dialing → exec (.digitEnd k) s = .next w.settle) ∧
        ∀ timer : SupervisoryTimer, (w.reg a.register).state = .dialing →
          (timer = ⟨.endOfDialing, 4000⟩ ∧ (∃ level zone ticketed primary alternate digits strip,
            w.routeEntry a.register = some (.outgoing level zone ticketed primary alternate digits strip 0)) ∨
          timer = ⟨.interdigit, 15000⟩ ∧ ∀ level zone ticketed primary alternate digits strip,
            w.routeEntry a.register ≠ some (.outgoing level zone ticketed primary alternate digits strip 0)) →
          exec (.digitEnd k) s = .next (w.modReg a.register fun g => { g with timer := some timer }).settle) ∧
    (a.phase ≠ .make ∨ a.makeTime < 160 ∨ a.pulses = 0 → exec (.digitEnd k) s = .next s) ∧
    ((∀ l, a.phase = .brk l → l < 400) → exec (.clear k) s = .next s)

/-- R58, R59, R62: the walk of a digit. A slot that names a node moves the walk there while fewer than 14 digits are held; a VACANT slot,
and a node reached with 14 digits, refuse the string as VACANT. A route is checked for its kind, its room, the caller's level
and the ticket places, in this order, and the first check that fails decides. -/
def Obligations.DigitsAreWalkedAndRoutesChecked : Prop :=
  ∀ (s : State) (r : RegNo) (d : Digit) (n : NodeNo) (o : Origin), (s.reg r).walkNode = some n → (s.reg r).origin = some o →
    let slot := tget (tget s.trans.nodes n) d
    let held := (s.reg r).digits.length
    (∀ m, slot = .node m → held < 14 → s.translate r d = s.modReg r fun g => { g with walkNode := some m }) ∧
    (∀ m, slot = .node m → 14 ≤ held → s.translate r d = s.refuseString r .nu .vacant .vacant) ∧
    (slot = .vacant → s.translate r d = s.refuseString r .nu .vacant .vacant) ∧
    ∀ t, slot = .route t →
      ((s.route t).entry = .invalid → s.translate r d = s.refuseString r .nu .vacant .vacant) ∧
      (∀ level zone, (s.route t).entry = .localCall level zone →
        (12 ≤ held → s.translate r d = s.refuseString r .nu .vacant .vacant) ∧
        (held < 12 → s.accessLevel o.terminal < level.val → s.translate r d = s.refuseString r .nu .barred .barred) ∧
        (held < 12 → level.val ≤ s.accessLevel o.terminal → s.translate r d = s.recordRoute r t)) ∧
      ∀ level zone ticketed primary alternate digits strip total,
        (s.route t).entry = .outgoing level zone ticketed primary alternate digits strip total →
        (s.accessLevel o.terminal < level.val → s.translate r d = s.refuseString r .nu .barred .barred) ∧
        (level.val ≤ s.accessLevel o.terminal → ticketed = true → 64 ≤ s.tickets.stored.length + s.tickets.reserved →
          s.translate r d = s.refuseString r .congestion .congestion .congestion) ∧
        (level.val ≤ s.accessLevel o.terminal →
          ticketed = false ∨ s.tickets.stored.length + s.tickets.reserved < 64 →
          (total ≤ held ∧ 1 ≤ total ∨ total = 0 ∧ 14 ≤ held → s.translate r d = (s.recordRoute r t).completeString r) ∧
          (held < total ∨ total = 0 ∧ held < 14 → s.translate r d = s.recordRoute r t))

/-- R49, R60, R7, R63, R64, R162: a refusal and an accepted route result. A refusal gives the tone and cause, returns the receiver and
posts the event; an open loop is then taken as the caller's clear or as the start of a trunk's. An accepted result records the
route, ends the walk, sets the model's count of directory digits (log entry 6) to 0, counts the reference and, for a ticketed
route, takes a reservation; TICKETS_HIGH is posted when the total rises to 56. -/
def Obligations.RefusalsAndRouteResultsAreRecorded : Prop :=
  ∀ (s : State) (r : RegNo),
    (∀ (y : Tone) (c : ToneCause) (e : EventKind) (o : Origin) (k : ReceiverNo) (a : Attachment), (s.reg r).origin = some o →
      (s.reg r).receiver = some k → s.receiver k = .attached a → ∃ u : State,
      (s.accepted o.terminal = .closed → s.refuseString r y c e = u) ∧
      (∀ n p, o = .line n p → (s.line n).accepted = .opened → s.refuseString r y c e = u.release r .callingClear) ∧
      (∀ i, o = .trunk i → (s.trunk i).accepted = .opened → s.refuseString r y c e = u.setClearTimer i (some 0)) ∧
      u.reg r = { s.reg r with
        state := .tone, tone := some (y, c), timer := some ⟨.tone, 30000⟩, receiver := none, walkNode := none } ∧
      (∀ q, q ≠ r → u.reg q = s.reg q) ∧ u.receiver k = (if a.blockAfterUse then .blocked else .free) ∧
      (∀ j, j ≠ k → u.receiver j = s.receiver j) ∧ u.toneOf o.terminal = some y ∧
      (∀ z, z ≠ o.terminal → u.toneOf z = s.toneOf z) ∧
      (∀ n p, o = .line n p → (tget u.sig.lineSignals n).dialTone = false) ∧ u.isPending (.register r) e = true ∧
      (∀ j, j ≠ .register r → u.subject j = s.subject j) ∧
      u = { s with regs := u.regs, receivers := u.receivers, sig := u.sig, att := u.att }) ∧
    ∀ t : RouteNo,
      let u := s.recordRoute r t
      let ticketed := ((s.route t).entry.terms).any fun z => z.2.2
      u.reg r = { s.reg r with
        route := some t, walkNode := none, directoryDigits := 0, reservation := ticketed || (s.reg r).reservation } ∧
      (∀ q, q ≠ r → u.reg q = s.reg q) ∧
      u.route t = { s.route t with refCount := (s.route t).refCount + 1 } ∧ (∀ v, v ≠ t → u.route v = s.route v) ∧
      u.tickets = { s.tickets with reserved := s.tickets.reserved + ticketed.toNat } ∧
      (ticketed = true → s.tickets.stored.length + s.tickets.reserved = 55 → u.isPending .maintenance .ticketsHigh = true) ∧
      (ticketed = false ∨ s.tickets.stored.length + s.tickets.reserved ≠ 55 → u.att = s.att) ∧
      u = { s with regs := u.regs, trans := { s.trans with routes := u.trans.routes }, tickets := u.tickets, att := u.att }

/-- R49, R52, R65, R66, R67: how a string completes. The digits after a route result are counted, in the model's count of directory
digits (log entry 6, DEDUCED) for a LOCAL route, whose third is looked up in the directory; END_OF_DIALING completes an open-ended
string. The register is TRANSLATED with no timer, the receiver returned and TRANSLATED posted; an open loop is then taken as the
caller's clear or as the start of a trunk's. -/
def Obligations.StringsComplete : Prop :=
  ∀ (s : State) (r : RegNo),
    (∀ (o : Origin) (k : ReceiverNo) (a : Attachment), (s.reg r).origin = some o →
      (s.reg r).receiver = some k → s.receiver k = .attached a → ∃ u : State,
      (s.accepted o.terminal = .closed → s.completeString r = u) ∧
      (∀ n p, o = .line n p → (s.line n).accepted = .opened → s.completeString r = u.release r .callingClear) ∧
      (∀ i, o = .trunk i → (s.trunk i).accepted = .opened → s.completeString r = u.setClearTimer i (some 0)) ∧
      u.reg r = { s.reg r with state := .translated, timer := none, receiver := none, walkNode := none } ∧
      (∀ q, q ≠ r → u.reg q = s.reg q) ∧ u.receiver k = (if a.blockAfterUse then .blocked else .free) ∧
      (∀ j, j ≠ k → u.receiver j = s.receiver j) ∧
      (∀ n p, o = .line n p → a.dialTone = true → (tget u.sig.lineSignals n).dialTone = false) ∧
      u.isPending (.register r) .translated = true ∧ (∀ j, j ≠ .register r → u.subject j = s.subject j) ∧
      u = { s with regs := u.regs, receivers := u.receivers, sig := u.sig, att := u.att }) ∧
    ((s.reg r).state = .dialing → (s.reg r).timer = some ⟨.endOfDialing, 0⟩ →
      exec (.endOfDialingExpiry r) s = .next (s.completeString r).settle) ∧
    ((s.reg r).timer ≠ some ⟨.endOfDialing, 0⟩ → exec (.endOfDialingExpiry r) s = .next s) ∧
    (∀ (d : Digit) (level : Fin 4) (zone : Zone), (s.reg r).walkNode = none → s.routeEntry r = some (.localCall level zone) →
      ((s.reg r).directoryDigits < 2 →
        s.translate r d = s.modReg r fun g => { g with directoryDigits := g.directoryDigits + 1 }) ∧
      ∀ (first : List Digit) (d1 d2 d3 : Digit) (slot : Fin 1000), (s.reg r).directoryDigits = 2 →
        (s.reg r).digits = first ++ [d1, d2, d3] → slot.val = 100 * d1.val + 10 * d2.val + d3.val →
        let v := s.modReg r fun g => { g with directoryDigits := 3 }
        (tget s.trans.directory slot = none → s.translate r d = v.refuseString r .nu .vacant .vacant) ∧
        ∀ x, tget s.trans.directory slot = some x →
          ((s.line x.line).state = .outOfService → s.translate r d = v.refuseString r .nu .vacant .vacant) ∧
          ((s.line x.line).state ≠ .outOfService →
            s.translate r d = (v.modReg r fun g => { g with destination := some x }).completeString r)) ∧
    ∀ (d : Digit) level zone ticketed primary alternate digits strip total, (s.reg r).walkNode = none →
      s.routeEntry r = some (.outgoing level zone ticketed primary alternate digits strip total) →
      ((s.reg r).digits.length < (if total = 0 then 14 else total) → s.translate r d = s) ∧
      ((if total = 0 then 14 else total) ≤ (s.reg r).digits.length → s.translate r d = s.completeString r)

/-- R53, R54, R127, R128: Block and Unblock of a receiver or a sender by its state: FREE and BLOCKED change at once, a unit in use has
its block-after-use flag set with IN_USE or cleared with DONE. A number out of range is refused BAD_OPERAND. -/
def Obligations.UnitsAreBlockedAndUnblocked : Prop :=
  ∀ (x : Side) (s : State) (b : Byte),
    let p := Port.controller x
    let done (u : State) : State := u.answer p ⟨.done, []⟩
    let bad : State := s.answer p ⟨.badOperand, []⟩
    (12 ≤ b.toNat → s.runs p (.blockReceiver p b) bad ∧ s.runs p (.unblockReceiver p b) bad) ∧
    (6 ≤ b.toNat → s.runs p (.blockSender p b) bad ∧ s.runs p (.unblockSender p b) bad) ∧
    (∀ k : ReceiverNo, b.toNat = k.val →
      (s.receiver k = .free → s.runs p (.blockReceiver p b) (done (s.setReceiver k .blocked)) ∧
        s.runs p (.unblockReceiver p b) (done s)) ∧
      (s.receiver k = .blocked → s.runs p (.blockReceiver p b) (done s) ∧
        s.runs p (.unblockReceiver p b) (done (s.setReceiver k .free).settle)) ∧
      ∀ a, s.receiver k = .attached a →
        s.runs p (.blockReceiver p b) ((s.setReceiver k (.attached { a with blockAfterUse := true })).answer p ⟨.inUse, []⟩) ∧
        s.runs p (.unblockReceiver p b) (done (s.setReceiver k (.attached { a with blockAfterUse := false })))) ∧
    ∀ k : SenderNo, b.toNat = k.val →
      (s.sender k = .free → s.runs p (.blockSender p b) (done (s.setSender k .blocked)) ∧ s.runs p (.unblockSender p b) (done s)) ∧
      (s.sender k = .blocked → s.runs p (.blockSender p b) (done s) ∧ s.runs p (.unblockSender p b) (done (s.setSender k .free))) ∧
      ∀ a, s.sender k = .busy a →
        s.runs p (.blockSender p b) ((s.setSender k (.busy { a with blockAfterUse := true })).answer p ⟨.inUse, []⟩) ∧
        s.runs p (.unblockSender p b) (done (s.setSender k (.busy { a with blockAfterUse := false })))

/-- R68, R70, R71, R72, R73: the translation store, the routes, the directory map and the incoming root take what is written, after
the checks of each command in their order; each write changes its own entry and nothing else. -/
def Obligations.TranslationDataIsWritten : Prop :=
  ∀ (x : Side) (s : State),
    let p := Port.controller x
    let bad : State := s.answer p ⟨.badOperand, []⟩
    let inUse : State := s.answer p ⟨.inUse, []⟩
    let done (t : Translator) : State := ({ s with trans := t } : State).answer p ⟨.done, []⟩
    (∀ (n : NodeNo) (d : Digit) (node digit kind number : Byte), node.toNat = n.val → digit.toNat = digitPulses d →
      let write (c : Slot) := done { s.trans with nodes := tset s.trans.nodes n (tset (tget s.trans.nodes n) d c) }
      (kind.toNat = 0 → s.runs p (.writeNodeSlot p node digit kind number) (write .vacant)) ∧
      (∀ m : NodeNo, kind.toNat = 1 → number.toNat = m.val → s.runs p (.writeNodeSlot p node digit kind number) (write (.node m))) ∧
      (∀ t : RouteNo, kind.toNat = 2 → number.toNat = t.val → s.runs p (.writeNodeSlot p node digit kind number) (write (.route t)))) ∧
    (∀ node digit kind number : Byte, 128 ≤ node.toNat ∨ digit.toNat = 0 ∨ 11 ≤ digit.toNat ∨ 3 ≤ kind.toNat ∨
      (kind.toNat = 1 ∧ 128 ≤ number.toNat) ∨ (kind.toNat = 2 ∧ 48 ≤ number.toNat) →
      s.runs p (.writeNodeSlot p node digit kind number) bad) ∧
    (∀ (b : Byte) (e : RouteBytes),
      let codes := [e.digit1, e.digit2, e.digit3, e.digit4].take e.count.toNat
      let fits := b.toNat < 48 ∧ e.kind.toNat ≤ 2 ∧ e.level.toNat ≤ 3 ∧ e.zone.toNat ≤ 7 ∧ e.ticketed.toNat ≤ 1 ∧
        e.primary.toNat ≤ 7 ∧ (e.alternate.toNat ≤ 7 ∨ e.alternate.toNat = 255) ∧ e.count.toNat ≤ 4 ∧
        (∀ c ∈ codes, 1 ≤ c.toNat ∧ c.toNat ≤ 10) ∧ e.strip.toNat ≤ 14 ∧ e.total.toNat ≤ 14 ∧
        ¬(e.kind.toNat = 1 ∧ e.ticketed.toNat = 1)
      (¬fits → s.runs p (.writeRoute p b e) bad) ∧
      ∀ (r : RouteNo), fits → b.toNat = r.val →
        (0 < (s.route r).refCount → s.runs p (.writeRoute p b e) inUse) ∧
        ((s.route r).refCount = 0 →
          let write (z : RouteEntry) := done { s.trans with routes := tset s.trans.routes r ⟨z, 0⟩ }
          (e.kind.toNat = 0 → s.runs p (.writeRoute p b e) (write .invalid)) ∧
          (∀ (level : Fin 4) (zone : Zone), e.kind.toNat = 1 → e.level.toNat = level.val → e.zone.toNat = zone.val →
            s.runs p (.writeRoute p b e) (write (.localCall level zone))) ∧
          ∀ (level : Fin 4) (zone : Zone) (primary : GroupNo) (alternate : Option GroupNo) (digits : List Digit),
            e.kind.toNat = 2 → e.level.toNat = level.val → e.zone.toNat = zone.val → e.primary.toNat = primary.val →
            e.alternate.toNat = ((alternate.map (·.val)).getD 255) → digits.map digitPulses = codes.map (·.toNat) →
            s.runs p (.writeRoute p b e) (write (.outgoing level zone (decide (e.ticketed.toNat = 1)) primary alternate digits
              e.strip.toNat e.total.toNat)))) ∧
    (∀ (slot : Half) (kind : Byte) (equipment : Half) (party : Byte),
      (1000 ≤ slot.toNat ∨ 2 ≤ kind.toNat ∨ 512 ≤ equipment.toNat ∨ 2 ≤ party.toNat →
        s.runs p (.writeDirectory p slot kind equipment party) bad) ∧
      ∀ (i : Fin 1000) (n : LineNo) (y : Party), slot.toNat = i.val → equipment.toNat = n.val → party.toNat = y.code →
        let write (c : Option Subscriber) := done { s.trans with directory := tset s.trans.directory i c }
        let mapped := ∃ j, j ≠ i ∧ tget s.trans.directory j = some ⟨n, y⟩
        (kind.toNat = 0 → s.runs p (.writeDirectory p slot kind equipment party) (write none)) ∧
        (kind.toNat = 1 → y = .b → (s.line n).cls ≠ .twoParty → s.runs p (.writeDirectory p slot kind equipment party) bad) ∧
        (kind.toNat = 1 → y = .a ∨ (s.line n).cls = .twoParty →
          (mapped → s.runs p (.writeDirectory p slot kind equipment party) inUse) ∧
          (¬mapped → s.runs p (.writeDirectory p slot kind equipment party) (write (some ⟨n, y⟩))))) ∧
    ((∃ r, (s.reg r).state = .dialing) → s.runs p (.clearTranslations p) inUse) ∧
    ((∀ r, (s.reg r).state ≠ .dialing) → ∃ t : Translator, s.runs p (.clearTranslations p) (done t) ∧
      (∀ n d, tget (tget t.nodes n) d = .vacant) ∧ t = { s.trans with nodes := t.nodes }) ∧
    (∀ b : Byte, 128 ≤ b.toNat → s.runs p (.setIncomingRoot p b) bad) ∧
    ∀ (b : Byte) (n : NodeNo), b.toNat = n.val → s.runs p (.setIncomingRoot p b) (done { s.trans with incomingRoot := n })

/-! ### The network and the crosspoint orders -/

/-- R82, R83, R87, R88: Hunt Path of its binder on a TRANSLATED register with no element INITIALISING. A called line that is not IDLE
answers LINE_BUSY; a hunt that fails answers NO_PATH with its reason; neither changes anything. A hunt that succeeds reserves
the elements, makes the called line TERM_RESERVED, moves the pointer for a call from a line, makes the register CONNECTING and
appends OPERATE, which waits for ORDER_TAKE. The result carries the elements as a list with a count (log entry 9, DESIGN CHOICE). -/
def Obligations.HuntPathTakesOrRefusesAPath : Prop :=
  (∀ (x : Side) (s : State) (r : RegNo) (b : Byte), s.takes x (.huntPath (.controller x) b) → b.toNat = r.val →
    s.handler (.register r) = some x → (s.reg r).state = .translated → (∀ e, s.elem e ≠ .initialising) →
    let p := Port.controller x
    let outcome (z : Except NoPath Found) (called : Option LineNo) (fromLine : Bool) : Prop :=
      (∀ f, z = .ok f → exec (.huntPath p b) s =
        .next ((s.takePath r f called fromLine).answer p ⟨.done, encFound f⟩)) ∧
      ∀ e, z = .error e → exec (.huntPath p b) s = .next (s.answer p ⟨.noPath, [BitVec.ofNat 8 e.code]⟩)
    (∀ o level zone d, (s.reg r).origin = some o → s.routeEntry r = some (.localCall level zone) →
      (s.reg r).destination = some d → (s.line d.line).state ≠ .idle →
      exec (.huntPath p b) s = .next (s.answer p ⟨.lineBusy, []⟩)) ∧
    (∀ n y level zone d, (s.reg r).origin = some (.line n y) → s.routeEntry r = some (.localCall level zone) →
      (s.reg r).destination = some d → (s.line d.line).state = .idle →
      outcome (s.huntLocal (lineGroup n) (lineGroup d.line)) (some d.line) true) ∧
    (∀ n y level zone ticketed primary alternate digits strip total, (s.reg r).origin = some (.line n y) →
      s.routeEntry r = some (.outgoing level zone ticketed primary alternate digits strip total) →
      outcome (s.huntOutgoing (lineGroup n) primary alternate) none true) ∧
    (∀ i level zone d, (s.reg r).origin = some (.trunk i) → s.routeEntry r = some (.localCall level zone) →
      (s.reg r).destination = some d → (s.line d.line).state = .idle →
      outcome (s.huntIncoming i (lineGroup d.line)) (some d.line) false) ∧
    ∀ i level zone ticketed primary alternate digits strip total, (s.reg r).origin = some (.trunk i) →
      s.routeEntry r = some (.outgoing level zone ticketed primary alternate digits strip total) →
      exec (.huntPath p b) s = .next (s.answer p ⟨.noPath, [2]⟩)) ∧
  ∀ (s : State) (r : RegNo) (f : Found) (called : Option LineNo) (fromLine : Bool),
    let u := s.takePath r f called fromLine
    u.reg r = { s.reg r with state := .connecting, path := f.path } ∧ (∀ q, q ≠ r → u.reg q = s.reg q) ∧
    (∀ e, u.elem e = if e ∈ f.path.elements then .reserved else s.elem e) ∧
    (∀ n, called = some n →
      u.line n = { s.line n with state := .termReserved, register := some r, earlyOffHook := some false }) ∧
    (∀ n, called ≠ some n → u.line n = s.line n) ∧ u.scan = { s.scan with lines := u.scan.lines } ∧
    u.net.huntPointer = (if fromLine then f.switch + 1 else s.net.huntPointer) ∧ u.net.groups = s.net.groups ∧
    u.orders = { s.orders with queue := s.orders.queue ++ [.operate r] } ∧
    u = { s with regs := u.regs, scan := u.scan, net := u.net, orders := u.orders }

/-- R80, R84, R85, R86: which path a hunt takes. The switches are examined from the hunt pointer upward; a local hunt takes the first
switch with both links and a junctor FREE and its lowest FREE junctor; an outgoing hunt the first with the O-link and a trunk of
the group FREE and its lowest such trunk, the alternate group after the primary; an incoming hunt has one switch. -/
def Obligations.HuntsTakeTheFirstUsableSwitch : Prop :=
  ∀ s : State,
    let order (k : Fin 8) : Fin 8 := s.net.huntPointer + k
    (∀ (g1 g2 : Fin 16),
      let links (w : Fin 8) : Prop := s.elem (oLink g1 w) = .free ∧ s.elem (tLink g2 w) = .free
      let junctor (w k : Fin 8) : Fin 64 := ⟨8 * w.val + k.val, by omega⟩
      let usable (w : Fin 8) : Prop := links w ∧ ∃ k, s.elem (junctorElem (junctor w k)) = .free
      (∀ k m, usable (order k) → (∀ l, l < k → ¬usable (order l)) → s.elem (junctorElem (junctor (order k) m)) = .free →
        (∀ l, l < m → s.elem (junctorElem (junctor (order k) l)) ≠ .free) →
        s.huntLocal g1 g2 = .ok ⟨order k, ⟨some (oLink g1 (order k)), some (junctorElem (junctor (order k) m)),
          some (tLink g2 (order k))⟩, some (junctor (order k) m), none, none⟩) ∧
      ((∀ w, ¬usable w) → (∃ w, links w) → s.huntLocal g1 g2 = .error .junctors) ∧
      ((∀ w, ¬links w) → s.huntLocal g1 g2 = .error .links)) ∧
    (∀ (g1 : Fin 16) (primary : GroupNo) (alternate : Option GroupNo),
      let trunk (w : Fin 8) (k : Fin 4) : OutNo := ⟨4 * w.val + k.val, by omega⟩
      let offers (g : GroupNo) (w : Fin 8) (k : Fin 4) : Prop :=
        s.elem (outElem (trunk w k)) = .free ∧ tget s.net.groups (trunk w k) = some g
      let usable (g : GroupNo) (w : Fin 8) : Prop := s.elem (oLink g1 w) = .free ∧ ∃ k, offers g w k
      let found (k : Fin 8) (m : Fin 4) (second : Bool) : Found :=
        ⟨order k, ⟨some (oLink g1 (order k)), some (outElem (trunk (order k) m)), none⟩, none, some (trunk (order k) m),
          some second⟩
      let first (g : GroupNo) (k : Fin 8) (m : Fin 4) : Prop :=
        usable g (order k) ∧ (∀ l, l < k → ¬usable g (order l)) ∧ offers g (order k) m ∧ ∀ l, l < m → ¬offers g (order k) l
      (∀ k m, first primary k m → s.huntOutgoing g1 primary alternate = .ok (found k m false)) ∧
      (∀ g k m, (∀ w, ¬usable primary w) → alternate = some g → first g k m →
        s.huntOutgoing g1 primary alternate = .ok (found k m true)) ∧
      ((∀ w, ¬usable primary w) → (∀ g w, alternate = some g → ¬usable g w) →
        s.huntOutgoing g1 primary alternate =
          if ∃ w, s.elem (oLink g1 w) = .free then .error .trunks else .error .links)) ∧
    ∀ (i : TrunkNo) (g2 : Fin 16) (w : Fin 8), w.val = i.val / 2 →
      s.huntIncoming i g2 = if s.elem (tLink g2 w) = .free then .ok ⟨w, ⟨none, none, some (tLink g2 w)⟩, none, none, none⟩
        else .error .links

/-- R90, R91, R92: the test-and-set of an element, its return, and the group of an outgoing trunk, each answered by the state the
element is in. -/
def Obligations.ElementsAreSeizedReturnedAndGrouped : Prop :=
  ∀ (x : Side) (s : State),
    let p := Port.controller x
    let bad : State := s.answer p ⟨.badOperand, []⟩
    (∀ n : Half, 352 ≤ n.toNat → s.runs p (.seizeElement p n) bad ∧ s.runs p (.returnElement p n) bad) ∧
    (∀ (n : Half) (e : ElemNo), n.toNat = e.val →
      (s.elem e = .free → s.runs p (.seizeElement p n) ((s.setElem e .blocked).answer p ⟨.done, [0]⟩)) ∧
      (s.elem e ≠ .free →
        s.runs p (.seizeElement p n) (s.answer p ⟨.done, [BitVec.ofNat 8 (s.elem e).code]⟩)) ∧
      (s.elem e = .blocked ∨ s.elem e = .faulted →
        s.runs p (.returnElement p n) ((s.setElem e .free).answer p ⟨.done, []⟩)) ∧
      (s.elem e ≠ .blocked → s.elem e ≠ .faulted →
        s.runs p (.returnElement p n) (s.answer p ⟨.wrongState, []⟩))) ∧
    ∀ t g : Byte,
      (32 ≤ t.toNat ∨ (8 ≤ g.toNat ∧ g.toNat ≠ 255) → s.runs p (.assignTrunkGroup p t g) bad) ∧
      ∀ (o : OutNo) (z : Option GroupNo), t.toNat = o.val → g.toNat = (z.map (·.val)).getD 255 →
        (s.elem (outElem o) = .free ∨ s.elem (outElem o) = .blocked → s.runs p (.assignTrunkGroup p t g)
          (({ s with net := { s.net with groups := tset s.net.groups o z } } : State).answer p ⟨.done, []⟩)) ∧
        (s.elem (outElem o) ≠ .free → s.elem (outElem o) ≠ .blocked →
          s.runs p (.assignTrunkGroup p t g) (s.answer p ⟨.inUse, []⟩))

/-- R98: the oldest order is taken when none is in flight: it leaves the queue, takes the next tag, and goes out with the elements of
its path, which become OPERATING for an OPERATE, or with all 352 for NETWORK_CLEAR. Otherwise nothing is taken. The order in which
the list names the elements is log entry 21 (DESIGN CHOICE). -/
def Obligations.OrdersAreTakenOldestFirst : Prop :=
  ∀ s : State,
    (∀ o rest, s.orders.inFlight = none → s.orders.queue = o :: rest → exec .orderTake s = .next s.takeOrder ∧
      let t := s.takeOrder
      let sent (es : List ElemNo) : OrderUnit :=
        { s.orders with queue := rest, tag := s.orders.tag + 1, inFlight := some ⟨o, s.orders.tag + 1, es, 0, false⟩ }
      (∀ r, o = .operate r → t.orders = sent (s.reg r).path.elements ∧
        ∀ e, t.elem e = if e ∈ (s.reg r).path.elements then .operating else s.elem e) ∧
      (∀ r, o = .release r → t.orders = sent (s.reg r).path.elements ∧ t.net = s.net) ∧
      (o = .networkClear → t.orders = sent (List.finRange 352) ∧ t.net = s.net) ∧
      t = { s with net := { s.net with elements := t.net.elements }, orders := t.orders }) ∧
    (s.orders.inFlight ≠ none ∨ s.orders.queue = [] → exec .orderTake s = .next s ∧ s.takeOrder = s)

/-- R99, R100: a completion that matches the order in flight by kind and tag is applied with each element good, bad or, where it does
not appear, bad; any other is discarded. At the drive completion limit, 250 ms, every element is bad, the last-timeout record
names the order and DRIVE_TIMEOUT is posted. The same action takes the next order. An element that appears with both results is
log entry 7's free value; that the limit applies the results before the record and the notice is log entry 13 (DEDUCED). -/
def Obligations.CompletionsAreMatchedAndTimed : Prop :=
  (∀ (s : State) (c : Completion) (f : InFlight), s.orders.inFlight = some f →
    (f.order.kind = c.kind → f.tag = c.tag → ∃ good : ElemNo → Bool,
      exec (.driveCompletion c) s = .next (({ s with draws := s.draws + 1 } : State).complete f good).settle.takeOrder ∧
      ∀ e : ElemNo,
        ((∃ n, (n, true) ∈ c.results ∧ n.toNat = e.val) → (∀ n, (n, false) ∈ c.results → n.toNat ≠ e.val) → good e = true) ∧
        ((∀ n, (n, true) ∈ c.results → n.toNat ≠ e.val) → good e = false)) ∧
    (f.order.kind ≠ c.kind ∨ f.tag ≠ c.tag → exec (.driveCompletion c) s = .next s) ∧
    (f.time < 250 → exec .driveCompletionLimitExpiry s = .next s) ∧
    (250 ≤ f.time → ∃ v : State, v = { s.complete f fun _ => false with
        orders := { (s.complete f fun _ => false).orders with lastTimeout := some (f.order, f.tag) } } ∧
      exec .driveCompletionLimitExpiry s = .next (v.post .maintenance .driveTimeout).settle.takeOrder)) ∧
  ∀ (s : State) (c : Completion), s.orders.inFlight = none →
    exec (.driveCompletion c) s = .next s ∧ exec .driveCompletionLimitExpiry s = .next s

/-- R101, R102, R103, R105, R107, R108, R109: the results of an order. OPERATE all good: HELD, SET, PATH_READY; partly good: bad elements
FAULTED and out of the path, good ones RELEASING, RELEASE appended, the called line given up; all bad: TRANSLATED, PATH_FAULT;
cancelled: released, or ENDED when nothing was good. RELEASE: FREE or FAULTED, and ENDED or TRANSLATED. NETWORK_CLEAR: all FREE,
or DRIVE_TIMEOUT and again at the head. A bad element of a path posts ELEMENT_FAULT. -/
def Obligations.OrderResultsAreApplied : Prop :=
  (∀ (s : State) (f : InFlight) (r : RegNo) (good : ElemNo → Bool), f.order = .operate r →
     let t := s.complete f good
     t.orders.inFlight = none ∧ t.orders.tag = s.orders.tag ∧ (∀ q, q ≠ r → t.reg q = s.reg q) ∧
     (∀ e, e ∉ f.elements → t.elem e = s.elem e) ∧ (∀ e ∈ f.elements, good e = false → t.elem e = .faulted) ∧
     ((∃ e ∈ f.elements, good e = false) → t.isPending .maintenance .elementFault = true) ∧
     (f.cancelled = false → (∀ e ∈ f.elements, good e = true) →
       (∀ e ∈ f.elements, t.elem e = .held) ∧ t.reg r = { s.reg r with state := .set } ∧
       t.isPending (.register r) .pathReady = true ∧ t.orders.queue = s.orders.queue ∧ t.scan = s.scan) ∧
     (f.cancelled = false → (∃ e ∈ f.elements, good e = true) → (∃ e ∈ f.elements, good e = false) →
       (∀ e ∈ f.elements, good e = true → t.elem e = .releasing) ∧ t.orders.queue = s.orders.queue ++ [.release r] ∧
       t.reg r = { s.reg r with path := (t.reg r).path } ∧
       (t.reg r).path.elements = (s.reg r).path.elements.filter fun e => e ∉ f.elements || good e) ∧
     (f.cancelled = false → f.elements ≠ [] → (∀ e ∈ f.elements, good e = false) →
       t.reg r = { s.reg r with state := .translated, path := (t.reg r).path } ∧
       (t.reg r).path.elements = (s.reg r).path.elements.filter (fun e => e ∉ f.elements) ∧
       t.isPending (.register r) .pathFault = true ∧ t.orders.queue = s.orders.queue) ∧
     (f.cancelled = false → (∃ e ∈ f.elements, good e = false) → ∀ d, (s.reg r).destination = some d →
       (s.line d.line).state = .termReserved → (s.line d.line).register = some r →
       ((s.line d.line).accepted = .opened → t.line d.line = (s.line d.line).outOfCall .idle ∧
         t.scan.queue = s.scan.queue) ∧
       ((s.line d.line).accepted = .closed → s.scan.queue.length < 32 →
         t.line d.line = { (s.line d.line).outOfCall .waiting with waitTimer := some 60000 } ∧
         t.scan.queue = s.scan.queue ++ [.line d.line (s.line d.line).originationParty])) ∧
     (f.cancelled = true → (∃ e ∈ f.elements, good e = true) →
       (∀ e ∈ f.elements, good e = true → t.elem e = .releasing) ∧ t.orders.queue = s.orders.queue ++ [.release r] ∧
       (t.reg r).state = (s.reg r).state ∧ t.scan = s.scan ∧ t.subject (.register r) = s.subject (.register r)) ∧
     (f.cancelled = true → (∀ e ∈ f.elements, good e = false) →
       (t.reg r).state = .ended ∧ (t.reg r).path = Path.empty ∧ t.isPending (.register r) .cleared = true ∧
       t.orders.queue = s.orders.queue ∧ t.scan = s.scan) ∧
     t = { s with regs := t.regs, scan := t.scan, net := t.net, orders := t.orders, att := t.att }) ∧
  (∀ (s : State) (f : InFlight) (good : ElemNo → Bool),
     let t := s.complete f good
     (∀ r, f.order = .release r →
       (∀ e, t.elem e = if e ∈ f.elements then (if good e then .free else .faulted) else s.elem e) ∧
       (t.reg r).path = Path.empty ∧ (∀ q, q ≠ r → t.reg q = s.reg q) ∧
       ((s.reg r).state = .clearing → (t.reg r).state = .ended ∧ t.isPending (.register r) .cleared = true) ∧
       ((s.reg r).state = .connecting →
         t.reg r = { s.reg r with state := .translated, path := Path.empty } ∧
         t.isPending (.register r) .pathFault = true) ∧
       ((∃ e ∈ f.elements, good e = false) → t.isPending .maintenance .elementFault = true) ∧
       t = { s with
         regs := t.regs, net := { s.net with elements := t.net.elements }, orders := { s.orders with inFlight := none }
         att := t.att }) ∧
     (f.order = .networkClear → (∀ e ∈ f.elements, good e = true) →
       (∀ e, t.elem e = .free) ∧ t.isPending .maintenance .networkCleared = true ∧
       t = { s with
         net := { s.net with elements := t.net.elements }, orders := { s.orders with inFlight := none }, att := t.att }) ∧
     (f.order = .networkClear → (∃ e ∈ f.elements, good e = false) →
       t.isPending .maintenance .driveTimeout = true ∧
       t = { s with
         orders := { s.orders with inFlight := none, queue := .networkClear :: s.orders.queue }, att := t.att }))

/-! ### Signalling -/

/-- R113, R114, R115: Ring of its binder on a SET register with a LOCAL destination answers an early off-hook at once, and otherwise sends
RING_ON to the party: the line is TERM_RINGING, the register RINGING with 90,000 ms; an OUTGOING route is WRONG_STATE. Answer
stops the timer, removes ringing, makes the called line TERM_BUSY, returns a sender, enters TALK with ANSWER posted and starts the
metering of a call from a line, which `AnswerStartsTheMeterContext` describes. -/
def Obligations.RingAndAnswer : Prop :=
  (∀ (x : Side) (s : State) (r : RegNo) (b : Byte), s.takes x (.ring (.controller x) b) → b.toNat = r.val →
     s.handler (.register r) = some x → (s.reg r).state = .set →
     let p := Port.controller x
     (∀ level zone ticketed primary alternate digits strip total,
       s.routeEntry r = some (.outgoing level zone ticketed primary alternate digits strip total) →
       exec (.ring p b) s = .next (s.answer p ⟨.wrongState, []⟩)) ∧
     ∀ level zone d, s.routeEntry r = some (.localCall level zone) → (s.reg r).destination = some d →
       s.calledRole r d.line = true →
       ((s.line d.line).earlyOffHook = some true → exec (.ring p b) s = .next ((s.answerCall r).answer p ⟨.done, []⟩)) ∧
       ((s.line d.line).earlyOffHook = some false → ∃ u : State, exec (.ring p b) s = .next (u.answer p ⟨.done, []⟩) ∧
         u.reg r = { s.reg r with state := .ringing, timer := some ⟨.ring, 90000⟩ } ∧ (∀ q, q ≠ r → u.reg q = s.reg q) ∧
         u.line d.line = { s.line d.line with state := .termRinging, earlyOffHook := none } ∧
         (∀ n, n ≠ d.line → u.line n = s.line n) ∧
         tget u.sig.lineSignals d.line = { tget s.sig.lineSignals d.line with ringing := some d.party } ∧
         (∀ n, n ≠ d.line → tget u.sig.lineSignals n = tget s.sig.lineSignals n) ∧
         ((tget s.sig.lineSignals d.line).ringing = none → u.sig.sent = s.sig.sent ++ [.ringOn d.line d.party]) ∧
         u = { s with
           regs := u.regs, scan := { s.scan with lines := u.scan.lines }
           sig := { s.sig with lineSignals := u.sig.lineSignals, sent := u.sig.sent } })) ∧
  (∀ (s : State) (r : RegNo) (o : Origin), (s.reg r).origin = some o →
     (∀ k, (s.reg r).sender = some k → ∃ b, s.sender k = .busy b ∧ b.register = r) →
     ∃ u : State, s.answerCall r = u.startMetering r ∧
     u.reg r = { s.reg r with state := .talk, timer := none, sender := none } ∧
     (∀ q, q ≠ r → u.reg q = s.reg q) ∧ u.isPending (.register r) .answer = true ∧
     (∀ i, o = .trunk i → s.answerCall r = u) ∧ ((s.routeEntry r).bind RouteEntry.terms = none → s.answerCall r = u) ∧
     (∀ d, (s.reg r).destination = some d →
       (tget u.sig.lineSignals d.line).ringing = none ∧
       (s.calledRole r d.line = true → u.line d.line = { s.line d.line with state := .termBusy, earlyOffHook := none }) ∧
       ∀ n, n ≠ d.line → u.line n = s.line n) ∧
     ((s.reg r).destination = none → u.scan = s.scan) ∧
     (∀ k b, (s.reg r).sender = some k → s.sender k = .busy b →
       u.sender k = (if b.blockAfterUse then .blocked else .free) ∧ tget u.sig.senderSignals k = ⟨none, .closed⟩) ∧
     (∀ k, (s.reg r).sender ≠ some k → u.sender k = s.sender k) ∧
     (∀ j, j ≠ .register r → u.subject j = s.subject j) ∧
     u = { s with regs := u.regs, scan := { s.scan with lines := u.scan.lines }, sig := u.sig, att := u.att })

/-- R119, R121: Send of its binder on a SET register with an OUTGOING route. The string is the prefix and the dialled digits from index
strip onward. Empty, it takes the register to AWAIT_ANSWER with SENT; otherwise the lowest FREE sender is attached to the trunk
with a lead pause of 300 ms; with no sender FREE it is NO_UNIT. A LOCAL route is WRONG_STATE. -/
def Obligations.SendAttachesASender : Prop :=
  ∀ (x : Side) (s : State) (r : RegNo) (b : Byte), s.takes x (.send (.controller x) b) → b.toNat = r.val →
    s.handler (.register r) = some x → (s.reg r).state = .set →
    let p := Port.controller x
    (∀ level zone, s.routeEntry r = some (.localCall level zone) →
      exec (.send p b) s = .next (s.answer p ⟨.wrongState, []⟩)) ∧
    ∀ level zone ticketed primary alternate digits strip total,
      s.routeEntry r = some (.outgoing level zone ticketed primary alternate digits strip total) →
      let sent : List Digit := digits ++ (s.reg r).digits.drop strip
      (sent = [] → ∃ u : State, exec (.send p b) s = .next (u.answer p ⟨.done, []⟩) ∧
        u.reg r = { s.reg r with state := .awaitAnswer, timer := some ⟨.answerWait, 120000⟩ } ∧
        (∀ q, q ≠ r → u.reg q = s.reg q) ∧ u.isPending (.register r) .sent = true ∧
        u = { s with regs := u.regs, att := u.att }) ∧
      (sent ≠ [] → (∀ k, s.sender k ≠ .free) → exec (.send p b) s = .next (s.answer p ⟨.noUnit, []⟩)) ∧
      ∀ k o, sent ≠ [] → s.sender k = .free → (∀ l, l < k → s.sender l ≠ .free) → (s.reg r).path.middle = some (outElem o) →
        tget s.sig.senderSignals k = ⟨none, .closed⟩ → ∃ u : State, exec (.send p b) s = .next (u.answer p ⟨.done, []⟩) ∧
        u.reg r = { s.reg r with state := .sending, sender := some k } ∧ (∀ q, q ≠ r → u.reg q = s.reg q) ∧
        u.sender k = .busy ⟨false, r, o, sent, 0, .leadPause, 0, 300⟩ ∧ (∀ l, l ≠ k → u.sender l = s.sender l) ∧
        tget u.sig.senderSignals k = ⟨some o, .closed⟩ ∧ u.sig.sent = s.sig.sent ++ [.senderAttach k o] ∧
        u = { s with
          regs := u.regs
          sig := { s.sig with senders := u.sig.senders, senderSignals := u.sig.senderSignals, sent := u.sig.sent } }

/-- R120, R121: the end of a phase of a busy sender, phase by phase. At the end of its last make the sender is returned and the
register is in AWAIT_ANSWER with SENT posted. A phase still running, and a sender not BUSY, do not move. -/
def Obligations.SenderMovesPhaseByPhase : Prop :=
  ∀ (s : State) (k : SenderNo) (b : Sending), s.sender k = .busy b →
    let next := exec (.senderPhaseEnd k) s
    let pulses (i : Nat) : Nat := ((b.digits[i]?).map digitPulses).getD 0
    (0 < b.phaseTime → next = .next s) ∧
    (b.phaseTime = 0 →
      (b.phase = .leadPause ∨ b.phase = .digitPause → next = .next ((s.setSender k (.busy { b with
        phase := .brk, pulsesLeft := pulses b.position, phaseTime := 66 })).sendSenderLoop k .opened)) ∧
      (b.phase = .brk → next = .next ((s.setSender k (.busy { b with
        phase := .make, pulsesLeft := b.pulsesLeft - 1, phaseTime := 34 })).sendSenderLoop k .closed)) ∧
      (b.phase = .make → 0 < b.pulsesLeft → next = .next ((s.setSender k (.busy { b with
        phase := .brk, phaseTime := 66 })).sendSenderLoop k .opened)) ∧
      (b.phase = .make → b.pulsesLeft = 0 → b.position + 1 < b.digits.length → next = .next (s.setSender k (.busy { b with
        phase := .digitPause, position := b.position + 1, phaseTime := 800 }))) ∧
      (b.phase = .make → b.pulsesLeft = 0 → b.digits.length ≤ b.position + 1 → ∃ t : State, next = .next t ∧
        t.reg b.register = { s.reg b.register with
          state := .awaitAnswer, sender := none, timer := some ⟨.answerWait, 120000⟩ } ∧
        (∀ q, q ≠ b.register → t.reg q = s.reg q) ∧ t.isPending (.register b.register) .sent = true ∧
        t.sender k = (if b.blockAfterUse then .blocked else .free) ∧ (∀ l, l ≠ k → t.sender l = s.sender l) ∧
        tget t.sig.senderSignals k = ⟨none, .closed⟩ ∧ t = { s with regs := t.regs, sig := t.sig, att := t.att })) ∧
    ∀ l, s.sender l = .free ∨ s.sender l = .blocked → exec (.senderPhaseEnd l) s = .next s

/-- R120: a digit d takes d times 100 ms, and a string of n digits whose values sum to S takes 300 + 100 S + 800 (n - 1) ms from Send to
the end of its last make: the time a sender has left starts at that, loses 1 ms with each millisecond, keeps its value across
the end of a phase, and is 0 exactly when its register goes to AWAIT_ANSWER. -/
def Obligations.OutpulsingTakesTheStatedTime : Prop :=
  (∀ (r : RegNo) (o : OutNo) (digits : List Digit), digits ≠ [] →
    Sending.timeLeft ⟨false, r, o, digits, 0, .leadPause, 0, 300⟩ =
      300 + 100 * (digits.map digitPulses).sum + 800 * (digits.length - 1)) ∧
  ∀ (s : State) (k : SenderNo) (b : Sending), s.sender k = .busy b → b.position < b.digits.length →
    (b.phase = .brk → 1 ≤ b.pulsesLeft) →
    (0 < b.phaseTime → ∃ c, s.passMillisecond.sender k = .busy c ∧ c.timeLeft + 1 = b.timeLeft) ∧
    (b.phaseTime = 0 → b.timeLeft ≠ 0 → ∃ t c, exec (.senderPhaseEnd k) s = .next t ∧ t.sender k = .busy c ∧
      c.timeLeft = b.timeLeft ∧ 0 < c.phaseTime ∧ c.position < c.digits.length ∧ (c.phase = .brk → 1 ≤ c.pulsesLeft)) ∧
    (b.timeLeft = 0 → ∃ t, exec (.senderPhaseEnd k) s = .next t ∧ (t.reg b.register).state = .awaitAnswer)

/-- R117, R123: the expiry of RING gives up the called line, IDLE whatever its loop, and of ANSWER_WAIT the wait: the register goes to
TONE with BUSY or CONGESTION, cause NO_ANSWER, 30,000 ms and its path whole, and NO_ANSWER is posted. A timer of another kind or
with time left expires nothing. -/
def Obligations.UnansweredCallsGoToTone : Prop :=
  ∀ (s : State) (r : RegNo) (o : Origin), (s.reg r).origin = some o → (s.reg r).receiver = none → (s.reg r).walkNode = none →
    (∀ d, (s.reg r).state = .ringing → (s.reg r).timer = some ⟨.ring, 0⟩ → (s.reg r).destination = some d →
      s.calledRole r d.line = true → ∃ u : State, exec (.ringTimerExpiry r) s = .next u.settle ∧
      u.reg r = { s.reg r with state := .tone, tone := some (.busy, .noAnswer), timer := some ⟨.tone, 30000⟩ } ∧
      (∀ q, q ≠ r → u.reg q = s.reg q) ∧ u.toneOf o.terminal = some .busy ∧
      (tget u.sig.lineSignals d.line).ringing = none ∧
      ((s.line d.line).accepted = .opened → u.line d.line = (s.line d.line).outOfCall .idle ∧
        u.scan.queue = s.scan.queue ∧ u.scan.deferred = s.scan.deferred) ∧
      ((s.line d.line).accepted = .closed → s.scan.queue.length < 32 →
        u.line d.line = { (s.line d.line).outOfCall .waiting with waitTimer := some 60000 } ∧
        u.scan.queue = s.scan.queue ++ [.line d.line (s.line d.line).originationParty]) ∧
      (∀ n, n ≠ d.line → u.line n = s.line n) ∧ u.isPending (.register r) .noAnswer = true ∧
      (∀ j, j ≠ .register r → u.subject j = s.subject j) ∧
      u = { s with regs := u.regs, scan := u.scan, sig := u.sig, att := u.att }) ∧
    ((s.reg r).state = .awaitAnswer → (s.reg r).timer = some ⟨.answerWait, 0⟩ →
      ∃ u : State, exec (.answerWaitExpiry r) s = .next u ∧
      u.reg r = { s.reg r with state := .tone, tone := some (.congestion, .noAnswer), timer := some ⟨.tone, 30000⟩ } ∧
      (∀ q, q ≠ r → u.reg q = s.reg q) ∧ u.toneOf o.terminal = some .congestion ∧
      u.isPending (.register r) .noAnswer = true ∧ (∀ j, j ≠ .register r → u.subject j = s.subject j) ∧
      u = { s with regs := u.regs, sig := u.sig, att := u.att }) ∧
    ((s.reg r).timer ≠ some ⟨.ring, 0⟩ → exec (.ringTimerExpiry r) s = .next s) ∧
    ((s.reg r).timer ≠ some ⟨.answerWait, 0⟩ → exec (.answerWaitExpiry r) s = .next s)

/-! ### Tariffs and metering -/

/-- R131, R132, R133, R136: a cell is written into the pending table alone; Apply Tariffs copies the whole pending table over the
active one and counts the generation up; Select Band sets the band and counts it up; Set Clock sets day and minute with step
count 0. Operands out of range are refused BAD_OPERAND, and nothing else changes. -/
def Obligations.TariffsBandAndClockAreSet : Prop :=
  ∀ (x : Side) (s : State),
    let p := Port.controller x
    let bad : State := s.answer p ⟨.badOperand, []⟩
    let done (u : TariffUnit) : State := ({ s with tariff := u } : State).answer p ⟨.done, []⟩
    (∀ (zone band u0 : Byte) (period : Half) (fraction : Byte),
      (8 ≤ zone.toNat ∨ 3 ≤ band.toNat ∨ 16 ≤ u0.toNat ∨ 16 ≤ fraction.toNat →
        s.runs p (.writeTariffCell p zone band u0 period fraction) bad) ∧
      ∀ (z : Zone) (y : Band) (u f : Fin 16), zone.toNat = z.val → band.toNat = y.code → u0.toNat = u.val →
        fraction.toNat = f.val → s.runs p (.writeTariffCell p zone band u0 period fraction) (done { s.tariff with
          pending := tset s.tariff.pending (cellIndex z y) ⟨u, period.toFin, f⟩ })) ∧
    s.runs p (.applyTariffs p) (done { s.tariff with active := s.tariff.pending, generation := s.tariff.generation + 1 }) ∧
    (∀ band : Byte, (3 ≤ band.toNat → s.runs p (.selectBand p band) bad) ∧
      ∀ y : Band, band.toNat = y.code →
        s.runs p (.selectBand p band) (done { s.tariff with band := y, generation := s.tariff.generation + 1 })) ∧
    ∀ day minute : Half,
      (1440 ≤ minute.toNat → s.runs p (.setClock p day minute) bad) ∧
      (minute.toNat < 1440 → s.runs p (.setClock p day minute) (done { s.tariff with day := day, minute := minute.toNat, stepCount := 0 }))

/-- R139: the period at frame position c lasts P + 1 steps when c's four binary digits read in reverse are below F, and P otherwise;
sixteen periods last exactly 16 P + F steps; the longer periods fall evenly over halves, fours and pairs of the frame; the longest
period is 65,536 steps. -/
def Obligations.FramesLastSixteenPeriodsAndF : Prop :=
  (List.finRange 16).map rev4 = [0, 8, 4, 12, 2, 10, 6, 14, 1, 9, 5, 13, 3, 11, 7, 15] ∧
  ∀ cell : TariffCell, 1 ≤ cell.period.val →
    (∀ c, cell.periodAt c = some (cell.period.val + if rev4 c < cell.fraction.val then 1 else 0)) ∧
    cell.frameLength = 16 * cell.period.val + cell.fraction.val ∧
    ((List.finRange 16).filter fun c => decide (rev4 c < cell.fraction.val)).length = cell.fraction.val ∧
    (let longer (lo hi : Nat) : Nat :=
       ((List.finRange 16).filter fun c => decide (lo ≤ c.val ∧ c.val < hi ∧ rev4 c < cell.fraction.val)).length
     longer 0 8 = (cell.fraction.val + 1) / 2 ∧ longer 8 16 = cell.fraction.val / 2 ∧
     (∀ k, k < 4 → longer (4 * k) (4 * k + 4) = cell.fraction.val / 4 ∨ longer (4 * k) (4 * k + 4) = (cell.fraction.val + 3) / 4) ∧
     ∀ k, k < 8 → longer (2 * k) (2 * k + 2) = cell.fraction.val / 8 ∨ longer (2 * k) (2 * k + 2) = (cell.fraction.val + 7) / 8) ∧
    (∀ c, cell.length c ≤ 65536) ∧ (1 ≤ cell.fraction.val → cell.length 0 = cell.period.val + 1)

/-- R140, R141, R145: at the answer of a call from a line the meter context takes the zone of the route, the current band, clock,
cell and generation; U0 units are charged to it and, unless the line is of class SERVICE, to the caller's meter, up to the
maximum; the first period runs unless P is 0. `RingAndAnswer` says that answer ends in this operation. -/
def Obligations.AnswerStartsTheMeterContext : Prop :=
  ∀ (s : State) (r : RegNo) (n : LineNo) (p : Party) (level : Nat) (zone : Zone) (ticketed : Bool),
    (s.reg r).origin = some (.line n p) → (s.routeEntry r).bind RouteEntry.terms = some (level, zone, ticketed) → MeterRange s →
    let cell := tget s.tariff.active (cellIndex zone s.tariff.band)
    let t := s.startMetering r
    let service := (s.line n).cls = .service
    (t.reg r).meter = some {
      zone := zone
      answerBand := s.tariff.band
      answerDay := s.tariff.day
      answerMinute := s.tariff.minute
      band := s.tariff.band
      cell := cell
      generation := s.tariff.generation
      framePosition := 0
      periodRemaining := if cell.period.val = 0 then none else some (if 1 ≤ cell.fraction.val then cell.period.val + 1
        else cell.period.val)
      units := cell.u0.val
      duration := 0
      tariffChanged := false
      meter := if service then none else some ⟨n, p⟩ } ∧
    t.reg r = { s.reg r with meter := (t.reg r).meter } ∧ (∀ q, q ≠ r → t.reg q = s.reg q) ∧
    (∀ i, (tget t.store.meters i).value = if ¬service ∧ i = Subscriber.meterIndex ⟨n, p⟩ then
      min 16777215 ((tget s.store.meters i).value + cell.u0.val) else (tget s.store.meters i).value) ∧
    (service → t.store = s.store ∧ t.att = s.att) ∧ (∀ j, j ≠ .maintenance → t.subject j = s.subject j) ∧
    t = { s with regs := t.regs, store := t.store, att := t.att }

/-- R135, R140, R142 to R145: a metering-step boundary and a period expiry. The clock moves on within its ranges. Every meter context gains
a step of duration and loses one of its running period; at its end a unit is charged to the context and its meter, and the
next period starts at the next frame position, or, where the generation has changed, with the current cell at position 0.
PERIOD_EXPIRY by itself does the same where a period has run out, and otherwise nothing. -/
def Obligations.MeteringStepsCountAndCharge : Prop :=
  (∀ s : State, ClockRange s → MeterRange s → (∀ r c, (s.reg r).meter = some c → c.periodRemaining ≠ some 0) →
     ∃ t : State, exec .meteringStepBoundary s = .next t ∧ ClockRange t ∧
       t.tariff.clock = (s.tariff.clock + 1) % (65536 * 864000) ∧
       t.tariff = { s.tariff with day := t.tariff.day, minute := t.tariff.minute, stepCount := t.tariff.stepCount } ∧
       (∀ r, (s.reg r).meter = none → t.reg r = s.reg r) ∧
       (∀ r c, (s.reg r).meter = some c →
         let d := { c with duration := min 16777215 (c.duration + 1) }
         let charged := { d with units := min 65535 (c.units + 1) }
         t.reg r = { s.reg r with meter := (t.reg r).meter } ∧
         (c.periodRemaining = none → (t.reg r).meter = some d) ∧
         (∀ n, c.periodRemaining = some (n + 2) → (t.reg r).meter = some { d with periodRemaining := some (n + 1) }) ∧
         (c.periodRemaining = some 1 → c.generation = s.tariff.generation → (t.reg r).meter = some { charged with
           framePosition := c.framePosition + 1, periodRemaining := c.cell.periodAt (c.framePosition + 1) }) ∧
         (c.periodRemaining = some 1 → c.generation ≠ s.tariff.generation →
           let cell := tget s.tariff.active (cellIndex c.zone s.tariff.band)
           (t.reg r).meter = some { charged with
             band := s.tariff.band, cell := cell, generation := s.tariff.generation, framePosition := 0
             tariffChanged := true, periodRemaining := cell.periodAt 0 })) ∧
       (∀ i, (tget t.store.meters i).value = min 16777215 ((tget s.store.meters i).value +
         ((List.finRange 40).filter fun r => (s.reg r).meter.any fun c =>
           decide (c.periodRemaining = some 1) && decide (c.meter.map Subscriber.meterIndex = some i)).length)) ∧
       (∀ j, j ≠ .maintenance → t.subject j = s.subject j) ∧
       t = { s with regs := t.regs, tariff := t.tariff, store := t.store, att := t.att }) ∧
  (∀ (s : State) (r : RegNo),
     (∀ c, (s.reg r).meter = some c → c.periodRemaining = some 0 → ∃ t : State, exec (.periodExpiry r) s = .next t ∧
       t.reg r = { s.reg r with
         meter := some (({ c with units := min 65535 (c.units + 1) } : MeterContext).nextPeriod s.tariff) } ∧
       (∀ q, q ≠ r → t.reg q = s.reg q) ∧
       (∀ x, c.meter = some x → (tget t.store.meters x.meterIndex).value =
         min 16777215 ((tget s.store.meters x.meterIndex).value + 1)) ∧
       (∀ i, c.meter.map Subscriber.meterIndex ≠ some i → tget t.store.meters i = tget s.store.meters i) ∧
       t = { s with regs := t.regs, store := t.store, att := t.att }) ∧
     ((∀ c, (s.reg r).meter = some c → c.periodRemaining ≠ some 0) → exec (.periodExpiry r) s = .next s))

/-! ### Meters, snapshot, tickets -/

/-- R150, R151, R153, R154, R158: a unit addition and Adjust Meter, whose response carries the value before it, stop at 16,777,215; where
that sets the full flag the count of full meters rises and METER_FULL is posted. Preset Meter sets the meter of an OUT_OF_SERVICE
line and clears its flag, and is otherwise IN_USE. A sweep in progress copies the meter first. An addition of 0 copies and
changes nothing else (log entry 11). -/
def Obligations.MetersAreAddedToAndPreset : Prop :=
  (∀ (s : State) (n : LineNo) (y : Party), MeterRange s →
     let i := Subscriber.meterIndex ⟨n, y⟩
     let old := tget s.store.meters i
     let added (t : State) (v : Nat) : Prop :=
       (tget t.store.meters i).value = v ∧ (∀ j, j ≠ i → tget t.store.meters j = tget s.store.meters j) ∧
       (tget t.store.meters i).full = (old.full || decide (v = 16777215)) ∧
       t.store.fullCount = s.store.fullCount + (decide (v = 16777215) && !old.full).toNat ∧
       (v = 16777215 → old.full = false → t.isPending .maintenance .meterFull = true) ∧
       (v ≠ 16777215 ∨ old.full = true → t.att = s.att)
     let copied (t : State) : Prop :=
       (s.sweeping → tget s.store.marks i = false → tget t.store.values i = old ∧ tget t.store.marks i = true ∧
         ∀ j, j ≠ i → tget t.store.values j = tget s.store.values j ∧ tget t.store.marks j = tget s.store.marks j) ∧
       (¬s.sweeping ∨ tget s.store.marks i = true → t.store.values = s.store.values ∧ t.store.marks = s.store.marks) ∧
       t = { s with store := { t.store with
         snapshot := s.store.snapshot, snapshotDay := s.store.snapshotDay, snapshotMinute := s.store.snapshotMinute }, att := t.att }
     added (s.addUnit i) (min 16777215 (old.value + 1)) ∧ copied (s.addUnit i) ∧
     ∀ x : Side,
       let p := Port.controller x
       (∀ (equipment : Half) (party : Byte) (m : Half), equipment.toNat = n.val → party.toNat = y.code →
         ∃ u : State, s.runs p (.adjustMeter p equipment party m) (u.answer p ⟨.done,
           [BitVec.ofNat 8 (old.value / 65536), BitVec.ofNat 8 (old.value / 256), BitVec.ofNat 8 old.value]⟩) ∧ copied u ∧
         (m.toNat ≠ 0 → added u (min 16777215 (old.value + m.toNat))) ∧
         (m.toNat = 0 → u.store.meters = s.store.meters ∧ u.store.fullCount = s.store.fullCount ∧ u.att = s.att)) ∧
       ∀ (equipment : Half) (party : Byte) (m : Half), 512 ≤ equipment.toNat ∨ 2 ≤ party.toNat →
         s.runs p (.adjustMeter p equipment party m) (s.answer p ⟨.badOperand, []⟩)) ∧
  (∀ (x : Side) (s : State) (n : LineNo) (y : Party) (equipment : Half) (party : Byte) (value : Triple),
     equipment.toNat = n.val → party.toNat = y.code →
     let p := Port.controller x
     let i := Subscriber.meterIndex ⟨n, y⟩
     ((s.line n).state ≠ .outOfService →
       s.runs p (.presetMeter p equipment party value) (s.answer p ⟨.inUse, []⟩)) ∧
     ((s.line n).state = .outOfService → ∃ u : State,
       s.runs p (.presetMeter p equipment party value) (u.answer p ⟨.done, []⟩) ∧
       tget u.store.meters i = ⟨value.toNat, false⟩ ∧ (∀ j, j ≠ i → tget u.store.meters j = tget s.store.meters j) ∧
       u.store.fullCount = s.store.fullCount - (tget s.store.meters i).full.toNat ∧
       (s.sweeping → tget s.store.marks i = false →
         tget u.store.values i = tget s.store.meters i ∧ tget u.store.marks i = true) ∧
       (∀ j, j ≠ i ∨ ¬s.sweeping ∨ tget s.store.marks i = true →
         tget u.store.values j = tget s.store.values j ∧ tget u.store.marks j = tget s.store.marks j) ∧
       u.store.snapshot = s.store.snapshot ∧ u = { s with store := u.store }))

/-- R155, R156, R157, R160: the snapshot. Take Snapshot in IDLE clears the marks, records the clock and starts the sweep at 0; in
SWEEPING and READY it is BUSY. The sweep copies each meter whose mark is clear and moves on; 20 ms after Take Snapshot it is
complete, every mark set, and READY. Release Snapshot makes it IDLE and is always DONE. That the completion copies a meter whose mark
is still clear is log entry 14 (DEDUCED; by R157 every mark is set by then). -/
def Obligations.SnapshotIsSweptAndReleased : Prop :=
  (∀ s : State,
    (s.store.snapshot = .idle → ∃ m : MeterStore,
      s.runs .billing (.takeSnapshot .billing) (({ s with store := m } : State).answer .billing ⟨.done, []⟩) ∧
      (∀ i, tget m.marks i = false) ∧
      m = { s.store with
        snapshot := .sweeping 0 0, marks := m.marks, snapshotDay := s.tariff.day, snapshotMinute := s.tariff.minute }) ∧
    (s.store.snapshot ≠ .idle → s.runs .billing (.takeSnapshot .billing) (s.answer .billing ⟨.busy, []⟩)) ∧
    s.runs .billing (.releaseSnapshot .billing)
      (({ s with store := { s.store with snapshot := .idle } } : State).answer .billing ⟨.done, []⟩)) ∧
  ∀ s : State,
    (∀ (i : Fin 1024) (time : Nat), s.store.snapshot = .sweeping i.val time → ∃ t : State,
      exec .sweepReachesMeter s = .next t ∧ t.store.snapshot = .sweeping (i.val + 1) time ∧
      tget t.store.marks i = true ∧
      tget t.store.values i = (if tget s.store.marks i then tget s.store.values i else tget s.store.meters i) ∧
      (∀ j, j ≠ i → tget t.store.marks j = tget s.store.marks j ∧ tget t.store.values j = tget s.store.values j) ∧
      t = { s with store := { s.store with
        snapshot := t.store.snapshot, marks := t.store.marks, values := t.store.values } }) ∧
    ((∀ position time, s.store.snapshot = .sweeping position time → 1024 ≤ position) →
      exec .sweepReachesMeter s = .next s) ∧
    (∀ position time, s.store.snapshot = .sweeping position time →
      (time < 20 → exec .sweepCompletion s = .next s) ∧
      (20 ≤ time → ∃ t : State, exec .sweepCompletion s = .next t ∧ t.store.snapshot = .ready ∧
        (∀ i, tget t.store.marks i = true ∧
          tget t.store.values i = if tget s.store.marks i then tget s.store.values i else tget s.store.meters i) ∧
        t = { s with store := { s.store with snapshot := .ready, marks := t.store.marks, values := t.store.values } })) ∧
    (¬s.sweeping → exec .sweepCompletion s = .next s)

/-- R155, R157, R158: the snapshot shows every meter as it stood when Take Snapshot was accepted. What it shows (the copy, or the meter
while that is not copied) is the meters themselves at acceptance, is kept by every step of the sweep, is what READY holds, and
stays until the snapshot is released. -/
def Obligations.SnapshotKeepsTheInstant : Prop :=
  ∀ (s t : State), step s = .next t →
    (s.store.snapshot = .idle → t.sweeping → ∀ i, t.snapshotView i = tget s.store.meters i) ∧
    (s.sweeping → t.sweeping → ∀ i, t.snapshotView i = s.snapshotView i) ∧
    (s.sweeping → t.store.snapshot = .ready → ∀ i, tget t.store.values i = s.snapshotView i) ∧
    (s.store.snapshot = .ready → t.store.snapshot = .ready → t.store.values = s.store.values) ∧
    (s.store.snapshot = .idle → t.store.snapshot ≠ .ready) ∧
    (s.store.snapshot ≠ .idle → t.store.snapshot ≠ .idle →
      t.store.snapshotDay = s.store.snapshotDay ∧ t.store.snapshotMinute = s.store.snapshotMinute)

/-- R150, R154, R169: a meter never decreases except by Preset Meter or cold start, and every step keeps the meters in their range. -/
def Obligations.MetersNeverFall : Prop :=
  ∀ (s t : State), MeterRange s → step s = .next t →
    MeterRange t ∧
    ((∀ c rest, s.pending = c :: rest → (∀ p e y v, c ≠ .presetMeter p e y v) ∧ (∀ p, c ≠ .initialise p) ∧
        ∀ l, c ≠ .powerUp false l) →
      ∀ i, (tget s.store.meters i).value ≤ (tget t.store.meters i).value)

/-- R161, R165, R167, R190: Remove Ticket takes the oldest ticket off the list when its sequence number is given and is otherwise STALE
or EMPTY; Set Directory Digit sets the digit that later tickets carry. The tickets-waiting line is asserted exactly while a ticket
is stored. -/
def Obligations.TicketsAreRemovedByNumber : Prop :=
  (∀ (s : State) (n : Half),
    (s.tickets.stored = [] → s.runs .billing (.removeTicket .billing n) (s.answer .billing ⟨.empty, []⟩)) ∧
    ∀ k rest, s.tickets.stored = k :: rest →
      (k.sequence = n → s.runs .billing (.removeTicket .billing n)
        (({ s with tickets := { s.tickets with stored := rest } } : State).answer .billing ⟨.done, []⟩)) ∧
      (k.sequence ≠ n → s.runs .billing (.removeTicket .billing n) (s.answer .billing ⟨.stale, []⟩))) ∧
  (∀ s : State, s.ticketsWaiting = true ↔ s.tickets.stored ≠ []) ∧
  ∀ (x : Side) (s : State) (b : Byte),
    let p := Port.controller x
    (b.toNat = 0 ∨ 11 ≤ b.toNat → s.runs p (.setDirectoryDigit p b) (s.answer p ⟨.badOperand, []⟩)) ∧
    ∀ d : Digit, b.toNat = digitPulses d → s.runs p (.setDirectoryDigit p b)
      (({ s with tickets := { s.tickets with directoryDigit := d } } : State).answer p ⟨.done, []⟩)

/-! ### Shared control -/

/-- R172, R175, R176: a posting puts a subject that is neither queued nor bound at the tail; Take Event binds the head to its port and
answers its code, its pending set and its state; Done unbinds, clears the strikes, and queues a subject with events pending or
frees an ENDED register, releasing its route. -/
def Obligations.EventsArePostedTakenAndFinished : Prop :=
  (∀ (s : State) (j : Subject) (k : EventKind),
    let t := s.post j k
    (t.subject j).pending = (s.subject j).pending ||| (1#24 <<< k.code) ∧ (t.subject j).binding = (s.subject j).binding ∧
    ((s.subject j).queued = true ∨ (s.subject j).binding ≠ none → t.att.queue = s.att.queue ∧
      (t.subject j).queued = (s.subject j).queued) ∧
    ((s.subject j).queued = false → (s.subject j).binding = none → t.att.queue = s.att.queue ++ [j] ∧
      (t.subject j).queued = true) ∧
    (∀ i, i ≠ j → t.subject i = s.subject i) ∧
    t = { s with att := { s.att with queue := t.att.queue, subjects := t.att.subjects } }) ∧
  ∀ (x : Side) (s : State),
    let p := Port.controller x
    (s.att.queue = [] → s.runs p (.takeEvent p) (s.answer p ⟨.empty, []⟩)) ∧
    (∀ j rest, s.att.queue = j :: rest → ∃ u : State,
      s.runs p (.takeEvent p) (u.answer p ⟨.done, BitVec.ofNat 8 (subjectIndex j).val ::
        encPending (s.subject j).pending ++ [BitVec.ofNat 8 (match j with
          | .register r => (s.reg r).state.code
          | .maintenance => 255)]⟩) ∧
      u.subject j = ⟨some ⟨x, 0⟩, 0, false⟩ ∧ (∀ i, i ≠ j → u.subject i = s.subject i) ∧
      u = { s with att := { s.att with queue := rest, subjects := u.att.subjects } }) ∧
    ∀ b : Byte,
      (41 ≤ b.toNat → s.runs p (.done p b) (s.answer p ⟨.badOperand, []⟩)) ∧
      ∀ j : Subject, b.toNat = (subjectIndex j).val →
        (s.handler j = none → s.runs p (.done p b) (s.answer p ⟨.notBound, []⟩)) ∧
        (s.handler j = some x.other → s.runs p (.done p b) (s.answer p ⟨.heldByOther, []⟩)) ∧
        (s.handler j = some x → ∃ u : State,
          u.att.port x = { s.att.port x with strikes := 0 } ∧ u.att.port x.other = s.att.port x.other ∧
          (u.subject j).binding = none ∧ (u.subject j).pending = (s.subject j).pending ∧
          (∀ i, i ≠ j → u.subject i = s.subject i) ∧
          ((s.subject j).pending ≠ 0 → (s.subject j).queued = false →
            s.runs p (.done p b) (u.answer p ⟨.done, []⟩) ∧ u.att.queue = s.att.queue ++ [j] ∧
            (u.subject j).queued = true ∧ u = { s with att := u.att }) ∧
          (∀ r, (s.subject j).pending = 0 → j = .register r → (s.reg r).state = .ended →
            s.runs p (.done p b) (u.settle.answer p ⟨.done, []⟩) ∧ u.att.queue = s.att.queue ∧
            u.reg r = CallRegister.free ∧ (∀ q, q ≠ r → u.reg q = s.reg q) ∧
            (∀ t, (u.route t).entry = (s.route t).entry ∧ (u.route t).refCount =
              if (s.reg r).route = some t then (s.route t).refCount - 1 else (s.route t).refCount) ∧
            u = { s with regs := u.regs, trans := { s.trans with routes := u.trans.routes }, att := u.att }) ∧
          ((s.subject j).pending = 0 → (∀ r, j = .register r → (s.reg r).state ≠ .ended) →
            s.runs p (.done p b) (u.answer p ⟨.done, []⟩) ∧ u.att.queue = s.att.queue ∧ u = { s with att := u.att }))

/-- R5, R16, R82, R114, R119, R177: the five acting commands refuse a register number above 39 as BAD_OPERAND, an unbound register as
NOT_BOUND, one bound to the other port as HELD_BY_OTHER, and one of the issuer's in a state that the command does not act on as
WRONG_STATE, in this order; Give Tone examines its tone first. Nothing changes. -/
def Obligations.ActingCommandsNeedTheBinder : Prop :=
  ∀ (x : Side) (s : State) (b y : Byte),
    let p := Port.controller x
    let acts : List Instr := [.giveTone p b y, .releaseCall p b, .huntPath p b, .ring p b, .send p b]
    (3 ≤ y.toNat → s.runs p (.giveTone p b y) (s.answer p ⟨.badOperand, []⟩)) ∧
    (y.toNat < 3 →
      (40 ≤ b.toNat → ∀ c ∈ acts, s.runs p c (s.answer p ⟨.badOperand, []⟩)) ∧
      ∀ r : RegNo, b.toNat = r.val →
        (s.handler (.register r) = none → ∀ c ∈ acts, s.runs p c (s.answer p ⟨.notBound, []⟩)) ∧
        (s.handler (.register r) = some x.other → ∀ c ∈ acts, s.runs p c (s.answer p ⟨.heldByOther, []⟩)) ∧
        (s.handler (.register r) = some x →
          let wrong (c : Instr) : Prop := s.runs p c (s.answer p ⟨.wrongState, []⟩)
          ((s.reg r).state ∉ [.translated, .set] → wrong (.giveTone p b y)) ∧
          ((s.reg r).state ∈ [.free, .clearing, .ended] → wrong (.releaseCall p b)) ∧
          ((s.reg r).state ≠ .translated ∨ (∃ e, s.elem e = .initialising) → wrong (.huntPath p b)) ∧
          ((s.reg r).state ≠ .set → wrong (.ring p b) ∧ wrong (.send p b))))

/-- R174, R180, R181, R182, R183, R190: Fence Other fences the other port: its subjects are unbound and queued in ascending order with
HANDLER_RETURNED, and PEER_FENCED is posted; fenced already, it is WRONG_STATE. Admit Other clears the fence and the strikes of a
fenced port and is otherwise WRONG_STATE. Set Attention sets the issuer's own enable. A port's attention line is asserted exactly
while the queue is not empty, the port is not fenced and its enable is ON. -/
def Obligations.PortsAreFencedAndAdmitted : Prop :=
  ∀ (x : Side) (s : State), AttentionLaw s →
    let p := Port.controller x
    let y := x.other
    (s.attentionLine x = true ↔ s.att.queue ≠ [] ∧ (s.att.port x).fenced = false ∧ (s.att.port x).enabled = true) ∧
    ((s.att.port y).fenced = true →
      s.runs p (.fenceOther p) (s.answer p ⟨.wrongState, []⟩) ∧
      s.runs p (.admitOther p) ((s.modPort y fun z => { z with fenced := false, strikes := 0 }).answer p ⟨.done, []⟩)) ∧
    ((s.att.port y).fenced = false →
      s.runs p (.admitOther p) (s.answer p ⟨.wrongState, []⟩) ∧
      ∃ u : State, s.runs p (.fenceOther p) (u.answer p ⟨.done, []⟩) ∧
        u.att.port y = { s.att.port y with fenced := true } ∧ u.att.port x = s.att.port x ∧
        (∀ j, s.handler j = some y → u.handler j = none ∧ u.isPending j .handlerReturned = true) ∧
        u.isPending .maintenance .peerFenced = true ∧
        (∀ j, j ≠ .maintenance → s.handler j ≠ some y → u.subject j = s.subject j) ∧
        (∃ rest, rest ⊆ [Subject.maintenance] ∧
          u.att.queue = s.att.queue ++ allSubjects.filter (fun j => s.handler j = some y) ++ rest) ∧
        u = { s with att := u.att }) ∧
    ∀ b : Byte,
      (2 ≤ b.toNat → s.runs p (.setAttention p b) (s.answer p ⟨.badOperand, []⟩)) ∧
      ∀ on : Bool, b.toNat = on.toNat →
        s.runs p (.setAttention p b) ((s.modPort x fun z => { z with enabled := on }).answer p ⟨.done, []⟩)

/-- R178, R179: the handling limit of a binding, 3,000 ms. The subject is unbound and queued with HANDLER_RETURNED, the last-timeout
record names port and subject, HANDLER_TIMEOUT is posted to M, and the port takes a strike; at three strikes or more it is
fenced, unless the other port is. With time left, or no binding, nothing happens. -/
def Obligations.HandlingLimitReturnsAndStrikes : Prop :=
  ∀ (s : State) (j : Subject), AttentionLaw s →
    ((s.subject j).binding = none → exec (.handlingLimitExpiry j) s = .next s) ∧
    ∀ b, (s.subject j).binding = some b →
      (b.time < 3000 → exec (.handlingLimitExpiry j) s = .next s) ∧
      (3000 ≤ b.time → ∃ t : State, exec (.handlingLimitExpiry j) s = .next t ∧
        let strikes := min 255 ((s.att.port b.port).strikes + 1)
        let fences := 3 ≤ strikes ∧ (s.att.port b.port.other).fenced = false
        t.handler j = none ∧ t.isPending j .handlerReturned = true ∧ j ∈ t.att.queue ∧
        t.att.lastTimeout = some (b.port, j) ∧ t.isPending .maintenance .handlerTimeout = true ∧
        t.att.port b.port = { s.att.port b.port with
          strikes := strikes, fenced := (s.att.port b.port).fenced || decide fences } ∧
        t.att.port b.port.other = s.att.port b.port.other ∧
        (∃ rest, t.att.queue = s.att.queue ++ j :: rest ∧ (¬fences → rest ⊆ [Subject.maintenance])) ∧
        (fences → t.isPending .maintenance .peerFenced = true ∧ ∀ i, t.handler i ≠ some b.port) ∧
        (∀ i, i ≠ j → i ≠ .maintenance → (¬fences ∨ s.handler i ≠ some b.port) → t.subject i = s.subject i) ∧
        t = { s with att := t.att })

/-! ### Restarts -/

/-- R18, R38, R56, R75, R94, R109, R129, R148, R169, R170, R185, R186, R187, R194: what starts a restart. Initialise with every register FREE,
and a power-up whose retention check fails, leave the reset state but for the ports, the RESTART line and the cause; Initialise
takes the next tag; with a register in use it is IN_USE. Restart, the assertion of the RESTART line and a power-up whose check
passes are the warm restart. The model's own queue and its count of free values stand. -/
def Obligations.RestartsAreStarted : Prop :=
  ((∀ (x : Side) (s : State), s.takes x (.initialise (.controller x)) →
     let p := Port.controller x
     ((∃ r, (s.reg r).state ≠ .free) → exec (.initialise p) s = .next (s.answer p ⟨.inUse, []⟩)) ∧
     ((∀ r, (s.reg r).state = .free) → exec (.initialise p) s = .next (({ State.reset with
       orders := ⟨[], some ⟨.networkClear, s.orders.tag + 1, List.finRange 352, 0, false⟩, s.orders.tag + 1, none⟩
       att := { State.reset.att with lastRestart := (.cold, .initialise) }
       links := s.links
       restartLine := s.restartLine
       draws := s.draws
       pending := s.pending } : State).answer p ⟨.done, []⟩))) ∧
   ∀ (s : State) (l : LineLevels),
     let port (asserted : Bool) : LinkPort := ⟨if asserted then .heldInReset else .ready, asserted⟩
     exec (.powerUp false l) s = .next { State.reset with
       links := ⟨port l.linkResetA, port l.linkResetB, port l.linkResetBilling⟩
       restartLine := l.restart
       draws := s.draws
       pending := s.pending }) ∧
  ((∀ (x : Side) (s : State), s.takes x (.restart (.controller x)) →
     exec (.restart (.controller x)) s = .next ((s.warmRestart .restartCommand).answer (.controller x) ⟨.done, []⟩)) ∧
   (∀ s : State,
     (s.restartLine = true → exec .restartLineAsserted s = .next s) ∧
     (s.restartLine = false →
       exec .restartLineAsserted s = .next (({ s with restartLine := true } : State).warmRestart .restartLine)) ∧
     exec .restartLineNegated s = .next { s with restartLine := false }) ∧
   ∀ (s : State) (l : LineLevels),
     let port (asserted : Bool) : LinkPort := ⟨if asserted then .heldInReset else .ready, asserted⟩
     exec (.powerUp true l) s = .next { s.warmRestart .powerUp with
       links := ⟨port l.linkResetA, port l.linkResetB, port l.linkResetBilling⟩
       restartLine := l.restart })

/-- R19, R39, R95, R110, R129, R187: the warm restart. Registers in TALK and CLEARING keep their records, those being set up with a path
go to CLEARING with RESTART, all others are FREE. Terminals outside TALK are IDLE or LOCKOUT by their loops, queue and set empty.
Every subject is unbound, M alone queued with RESTARTED; ports start afresh. Elements, tariffs, translations, meters and stored
tickets stay; every signal is removed; the snapshot is IDLE. -/
def Obligations.WarmRestartKeepsTheCallsInTalk : Prop :=
  ∀ (s : State) (cause : RestartCause),
    (∀ k b, s.sender k = .busy b → (s.reg b.register).state = .sending) →
    (∀ r k, (s.reg r).sender = some k → ∃ b, s.sender k = .busy b ∧ b.register = r) →
    let t := s.warmRestart cause
    let inTalk (r : RegNo) : Prop := (s.reg r).state = .talk
    (∀ r, (s.reg r).state = .talk ∨ (s.reg r).state = .clearing → t.reg r = s.reg r) ∧
    (∀ r, (s.reg r).state ∈ [.free, .dialing, .translated, .ended] ∨
        ((s.reg r).state = .tone ∧ (s.reg r).path.elements = []) → (s.reg r).state ≠ .free → t.reg r = CallRegister.free) ∧
    (∀ r, (s.reg r).state ∈ [.connecting, .set, .ringing, .sending, .awaitAnswer] ∨
        ((s.reg r).state = .tone ∧ (s.reg r).path.elements ≠ []) →
      (t.reg r).state = .clearing ∧ (t.reg r).endCause = some .restart ∧ (t.reg r).path = (s.reg r).path ∧
      (t.reg r).reservation = false ∧ (t.reg r).sender = none ∧ (t.reg r).timer = none) ∧
    (∀ n, (s.line n).state = .outOfService → t.line n = s.line n) ∧
    (∀ n, (s.line n).state ≠ .outOfService →
      (∀ r, inTalk r → s.callingRole r (.line n) = false ∧ s.calledRole r n = false) →
      t.line n = (s.line n).outOfCall (if (s.line n).accepted = .opened then .idle else .lockout)) ∧
    (∀ n r, inTalk r → s.callingRole r (.line n) = true ∨ s.calledRole r n = true → t.line n = s.line n) ∧
    (∀ i, (s.trunk i).state = .outOfService → t.trunk i = s.trunk i) ∧
    (∀ i, (s.trunk i).state ≠ .outOfService → (∀ r, inTalk r → s.callingRole r (.trunk i) = false) →
      t.trunk i = (s.trunk i).outOfCall (if (s.trunk i).accepted = .opened then .idle else .lockout) ∧
      tget t.sig.clearTimers i = none) ∧
    (∀ i r, inTalk r → s.callingRole r (.trunk i) = true →
      t.trunk i = s.trunk i ∧ tget t.sig.clearTimers i = tget s.sig.clearTimers i) ∧
    t.scan.queue = [] ∧ t.scan.deferred = [] ∧ t.scan.answers = s.scan.answers ∧
    (∀ r, t.subject (.register r) = ⟨none, 0, false⟩) ∧ t.handler .maintenance = none ∧
    t.isPending .maintenance .restarted = true ∧ t.att.queue = [.maintenance] ∧
    t.att.portA = ⟨false, 0, false⟩ ∧ t.att.portB = ⟨false, 0, false⟩ ∧ t.att.lastTimeout = s.att.lastTimeout ∧
    t.att.lastRestart = (.warm, cause) ∧
    (∀ e, s.elem e ≠ .reserved → s.elem e ≠ .held → t.elem e = s.elem e) ∧ t.net.groups = s.net.groups ∧
    t.net.huntPointer = s.net.huntPointer ∧
    (∀ n, tget t.sig.lineSignals n = ⟨false, none, none⟩) ∧ (∀ i, tget t.sig.trunkTones i = none) ∧
    t.store = { s.store with snapshot := .idle } ∧ t.tickets.stored = s.tickets.stored ∧
    t.tickets.sequence = s.tickets.sequence ∧ t.trans.nodes = s.trans.nodes ∧ t.trans.directory = s.trans.directory ∧
    t.trans.incomingRoot = s.trans.incomingRoot ∧ (∀ v, (t.route v).entry = (s.route v).entry) ∧
    t = { s with
      regs := t.regs, scan := t.scan, receivers := t.receivers, trans := t.trans, net := t.net, orders := t.orders
      sig := t.sig, store := t.store, tickets := t.tickets, att := t.att }

/-- R39, R56, R75, R95, R110, R129, R170, R187: what the warm restart gives back for the calls it ends. The elements of a TALK path stay
as they stand; RESERVED and HELD elements of a CLEARING register become RELEASING unless its own order is in flight, and its
RELEASE is regenerated, in ascending register order, the first taken at once when none is in flight; an OPERATE in flight for it is
marked cancelled. Receivers and senders in use return, BLOCKED or FREE by their flags; reservations and route references of the
calls ended are returned; M has RESTARTED pending, and LOCKOUT where a terminal stands in LOCKOUT (log entry 12). -/
def Obligations.WarmRestartReturnsWhatItEnds : Prop :=
  ∀ (s : State) (cause : RestartCause),
    (∀ k b, s.sender k = .busy b → (s.reg b.register).state = .sending ∧ (s.reg b.register).sender = some k) →
    (∀ r k, (s.reg r).sender = some k → ∃ b, s.sender k = .busy b ∧ b.register = r) →
    (∀ k a, s.receiver k = .attached a → (s.reg a.register).state = .dialing ∧ (s.reg a.register).receiver = some k) →
    (∀ r k, (s.reg r).receiver = some k → ∃ a, s.receiver k = .attached a ∧ a.register = r) →
    let t := s.warmRestart cause
    let path (r : RegNo) : List ElemNo := (s.reg r).path.elements
    let clears (r : RegNo) : Prop := (t.reg r).state = .clearing ∧ path r ≠ []
    let own (r : RegNo) : Prop := ∃ f, s.orders.inFlight = some f ∧ (f.order = .operate r ∨ f.order = .release r)
    let freed (r : RegNo) : Prop := (s.reg r).state ≠ .free ∧ (t.reg r).state = .free
    (∀ r, (s.reg r).state = .talk → ∀ e ∈ path r, (∀ q, clears q → e ∉ path q) → t.elem e = s.elem e) ∧
    (∀ r e, clears r → ¬own r → e ∈ path r → s.elem e = .reserved ∨ s.elem e = .held → t.elem e = .releasing) ∧
    (∀ e, (∀ r, clears r → ¬own r → e ∉ path r) ∨ (s.elem e ≠ .reserved ∧ s.elem e ≠ .held) → t.elem e = s.elem e) ∧
    (∃ rs : List RegNo, rs.Pairwise (· < ·) ∧ (∀ r, r ∈ rs ↔ clears r ∧ ¬own r) ∧
      (∀ f, s.orders.inFlight = some f → ∃ c : Bool, (c = true ↔ f.cancelled = true ∨ ∃ r, f.order = .operate r ∧ clears r) ∧
        t.orders = { s.orders with queue := rs.map .release, inFlight := some { f with cancelled := c } }) ∧
      (s.orders.inFlight = none → rs = [] → t.orders = { s.orders with queue := [] }) ∧
      ∀ r rest, s.orders.inFlight = none → rs = r :: rest → t.orders = { s.orders with
        queue := rest.map .release
        tag := s.orders.tag + 1
        inFlight := some ⟨.release r, s.orders.tag + 1, path r, 0, false⟩ }) ∧
    (∀ k, (∀ a, s.receiver k = .attached a → t.receiver k = if a.blockAfterUse then .blocked else .free) ∧
      (s.receiver k = .free ∨ s.receiver k = .blocked → t.receiver k = s.receiver k)) ∧
    (∀ k, (∀ b, s.sender k = .busy b → t.sender k = (if b.blockAfterUse then .blocked else .free) ∧
        tget t.sig.senderSignals k = ⟨none, .closed⟩) ∧
      (s.sender k = .free ∨ s.sender k = .blocked → t.sender k = s.sender k ∧
        tget t.sig.senderSignals k = tget s.sig.senderSignals k)) ∧
    t.tickets = { s.tickets with reserved := s.tickets.reserved - ((List.finRange 40).filter fun r =>
      (s.reg r).reservation && decide ((s.reg r).state ∉ [.free, .talk, .clearing])).length } ∧
    (∀ v, ∃ rs : List RegNo, rs.Nodup ∧ (∀ r, r ∈ rs ↔ freed r ∧ (s.reg r).route = some v) ∧
      t.route v = { s.route v with refCount := (s.route v).refCount - rs.length }) ∧
    (t.isPending .maintenance .lockout = true ↔
      (∃ n, (t.line n).state = .lockout) ∨ ∃ i, (t.trunk i).state = .lockout) ∧
    ∀ k : EventKind, k ≠ .restarted → k ≠ .lockout → t.isPending .maintenance k = false

/-! ### Laws of the device -/

/-- R173: every step keeps the law of the Attention Queue: no subject twice, none bound, and the queued flags say who stands in it. -/
def Obligations.AttentionLawIsKept : Prop := ∀ (s t : State), AttentionLaw s → step s = .next t → AttentionLaw t

/-- R180: every step keeps the law of the fence: at most one controller port is fenced, and no subject is bound to a fenced port. -/
def Obligations.FenceLawIsKept : Prop := ∀ (s t : State), FenceLaw s → step s = .next t → FenceLaw t

/-- R18, R38, R169, R186: the laws hold of the state after reset. -/
def Obligations.LawsHoldAfterReset : Prop :=
  AttentionLaw State.reset ∧ FenceLaw State.reset ∧ QueueLaw State.reset ∧ MeterRange State.reset ∧ ClockRange State.reset ∧
    State.reset.store.snapshot = .idle
end

