-- ==== Sys2Proof/Laws/Table.lean ====
section
/-! SUPPORT. What the accessors of a fixed-length table do, once for every table of the store. -/

namespace Sys2Proof

variable {α β : Type} {n : Nat}

@[simp] theorem tget_tset_same (v : Vector α n) (i : Fin n) (x : α) : tget (tset v i x) i = x := by
  simp [tget, tset]

theorem tget_tset_of_ne (v : Vector α n) {i j : Fin n} (x : α) (h : j ≠ i) : tget (tset v i x) j = tget v j := by
  have : i.val ≠ j.val := fun e => h (Fin.ext e.symm)
  simp [tget, tset, this]

theorem tget_tset (v : Vector α n) (i j : Fin n) (x : α) : tget (tset v i x) j = if j = i then x else tget v j := by
  split
  · next h => subst h; simp
  · next h => exact tget_tset_of_ne v x h

@[simp] theorem tget_tmod_same (v : Vector α n) (i : Fin n) (f : α → α) : tget (tmod v i f) i = f (tget v i) := by
  simp [tmod]

theorem tget_tmod (v : Vector α n) (i j : Fin n) (f : α → α) :
    tget (tmod v i f) j = if j = i then f (tget v i) else tget v j := by
  simp [tmod, tget_tset]

theorem tget_tmod_of_ne (v : Vector α n) {i j : Fin n} (f : α → α) (h : j ≠ i) : tget (tmod v i f) j = tget v j := by
  simp [tget_tmod, h]

@[simp] theorem tget_tmap (f : Fin n → α → β) (v : Vector α n) (i : Fin n) : tget (tmap f v) i = f i (tget v i) := by
  simp [tget, tmap]

@[simp] theorem tget_replicate (x : α) (i : Fin n) : tget (Vector.replicate n x) i = x := by
  simp [tget]

@[simp] theorem mem_tfind (p : Fin n → α → Bool) (v : Vector α n) (i : Fin n) : i ∈ tfind p v ↔ p i (tget v i) = true := by
  simp [tfind]

/-- Two tables with the same entries are equal. -/
theorem table_ext {v w : Vector α n} (h : ∀ i, tget v i = tget w i) : v = w := by
  apply Vector.ext
  intro i hi
  exact h ⟨i, hi⟩

/-- The first number found is the lowest that satisfies the test. -/
theorem tfind_head (p : Fin n → α → Bool) (v : Vector α n) (i : Fin n) (h : (tfind p v).head? = some i) :
    p i (tget v i) = true ∧ ∀ j, j < i → p j (tget v j) = false := by
  have hm : i ∈ tfind p v := List.mem_of_mem_head? h
  refine ⟨(mem_tfind p v i).1 hm, fun j hj => ?_⟩
  by_contra hp
  have hp' : p j (tget v j) = true := by simpa using hp
  have hmj : j ∈ tfind p v := (mem_tfind p v j).2 hp'
  have hs : (tfind p v).Pairwise (· < ·) := by
    unfold tfind
    exact List.Pairwise.filter _ (List.pairwise_lt_finRange n)
  cases hl : tfind p v with
  | nil => rw [hl] at hmj; simp at hmj
  | cons a l =>
    rw [hl] at h hmj hs
    have : a = i := by simpa using h
    subst this
    rcases List.mem_cons.1 hmj with e | e
    · exact absurd (e ▸ hj) (lt_irrefl _)
    · exact absurd (lt_trans hj ((List.pairwise_cons.1 hs).1 j e)) (lt_irrefl _)

/-- A fold keeps what each of its steps keeps. -/
theorem foldl_keeps {σ ι : Type} (f : σ → ι → σ) (P : σ → Prop) (h : ∀ s i, P s → P (f s i)) (l : List ι) (s : σ) (hs : P s) :
    P (l.foldl f s) := by
  induction l generalizing s with
  | nil => exact hs
  | cons a l ih => exact ih _ (h _ _ hs)

/-- A fold leaves alone what each of its steps leaves alone. -/
theorem foldl_same {σ ι τ : Type} (f : σ → ι → σ) (g : σ → τ) (h : ∀ s i, g (f s i) = g s) (l : List ι) (s : σ) :
    g (l.foldl f s) = g s := by
  induction l generalizing s with
  | nil => rfl
  | cons a l ih => exact (ih _).trans (h _ _)

end Sys2Proof
end

