-- ==== Sys2Proof/Laws/State.lean ====
section
/-! SUPPORT. What each update of one record writes and what it leaves alone: for each update, one lemma over the fields of the
state that it does not touch, true by `rfl`, and one for the record written and its neighbours. -/

namespace Sys2Proof.Machine

@[simp] theorem State.modReg_frame (s : State) (r : RegNo) (f : CallRegister → CallRegister) :
    (s.modReg r f).scan = s.scan ∧ (s.modReg r f).receivers = s.receivers ∧ (s.modReg r f).trans = s.trans ∧
      (s.modReg r f).net = s.net ∧ (s.modReg r f).orders = s.orders ∧ (s.modReg r f).sig = s.sig ∧
      (s.modReg r f).tariff = s.tariff ∧ (s.modReg r f).store = s.store ∧ (s.modReg r f).tickets = s.tickets ∧
      (s.modReg r f).att = s.att ∧ (s.modReg r f).links = s.links ∧ (s.modReg r f).restartLine = s.restartLine ∧
      (s.modReg r f).draws = s.draws ∧ (s.modReg r f).pending = s.pending :=
  ⟨rfl, rfl, rfl, rfl, rfl, rfl, rfl, rfl, rfl, rfl, rfl, rfl, rfl, rfl⟩

@[simp] theorem State.modLine_frame (s : State) (n : LineNo) (f : LineRec → LineRec) :
    (s.modLine n f).regs = s.regs ∧ (s.modLine n f).receivers = s.receivers ∧ (s.modLine n f).trans = s.trans ∧
      (s.modLine n f).net = s.net ∧ (s.modLine n f).orders = s.orders ∧ (s.modLine n f).sig = s.sig ∧
      (s.modLine n f).tariff = s.tariff ∧ (s.modLine n f).store = s.store ∧ (s.modLine n f).tickets = s.tickets ∧
      (s.modLine n f).att = s.att ∧ (s.modLine n f).links = s.links ∧ (s.modLine n f).restartLine = s.restartLine ∧
      (s.modLine n f).draws = s.draws ∧ (s.modLine n f).pending = s.pending :=
  ⟨rfl, rfl, rfl, rfl, rfl, rfl, rfl, rfl, rfl, rfl, rfl, rfl, rfl, rfl⟩

@[simp] theorem State.modTrunk_frame (s : State) (i : TrunkNo) (f : TrunkRec → TrunkRec) :
    (s.modTrunk i f).regs = s.regs ∧ (s.modTrunk i f).receivers = s.receivers ∧ (s.modTrunk i f).trans = s.trans ∧
      (s.modTrunk i f).net = s.net ∧ (s.modTrunk i f).orders = s.orders ∧ (s.modTrunk i f).sig = s.sig ∧
      (s.modTrunk i f).tariff = s.tariff ∧ (s.modTrunk i f).store = s.store ∧ (s.modTrunk i f).tickets = s.tickets ∧
      (s.modTrunk i f).att = s.att ∧ (s.modTrunk i f).links = s.links ∧
      (s.modTrunk i f).restartLine = s.restartLine ∧ (s.modTrunk i f).draws = s.draws ∧
      (s.modTrunk i f).pending = s.pending :=
  ⟨rfl, rfl, rfl, rfl, rfl, rfl, rfl, rfl, rfl, rfl, rfl, rfl, rfl, rfl⟩

@[simp] theorem State.setReceiver_frame (s : State) (k : ReceiverNo) (x : Receiver) :
    (s.setReceiver k x).regs = s.regs ∧ (s.setReceiver k x).scan = s.scan ∧ (s.setReceiver k x).trans = s.trans ∧
      (s.setReceiver k x).net = s.net ∧ (s.setReceiver k x).orders = s.orders ∧ (s.setReceiver k x).sig = s.sig ∧
      (s.setReceiver k x).tariff = s.tariff ∧ (s.setReceiver k x).store = s.store ∧
      (s.setReceiver k x).tickets = s.tickets ∧ (s.setReceiver k x).att = s.att ∧
      (s.setReceiver k x).links = s.links ∧ (s.setReceiver k x).restartLine = s.restartLine ∧
      (s.setReceiver k x).draws = s.draws ∧ (s.setReceiver k x).pending = s.pending :=
  ⟨rfl, rfl, rfl, rfl, rfl, rfl, rfl, rfl, rfl, rfl, rfl, rfl, rfl, rfl⟩

@[simp] theorem State.setSender_frame (s : State) (k : SenderNo) (x : Sender) :
    (s.setSender k x).regs = s.regs ∧ (s.setSender k x).scan = s.scan ∧
      (s.setSender k x).receivers = s.receivers ∧ (s.setSender k x).trans = s.trans ∧
      (s.setSender k x).net = s.net ∧ (s.setSender k x).orders = s.orders ∧ (s.setSender k x).tariff = s.tariff ∧
      (s.setSender k x).store = s.store ∧ (s.setSender k x).tickets = s.tickets ∧ (s.setSender k x).att = s.att ∧
      (s.setSender k x).links = s.links ∧ (s.setSender k x).restartLine = s.restartLine ∧
      (s.setSender k x).draws = s.draws ∧ (s.setSender k x).pending = s.pending :=
  ⟨rfl, rfl, rfl, rfl, rfl, rfl, rfl, rfl, rfl, rfl, rfl, rfl, rfl, rfl⟩

@[simp] theorem State.setElem_frame (s : State) (e : ElemNo) (x : ElemState) :
    (s.setElem e x).regs = s.regs ∧ (s.setElem e x).scan = s.scan ∧ (s.setElem e x).receivers = s.receivers ∧
      (s.setElem e x).trans = s.trans ∧ (s.setElem e x).orders = s.orders ∧ (s.setElem e x).sig = s.sig ∧
      (s.setElem e x).tariff = s.tariff ∧ (s.setElem e x).store = s.store ∧ (s.setElem e x).tickets = s.tickets ∧
      (s.setElem e x).att = s.att ∧ (s.setElem e x).links = s.links ∧ (s.setElem e x).restartLine = s.restartLine ∧
      (s.setElem e x).draws = s.draws ∧ (s.setElem e x).pending = s.pending :=
  ⟨rfl, rfl, rfl, rfl, rfl, rfl, rfl, rfl, rfl, rfl, rfl, rfl, rfl, rfl⟩

@[simp] theorem State.modSubject_frame (s : State) (x : Subject) (f : SubjectRec → SubjectRec) :
    (s.modSubject x f).regs = s.regs ∧ (s.modSubject x f).scan = s.scan ∧
      (s.modSubject x f).receivers = s.receivers ∧ (s.modSubject x f).trans = s.trans ∧
      (s.modSubject x f).net = s.net ∧ (s.modSubject x f).orders = s.orders ∧ (s.modSubject x f).sig = s.sig ∧
      (s.modSubject x f).tariff = s.tariff ∧ (s.modSubject x f).store = s.store ∧
      (s.modSubject x f).tickets = s.tickets ∧ (s.modSubject x f).links = s.links ∧
      (s.modSubject x f).restartLine = s.restartLine ∧ (s.modSubject x f).draws = s.draws ∧
      (s.modSubject x f).pending = s.pending :=
  ⟨rfl, rfl, rfl, rfl, rfl, rfl, rfl, rfl, rfl, rfl, rfl, rfl, rfl, rfl⟩

@[simp] theorem State.modPort_frame (s : State) (y : Side) (f : ControllerPort → ControllerPort) :
    (s.modPort y f).regs = s.regs ∧ (s.modPort y f).scan = s.scan ∧ (s.modPort y f).receivers = s.receivers ∧
      (s.modPort y f).trans = s.trans ∧ (s.modPort y f).net = s.net ∧ (s.modPort y f).orders = s.orders ∧
      (s.modPort y f).sig = s.sig ∧ (s.modPort y f).tariff = s.tariff ∧ (s.modPort y f).store = s.store ∧
      (s.modPort y f).tickets = s.tickets ∧ (s.modPort y f).links = s.links ∧
      (s.modPort y f).restartLine = s.restartLine ∧ (s.modPort y f).draws = s.draws ∧
      (s.modPort y f).pending = s.pending :=
  ⟨rfl, rfl, rfl, rfl, rfl, rfl, rfl, rfl, rfl, rfl, rfl, rfl, rfl, rfl⟩

@[simp] theorem State.setClearTimer_frame (s : State) (i : TrunkNo) (x : Option Nat) :
    (s.setClearTimer i x).regs = s.regs ∧ (s.setClearTimer i x).scan = s.scan ∧
      (s.setClearTimer i x).receivers = s.receivers ∧ (s.setClearTimer i x).trans = s.trans ∧
      (s.setClearTimer i x).net = s.net ∧ (s.setClearTimer i x).orders = s.orders ∧
      (s.setClearTimer i x).tariff = s.tariff ∧ (s.setClearTimer i x).store = s.store ∧
      (s.setClearTimer i x).tickets = s.tickets ∧ (s.setClearTimer i x).att = s.att ∧
      (s.setClearTimer i x).links = s.links ∧ (s.setClearTimer i x).restartLine = s.restartLine ∧
      (s.setClearTimer i x).draws = s.draws ∧ (s.setClearTimer i x).pending = s.pending :=
  ⟨rfl, rfl, rfl, rfl, rfl, rfl, rfl, rfl, rfl, rfl, rfl, rfl, rfl, rfl⟩

@[simp] theorem State.modRefCount_frame (s : State) (t : RouteNo) (f : Nat → Nat) :
    (s.modRefCount t f).regs = s.regs ∧ (s.modRefCount t f).scan = s.scan ∧
      (s.modRefCount t f).receivers = s.receivers ∧ (s.modRefCount t f).net = s.net ∧
      (s.modRefCount t f).orders = s.orders ∧ (s.modRefCount t f).sig = s.sig ∧
      (s.modRefCount t f).tariff = s.tariff ∧ (s.modRefCount t f).store = s.store ∧
      (s.modRefCount t f).tickets = s.tickets ∧ (s.modRefCount t f).att = s.att ∧
      (s.modRefCount t f).links = s.links ∧ (s.modRefCount t f).restartLine = s.restartLine ∧
      (s.modRefCount t f).draws = s.draws ∧ (s.modRefCount t f).pending = s.pending :=
  ⟨rfl, rfl, rfl, rfl, rfl, rfl, rfl, rfl, rfl, rfl, rfl, rfl, rfl, rfl⟩

@[simp] theorem State.sendOrder_frame (s : State) (o : LineOrder) :
    (s.sendOrder o).regs = s.regs ∧ (s.sendOrder o).scan = s.scan ∧ (s.sendOrder o).receivers = s.receivers ∧
      (s.sendOrder o).trans = s.trans ∧ (s.sendOrder o).net = s.net ∧ (s.sendOrder o).orders = s.orders ∧
      (s.sendOrder o).tariff = s.tariff ∧ (s.sendOrder o).store = s.store ∧ (s.sendOrder o).tickets = s.tickets ∧
      (s.sendOrder o).att = s.att ∧ (s.sendOrder o).links = s.links ∧ (s.sendOrder o).restartLine = s.restartLine ∧
      (s.sendOrder o).draws = s.draws ∧ (s.sendOrder o).pending = s.pending :=
  ⟨rfl, rfl, rfl, rfl, rfl, rfl, rfl, rfl, rfl, rfl, rfl, rfl, rfl, rfl⟩

@[simp] theorem State.modSignal_frame (s : State) (n : LineNo) (f : LineSignal → LineSignal) :
    (s.modSignal n f).regs = s.regs ∧ (s.modSignal n f).scan = s.scan ∧
      (s.modSignal n f).receivers = s.receivers ∧ (s.modSignal n f).trans = s.trans ∧
      (s.modSignal n f).net = s.net ∧ (s.modSignal n f).orders = s.orders ∧ (s.modSignal n f).tariff = s.tariff ∧
      (s.modSignal n f).store = s.store ∧ (s.modSignal n f).tickets = s.tickets ∧ (s.modSignal n f).att = s.att ∧
      (s.modSignal n f).links = s.links ∧ (s.modSignal n f).restartLine = s.restartLine ∧
      (s.modSignal n f).draws = s.draws ∧ (s.modSignal n f).pending = s.pending :=
  ⟨rfl, rfl, rfl, rfl, rfl, rfl, rfl, rfl, rfl, rfl, rfl, rfl, rfl, rfl⟩

@[simp] theorem State.setPhase_frame (s : State) (p : Port) (x : LinkPhase) :
    (s.setPhase p x).regs = s.regs ∧ (s.setPhase p x).scan = s.scan ∧ (s.setPhase p x).receivers = s.receivers ∧
      (s.setPhase p x).trans = s.trans ∧ (s.setPhase p x).net = s.net ∧ (s.setPhase p x).orders = s.orders ∧
      (s.setPhase p x).sig = s.sig ∧ (s.setPhase p x).tariff = s.tariff ∧ (s.setPhase p x).store = s.store ∧
      (s.setPhase p x).tickets = s.tickets ∧ (s.setPhase p x).att = s.att ∧
      (s.setPhase p x).restartLine = s.restartLine ∧ (s.setPhase p x).draws = s.draws ∧
      (s.setPhase p x).pending = s.pending :=
  ⟨rfl, rfl, rfl, rfl, rfl, rfl, rfl, rfl, rfl, rfl, rfl, rfl, rfl, rfl⟩

@[simp] theorem State.answer_frame (s : State) (p : Port) (x : Response) :
    (s.answer p x).regs = s.regs ∧ (s.answer p x).scan = s.scan ∧ (s.answer p x).receivers = s.receivers ∧
      (s.answer p x).trans = s.trans ∧ (s.answer p x).net = s.net ∧ (s.answer p x).orders = s.orders ∧
      (s.answer p x).sig = s.sig ∧ (s.answer p x).tariff = s.tariff ∧ (s.answer p x).store = s.store ∧
      (s.answer p x).tickets = s.tickets ∧ (s.answer p x).att = s.att ∧ (s.answer p x).restartLine = s.restartLine ∧
      (s.answer p x).draws = s.draws ∧ (s.answer p x).pending = s.pending :=
  ⟨rfl, rfl, rfl, rfl, rfl, rfl, rfl, rfl, rfl, rfl, rfl, rfl, rfl, rfl⟩

@[simp] theorem State.appendOrder_frame (s : State) (o : Order) :
    (s.appendOrder o).regs = s.regs ∧ (s.appendOrder o).scan = s.scan ∧
      (s.appendOrder o).receivers = s.receivers ∧ (s.appendOrder o).trans = s.trans ∧
      (s.appendOrder o).net = s.net ∧ (s.appendOrder o).sig = s.sig ∧ (s.appendOrder o).tariff = s.tariff ∧
      (s.appendOrder o).store = s.store ∧ (s.appendOrder o).tickets = s.tickets ∧ (s.appendOrder o).att = s.att ∧
      (s.appendOrder o).links = s.links ∧ (s.appendOrder o).restartLine = s.restartLine ∧
      (s.appendOrder o).draws = s.draws ∧ (s.appendOrder o).pending = s.pending :=
  ⟨rfl, rfl, rfl, rfl, rfl, rfl, rfl, rfl, rfl, rfl, rfl, rfl, rfl, rfl⟩

@[simp] theorem State.cancelInFlight_frame (s : State) :
    (s.cancelInFlight).regs = s.regs ∧ (s.cancelInFlight).scan = s.scan ∧
      (s.cancelInFlight).receivers = s.receivers ∧ (s.cancelInFlight).trans = s.trans ∧
      (s.cancelInFlight).net = s.net ∧ (s.cancelInFlight).sig = s.sig ∧ (s.cancelInFlight).tariff = s.tariff ∧
      (s.cancelInFlight).store = s.store ∧ (s.cancelInFlight).tickets = s.tickets ∧ (s.cancelInFlight).att = s.att ∧
      (s.cancelInFlight).links = s.links ∧ (s.cancelInFlight).restartLine = s.restartLine ∧
      (s.cancelInFlight).draws = s.draws ∧ (s.cancelInFlight).pending = s.pending :=
  ⟨rfl, rfl, rfl, rfl, rfl, rfl, rfl, rfl, rfl, rfl, rfl, rfl, rfl, rfl⟩

@[simp] theorem State.leaveQueue_frame (s : State) (t : Terminal) :
    (s.leaveQueue t).regs = s.regs ∧ (s.leaveQueue t).receivers = s.receivers ∧ (s.leaveQueue t).trans = s.trans ∧
      (s.leaveQueue t).net = s.net ∧ (s.leaveQueue t).orders = s.orders ∧ (s.leaveQueue t).sig = s.sig ∧
      (s.leaveQueue t).tariff = s.tariff ∧ (s.leaveQueue t).store = s.store ∧ (s.leaveQueue t).tickets = s.tickets ∧
      (s.leaveQueue t).att = s.att ∧ (s.leaveQueue t).links = s.links ∧
      (s.leaveQueue t).restartLine = s.restartLine ∧ (s.leaveQueue t).draws = s.draws ∧
      (s.leaveQueue t).pending = s.pending :=
  ⟨rfl, rfl, rfl, rfl, rfl, rfl, rfl, rfl, rfl, rfl, rfl, rfl, rfl, rfl⟩

/-! ### The record written, and its neighbours -/

@[simp] theorem State.modReg_reg (s : State) (r q : RegNo) (f : CallRegister → CallRegister) :
    (s.modReg r f).reg q = if q = r then f (s.reg r) else s.reg q := tget_tmod _ _ _ _

@[simp] theorem State.modLine_line (s : State) (n m : LineNo) (f : LineRec → LineRec) :
    (s.modLine n f).line m = if m = n then f (s.line n) else s.line m := tget_tmod _ _ _ _

@[simp] theorem State.modTrunk_trunk (s : State) (i j : TrunkNo) (f : TrunkRec → TrunkRec) :
    (s.modTrunk i f).trunk j = if j = i then f (s.trunk i) else s.trunk j := tget_tmod _ _ _ _

@[simp] theorem State.modLine_trunk (s : State) (n : LineNo) (j : TrunkNo) (f : LineRec → LineRec) :
    (s.modLine n f).trunk j = s.trunk j := rfl

@[simp] theorem State.modTrunk_line (s : State) (i : TrunkNo) (m : LineNo) (f : TrunkRec → TrunkRec) :
    (s.modTrunk i f).line m = s.line m := rfl

@[simp] theorem State.modLine_queues (s : State) (n : LineNo) (f : LineRec → LineRec) :
    (s.modLine n f).scan.queue = s.scan.queue ∧ (s.modLine n f).scan.deferred = s.scan.deferred ∧
      (s.modLine n f).scan.answers = s.scan.answers := ⟨rfl, rfl, rfl⟩

@[simp] theorem State.modTrunk_queues (s : State) (i : TrunkNo) (f : TrunkRec → TrunkRec) :
    (s.modTrunk i f).scan.queue = s.scan.queue ∧ (s.modTrunk i f).scan.deferred = s.scan.deferred ∧
      (s.modTrunk i f).scan.answers = s.scan.answers := ⟨rfl, rfl, rfl⟩

@[simp] theorem State.setReceiver_receiver (s : State) (k j : ReceiverNo) (x : Receiver) :
    (s.setReceiver k x).receiver j = if j = k then x else s.receiver j := tget_tset _ _ _ _

@[simp] theorem State.setSender_sender (s : State) (k j : SenderNo) (x : Sender) :
    (s.setSender k x).sender j = if j = k then x else s.sender j := tget_tset _ _ _ _

@[simp] theorem State.setElem_elem (s : State) (e d : ElemNo) (x : ElemState) :
    (s.setElem e x).elem d = if d = e then x else s.elem d := tget_tset _ _ _ _

theorem subjectIndex_injective {x y : Subject} (h : subjectIndex x = subjectIndex y) : x = y := by
  cases x with
  | register r =>
    cases y with
    | register q => simpa [subjectIndex, Fin.ext_iff] using h
    | maintenance =>
      have := congrArg Fin.val h
      simp [subjectIndex] at this
      omega
  | maintenance =>
    cases y with
    | register q =>
      have := congrArg Fin.val h
      simp [subjectIndex] at this
      omega
    | maintenance => rfl

@[simp] theorem State.modSubject_subject (s : State) (x y : Subject) (f : SubjectRec → SubjectRec) :
    (s.modSubject x f).subject y = if y = x then f (s.subject x) else s.subject y := by
  by_cases h : y = x
  · subst h; simp [State.modSubject, State.subject]
  · have : subjectIndex y ≠ subjectIndex x := fun e => h (subjectIndex_injective e)
    simp [State.modSubject, State.subject, tget_tmod_of_ne _ _ this, h]

@[simp] theorem State.modSubject_att (s : State) (x : Subject) (f : SubjectRec → SubjectRec) :
    (s.modSubject x f).att.queue = s.att.queue ∧ (s.modSubject x f).att.portA = s.att.portA ∧
      (s.modSubject x f).att.portB = s.att.portB ∧ (s.modSubject x f).att.lastTimeout = s.att.lastTimeout ∧
      (s.modSubject x f).att.lastRestart = s.att.lastRestart := ⟨rfl, rfl, rfl, rfl, rfl⟩

@[simp] theorem Attention.setPort_port (a : Attention) (x y : Side) (p : ControllerPort) :
    (a.setPort x p).port y = if y = x then p else a.port y := by cases x <;> cases y <;> rfl

@[simp] theorem Attention.setPort_rest (a : Attention) (x : Side) (p : ControllerPort) :
    (a.setPort x p).subjects = a.subjects ∧ (a.setPort x p).queue = a.queue ∧ (a.setPort x p).lastTimeout = a.lastTimeout ∧
      (a.setPort x p).lastRestart = a.lastRestart := by cases x <;> exact ⟨rfl, rfl, rfl, rfl⟩

@[simp] theorem State.modPort_port (s : State) (x y : Side) (f : ControllerPort → ControllerPort) :
    (s.modPort x f).att.port y = if y = x then f (s.att.port x) else s.att.port y := by simp [State.modPort]

@[simp] theorem State.modPort_subject (s : State) (x : Side) (j : Subject) (f : ControllerPort → ControllerPort) :
    (s.modPort x f).subject j = s.subject j := by simp [State.modPort, State.subject]

@[simp] theorem State.modPort_queue (s : State) (x : Side) (f : ControllerPort → ControllerPort) :
    (s.modPort x f).att.queue = s.att.queue := by simp [State.modPort]

@[simp] theorem LinkPorts.get_put (l : LinkPorts) (p q : Port) (x : LinkPort) :
    (l.put p x).get q = if q = p then x else l.get q := by
  rcases p with (_ | _) | _ <;> rcases q with (_ | _) | _ <;> rfl

@[simp] theorem State.setPhase_link (s : State) (p q : Port) (x : LinkPhase) :
    (s.setPhase p x).link q = if q = p then { s.link p with phase := x } else s.link q := LinkPorts.get_put _ _ _ _

/-- R192: what sending a response does to the links. -/
@[simp] theorem State.answer_link (s : State) (p q : Port) (x : Response) :
    (s.answer p x).link q = if q = p then { s.link p with phase := .answering x.bytes none } else s.link q :=
  State.setPhase_link _ _ _ _

end Sys2Proof.Machine
end

