-- ==== Sys2Proof/Laws/Ops.lean ====
section
/-! SUPPORT. What each shared operation of Machine/Ops.lean leaves alone: one lemma per operation, a conjunction over the fields of
the state that it does not touch. -/

namespace Sys2Proof.Machine

@[simp] theorem State.setWaiting_frame (s : State) (t : Terminal) (d : Bool) (x : Option Nat) :
    (s.setWaiting t d x).regs = s.regs ∧ (s.setWaiting t d x).receivers = s.receivers ∧
      (s.setWaiting t d x).trans = s.trans ∧ (s.setWaiting t d x).net = s.net ∧
      (s.setWaiting t d x).orders = s.orders ∧ (s.setWaiting t d x).sig = s.sig ∧
      (s.setWaiting t d x).tariff = s.tariff ∧ (s.setWaiting t d x).store = s.store ∧
      (s.setWaiting t d x).tickets = s.tickets ∧ (s.setWaiting t d x).att = s.att ∧
      (s.setWaiting t d x).links = s.links ∧ (s.setWaiting t d x).restartLine = s.restartLine ∧
      (s.setWaiting t d x).draws = s.draws ∧ (s.setWaiting t d x).pending = s.pending := by
  cases t <;> simp [State.setWaiting]

@[simp] theorem State.setElems_frame (s : State) (es : List ElemNo) (x : ElemState) :
    (s.setElems es x).regs = s.regs ∧ (s.setElems es x).scan = s.scan ∧
      (s.setElems es x).receivers = s.receivers ∧ (s.setElems es x).trans = s.trans ∧
      (s.setElems es x).orders = s.orders ∧ (s.setElems es x).sig = s.sig ∧ (s.setElems es x).tariff = s.tariff ∧
      (s.setElems es x).store = s.store ∧ (s.setElems es x).tickets = s.tickets ∧ (s.setElems es x).att = s.att ∧
      (s.setElems es x).links = s.links ∧ (s.setElems es x).restartLine = s.restartLine ∧
      (s.setElems es x).draws = s.draws ∧ (s.setElems es x).pending = s.pending := by
  unfold State.setElems
  induction es generalizing s with
  | nil => simp
  | cons e es ih => simpa using ih (s.setElem e x)

@[simp] theorem State.enqueue_frame (s : State) (x : Subject) :
    (s.enqueue x).regs = s.regs ∧ (s.enqueue x).scan = s.scan ∧ (s.enqueue x).receivers = s.receivers ∧
      (s.enqueue x).trans = s.trans ∧ (s.enqueue x).net = s.net ∧ (s.enqueue x).orders = s.orders ∧
      (s.enqueue x).sig = s.sig ∧ (s.enqueue x).tariff = s.tariff ∧ (s.enqueue x).store = s.store ∧
      (s.enqueue x).tickets = s.tickets ∧ (s.enqueue x).links = s.links ∧
      (s.enqueue x).restartLine = s.restartLine ∧ (s.enqueue x).draws = s.draws ∧ (s.enqueue x).pending = s.pending := by
  unfold State.enqueue; split <;> simp

@[simp] theorem State.post_frame (s : State) (x : Subject) (k : EventKind) :
    (s.post x k).regs = s.regs ∧ (s.post x k).scan = s.scan ∧ (s.post x k).receivers = s.receivers ∧
      (s.post x k).trans = s.trans ∧ (s.post x k).net = s.net ∧ (s.post x k).orders = s.orders ∧
      (s.post x k).sig = s.sig ∧ (s.post x k).tariff = s.tariff ∧ (s.post x k).store = s.store ∧
      (s.post x k).tickets = s.tickets ∧ (s.post x k).links = s.links ∧ (s.post x k).restartLine = s.restartLine ∧
      (s.post x k).draws = s.draws ∧ (s.post x k).pending = s.pending := by
  unfold State.post; dsimp only; split <;> simp

@[simp] theorem State.returnBinding_frame (s : State) (x : Subject) :
    (s.returnBinding x).regs = s.regs ∧ (s.returnBinding x).scan = s.scan ∧
      (s.returnBinding x).receivers = s.receivers ∧ (s.returnBinding x).trans = s.trans ∧
      (s.returnBinding x).net = s.net ∧ (s.returnBinding x).orders = s.orders ∧ (s.returnBinding x).sig = s.sig ∧
      (s.returnBinding x).tariff = s.tariff ∧ (s.returnBinding x).store = s.store ∧
      (s.returnBinding x).tickets = s.tickets ∧ (s.returnBinding x).links = s.links ∧
      (s.returnBinding x).restartLine = s.restartLine ∧ (s.returnBinding x).draws = s.draws ∧
      (s.returnBinding x).pending = s.pending := by
  simp [State.returnBinding]

@[simp] theorem State.returnBindings_frame (s : State) (y : Side) :
    (s.returnBindings y).regs = s.regs ∧ (s.returnBindings y).scan = s.scan ∧
      (s.returnBindings y).receivers = s.receivers ∧ (s.returnBindings y).trans = s.trans ∧
      (s.returnBindings y).net = s.net ∧ (s.returnBindings y).orders = s.orders ∧ (s.returnBindings y).sig = s.sig ∧
      (s.returnBindings y).tariff = s.tariff ∧ (s.returnBindings y).store = s.store ∧
      (s.returnBindings y).tickets = s.tickets ∧ (s.returnBindings y).links = s.links ∧
      (s.returnBindings y).restartLine = s.restartLine ∧ (s.returnBindings y).draws = s.draws ∧
      (s.returnBindings y).pending = s.pending := by
  unfold State.returnBindings
  generalize allSubjects = l
  induction l generalizing s with
  | nil => simp
  | cons x l ih =>
    have h := ih (if s.handler x = some y then s.returnBinding x else s)
    rw [List.foldl_cons]
    split at h <;> simp_all

@[simp] theorem State.fence_frame (s : State) (y : Side) :
    (s.fence y).regs = s.regs ∧ (s.fence y).scan = s.scan ∧ (s.fence y).receivers = s.receivers ∧
      (s.fence y).trans = s.trans ∧ (s.fence y).net = s.net ∧ (s.fence y).orders = s.orders ∧
      (s.fence y).sig = s.sig ∧ (s.fence y).tariff = s.tariff ∧ (s.fence y).store = s.store ∧
      (s.fence y).tickets = s.tickets ∧ (s.fence y).links = s.links ∧ (s.fence y).restartLine = s.restartLine ∧
      (s.fence y).draws = s.draws ∧ (s.fence y).pending = s.pending := by
  simp [State.fence]

@[simp] theorem State.strike_frame (s : State) (y : Side) :
    (s.strike y).regs = s.regs ∧ (s.strike y).scan = s.scan ∧ (s.strike y).receivers = s.receivers ∧
      (s.strike y).trans = s.trans ∧ (s.strike y).net = s.net ∧ (s.strike y).orders = s.orders ∧
      (s.strike y).sig = s.sig ∧ (s.strike y).tariff = s.tariff ∧ (s.strike y).store = s.store ∧
      (s.strike y).tickets = s.tickets ∧ (s.strike y).links = s.links ∧ (s.strike y).restartLine = s.restartLine ∧
      (s.strike y).draws = s.draws ∧ (s.strike y).pending = s.pending := by
  unfold State.strike; dsimp only; split <;> simp

@[simp] theorem State.sendDialTone_frame (s : State) (n : LineNo) (on : Bool) :
    (s.sendDialTone n on).regs = s.regs ∧ (s.sendDialTone n on).scan = s.scan ∧
      (s.sendDialTone n on).receivers = s.receivers ∧ (s.sendDialTone n on).trans = s.trans ∧
      (s.sendDialTone n on).net = s.net ∧ (s.sendDialTone n on).orders = s.orders ∧
      (s.sendDialTone n on).tariff = s.tariff ∧ (s.sendDialTone n on).store = s.store ∧
      (s.sendDialTone n on).tickets = s.tickets ∧ (s.sendDialTone n on).att = s.att ∧
      (s.sendDialTone n on).links = s.links ∧ (s.sendDialTone n on).restartLine = s.restartLine ∧
      (s.sendDialTone n on).draws = s.draws ∧ (s.sendDialTone n on).pending = s.pending := by
  unfold State.sendDialTone; split <;> simp

@[simp] theorem State.sendRinging_frame (s : State) (n : LineNo) (p : Option Party) :
    (s.sendRinging n p).regs = s.regs ∧ (s.sendRinging n p).scan = s.scan ∧
      (s.sendRinging n p).receivers = s.receivers ∧ (s.sendRinging n p).trans = s.trans ∧
      (s.sendRinging n p).net = s.net ∧ (s.sendRinging n p).orders = s.orders ∧
      (s.sendRinging n p).tariff = s.tariff ∧ (s.sendRinging n p).store = s.store ∧
      (s.sendRinging n p).tickets = s.tickets ∧ (s.sendRinging n p).att = s.att ∧
      (s.sendRinging n p).links = s.links ∧ (s.sendRinging n p).restartLine = s.restartLine ∧
      (s.sendRinging n p).draws = s.draws ∧ (s.sendRinging n p).pending = s.pending := by
  unfold State.sendRinging; split <;> simp

@[simp] theorem State.sendTone_frame (s : State) (t : Terminal) (x : Option Tone) :
    (s.sendTone t x).regs = s.regs ∧ (s.sendTone t x).scan = s.scan ∧ (s.sendTone t x).receivers = s.receivers ∧
      (s.sendTone t x).trans = s.trans ∧ (s.sendTone t x).net = s.net ∧ (s.sendTone t x).orders = s.orders ∧
      (s.sendTone t x).tariff = s.tariff ∧ (s.sendTone t x).store = s.store ∧ (s.sendTone t x).tickets = s.tickets ∧
      (s.sendTone t x).att = s.att ∧ (s.sendTone t x).links = s.links ∧
      (s.sendTone t x).restartLine = s.restartLine ∧ (s.sendTone t x).draws = s.draws ∧
      (s.sendTone t x).pending = s.pending := by
  unfold State.sendTone; split
  · simp
  · cases t <;> simp

@[simp] theorem State.sendSender_frame (s : State) (k : SenderNo) (x : SenderSignal) (o : LineOrder) :
    (s.sendSender k x o).regs = s.regs ∧ (s.sendSender k x o).scan = s.scan ∧
      (s.sendSender k x o).receivers = s.receivers ∧ (s.sendSender k x o).trans = s.trans ∧
      (s.sendSender k x o).net = s.net ∧ (s.sendSender k x o).orders = s.orders ∧
      (s.sendSender k x o).tariff = s.tariff ∧ (s.sendSender k x o).store = s.store ∧
      (s.sendSender k x o).tickets = s.tickets ∧ (s.sendSender k x o).att = s.att ∧
      (s.sendSender k x o).links = s.links ∧ (s.sendSender k x o).restartLine = s.restartLine ∧
      (s.sendSender k x o).draws = s.draws ∧ (s.sendSender k x o).pending = s.pending := by
  unfold State.sendSender; split <;> simp

@[simp] theorem State.sendSenderLoop_frame (s : State) (k : SenderNo) (x : Loop) :
    (s.sendSenderLoop k x).regs = s.regs ∧ (s.sendSenderLoop k x).scan = s.scan ∧
      (s.sendSenderLoop k x).receivers = s.receivers ∧ (s.sendSenderLoop k x).trans = s.trans ∧
      (s.sendSenderLoop k x).net = s.net ∧ (s.sendSenderLoop k x).orders = s.orders ∧
      (s.sendSenderLoop k x).tariff = s.tariff ∧ (s.sendSenderLoop k x).store = s.store ∧
      (s.sendSenderLoop k x).tickets = s.tickets ∧ (s.sendSenderLoop k x).att = s.att ∧
      (s.sendSenderLoop k x).links = s.links ∧ (s.sendSenderLoop k x).restartLine = s.restartLine ∧
      (s.sendSenderLoop k x).draws = s.draws ∧ (s.sendSenderLoop k x).pending = s.pending := by
  simp [State.sendSenderLoop]

@[simp] theorem State.sendSenderAttach_frame (s : State) (k : SenderNo) (o : OutNo) :
    (s.sendSenderAttach k o).regs = s.regs ∧ (s.sendSenderAttach k o).scan = s.scan ∧
      (s.sendSenderAttach k o).receivers = s.receivers ∧ (s.sendSenderAttach k o).trans = s.trans ∧
      (s.sendSenderAttach k o).net = s.net ∧ (s.sendSenderAttach k o).orders = s.orders ∧
      (s.sendSenderAttach k o).tariff = s.tariff ∧ (s.sendSenderAttach k o).store = s.store ∧
      (s.sendSenderAttach k o).tickets = s.tickets ∧ (s.sendSenderAttach k o).att = s.att ∧
      (s.sendSenderAttach k o).links = s.links ∧ (s.sendSenderAttach k o).restartLine = s.restartLine ∧
      (s.sendSenderAttach k o).draws = s.draws ∧ (s.sendSenderAttach k o).pending = s.pending := by
  simp [State.sendSenderAttach]

@[simp] theorem State.sendSenderDetach_frame (s : State) (k : SenderNo) :
    (s.sendSenderDetach k).regs = s.regs ∧ (s.sendSenderDetach k).scan = s.scan ∧
      (s.sendSenderDetach k).receivers = s.receivers ∧ (s.sendSenderDetach k).trans = s.trans ∧
      (s.sendSenderDetach k).net = s.net ∧ (s.sendSenderDetach k).orders = s.orders ∧
      (s.sendSenderDetach k).tariff = s.tariff ∧ (s.sendSenderDetach k).store = s.store ∧
      (s.sendSenderDetach k).tickets = s.tickets ∧ (s.sendSenderDetach k).att = s.att ∧
      (s.sendSenderDetach k).links = s.links ∧ (s.sendSenderDetach k).restartLine = s.restartLine ∧
      (s.sendSenderDetach k).draws = s.draws ∧ (s.sendSenderDetach k).pending = s.pending := by
  simp [State.sendSenderDetach]

@[simp] theorem State.originate_frame (s : State) (t : Terminal) :
    (s.originate t).regs = s.regs ∧ (s.originate t).receivers = s.receivers ∧ (s.originate t).trans = s.trans ∧
      (s.originate t).net = s.net ∧ (s.originate t).orders = s.orders ∧ (s.originate t).sig = s.sig ∧
      (s.originate t).tariff = s.tariff ∧ (s.originate t).store = s.store ∧ (s.originate t).tickets = s.tickets ∧
      (s.originate t).att = s.att ∧ (s.originate t).links = s.links ∧ (s.originate t).restartLine = s.restartLine ∧
      (s.originate t).draws = s.draws ∧ (s.originate t).pending = s.pending := by
  simp [State.originate]

@[simp] theorem State.toLockout_frame (s : State) (t : Terminal) :
    (s.toLockout t).regs = s.regs ∧ (s.toLockout t).receivers = s.receivers ∧ (s.toLockout t).trans = s.trans ∧
      (s.toLockout t).net = s.net ∧ (s.toLockout t).orders = s.orders ∧ (s.toLockout t).tariff = s.tariff ∧
      (s.toLockout t).store = s.store ∧ (s.toLockout t).tickets = s.tickets ∧ (s.toLockout t).links = s.links ∧
      (s.toLockout t).restartLine = s.restartLine ∧ (s.toLockout t).draws = s.draws ∧
      (s.toLockout t).pending = s.pending := by
  cases t <;> simp [State.toLockout]

@[simp] theorem State.toIdle_frame (s : State) (t : Terminal) :
    (s.toIdle t).regs = s.regs ∧ (s.toIdle t).receivers = s.receivers ∧ (s.toIdle t).trans = s.trans ∧
      (s.toIdle t).net = s.net ∧ (s.toIdle t).orders = s.orders ∧ (s.toIdle t).tariff = s.tariff ∧
      (s.toIdle t).store = s.store ∧ (s.toIdle t).tickets = s.tickets ∧ (s.toIdle t).att = s.att ∧
      (s.toIdle t).links = s.links ∧ (s.toIdle t).restartLine = s.restartLine ∧ (s.toIdle t).draws = s.draws ∧
      (s.toIdle t).pending = s.pending := by
  unfold State.toIdle; dsimp only; split <;> cases t <;> simp

@[simp] theorem State.leaveCall_frame (s : State) (t : Terminal) :
    (s.leaveCall t).regs = s.regs ∧ (s.leaveCall t).receivers = s.receivers ∧ (s.leaveCall t).trans = s.trans ∧
      (s.leaveCall t).net = s.net ∧ (s.leaveCall t).orders = s.orders ∧ (s.leaveCall t).tariff = s.tariff ∧
      (s.leaveCall t).store = s.store ∧ (s.leaveCall t).tickets = s.tickets ∧ (s.leaveCall t).links = s.links ∧
      (s.leaveCall t).restartLine = s.restartLine ∧ (s.leaveCall t).draws = s.draws ∧
      (s.leaveCall t).pending = s.pending := by
  unfold State.leaveCall; split <;> simp

@[simp] theorem State.promote_frame (s : State) :
    (s.promote).regs = s.regs ∧ (s.promote).receivers = s.receivers ∧ (s.promote).trans = s.trans ∧
      (s.promote).net = s.net ∧ (s.promote).orders = s.orders ∧ (s.promote).sig = s.sig ∧
      (s.promote).tariff = s.tariff ∧ (s.promote).store = s.store ∧ (s.promote).tickets = s.tickets ∧
      (s.promote).att = s.att ∧ (s.promote).links = s.links ∧ (s.promote).restartLine = s.restartLine ∧
      (s.promote).draws = s.draws ∧ (s.promote).pending = s.pending := by
  unfold State.promote; (repeat' split) <;> simp

@[simp] theorem State.seizeTerminal_frame (s : State) (e : Origin) (r : RegNo) :
    (s.seizeTerminal e r).regs = s.regs ∧ (s.seizeTerminal e r).receivers = s.receivers ∧
      (s.seizeTerminal e r).trans = s.trans ∧ (s.seizeTerminal e r).net = s.net ∧
      (s.seizeTerminal e r).orders = s.orders ∧ (s.seizeTerminal e r).tariff = s.tariff ∧
      (s.seizeTerminal e r).store = s.store ∧ (s.seizeTerminal e r).tickets = s.tickets ∧
      (s.seizeTerminal e r).att = s.att ∧ (s.seizeTerminal e r).links = s.links ∧
      (s.seizeTerminal e r).restartLine = s.restartLine ∧ (s.seizeTerminal e r).draws = s.draws ∧
      (s.seizeTerminal e r).pending = s.pending := by
  cases e <;> simp [State.seizeTerminal]

@[simp] theorem State.serveHead_frame (s : State) :
    (s.serveHead).trans = s.trans ∧ (s.serveHead).net = s.net ∧ (s.serveHead).orders = s.orders ∧
      (s.serveHead).tariff = s.tariff ∧ (s.serveHead).store = s.store ∧ (s.serveHead).tickets = s.tickets ∧
      (s.serveHead).att = s.att ∧ (s.serveHead).links = s.links ∧ (s.serveHead).restartLine = s.restartLine ∧
      (s.serveHead).draws = s.draws ∧ (s.serveHead).pending = s.pending := by
  unfold State.serveHead; split <;> simp

@[simp] theorem State.serve_frame (n : Nat) (s : State) :
    (State.serve n s).trans = s.trans ∧ (State.serve n s).net = s.net ∧ (State.serve n s).orders = s.orders ∧
      (State.serve n s).tariff = s.tariff ∧ (State.serve n s).store = s.store ∧
      (State.serve n s).tickets = s.tickets ∧ (State.serve n s).att = s.att ∧ (State.serve n s).links = s.links ∧
      (State.serve n s).restartLine = s.restartLine ∧ (State.serve n s).draws = s.draws ∧
      (State.serve n s).pending = s.pending := by
  induction n generalizing s with
  | zero => simp [State.serve]
  | succ n ih => simpa [State.serve] using ih s.serveHead

@[simp] theorem State.takeOrder_frame (s : State) :
    (s.takeOrder).regs = s.regs ∧ (s.takeOrder).scan = s.scan ∧ (s.takeOrder).receivers = s.receivers ∧
      (s.takeOrder).trans = s.trans ∧ (s.takeOrder).sig = s.sig ∧ (s.takeOrder).tariff = s.tariff ∧
      (s.takeOrder).store = s.store ∧ (s.takeOrder).tickets = s.tickets ∧ (s.takeOrder).att = s.att ∧
      (s.takeOrder).links = s.links ∧ (s.takeOrder).restartLine = s.restartLine ∧ (s.takeOrder).draws = s.draws ∧
      (s.takeOrder).pending = s.pending := by
  unfold State.takeOrder
  split
  · next o rest _ _ => cases o <;> simp
  · simp

@[simp] theorem State.settle_frame (s : State) :
    (s.settle).trans = s.trans ∧ (s.settle).net = s.net ∧ (s.settle).orders = s.orders ∧
      (s.settle).tariff = s.tariff ∧ (s.settle).store = s.store ∧
      (s.settle).tickets = s.tickets ∧ (s.settle).att = s.att ∧ (s.settle).links = s.links ∧
      (s.settle).restartLine = s.restartLine ∧ (s.settle).draws = s.draws ∧ (s.settle).pending = s.pending := by
  simp [State.settle]

@[simp] theorem State.copyMeter_frame (s : State) (i : Fin 1024) :
    (s.copyMeter i).regs = s.regs ∧ (s.copyMeter i).scan = s.scan ∧ (s.copyMeter i).receivers = s.receivers ∧
      (s.copyMeter i).trans = s.trans ∧ (s.copyMeter i).net = s.net ∧ (s.copyMeter i).orders = s.orders ∧
      (s.copyMeter i).sig = s.sig ∧ (s.copyMeter i).tariff = s.tariff ∧ (s.copyMeter i).tickets = s.tickets ∧
      (s.copyMeter i).att = s.att ∧ (s.copyMeter i).links = s.links ∧ (s.copyMeter i).restartLine = s.restartLine ∧
      (s.copyMeter i).draws = s.draws ∧ (s.copyMeter i).pending = s.pending := by
  unfold State.copyMeter; (repeat' split) <;> simp

@[simp] theorem State.raiseMeter_frame (s : State) (i : Fin 1024) (v : Nat) :
    (s.raiseMeter i v).regs = s.regs ∧ (s.raiseMeter i v).scan = s.scan ∧
      (s.raiseMeter i v).receivers = s.receivers ∧ (s.raiseMeter i v).trans = s.trans ∧
      (s.raiseMeter i v).net = s.net ∧ (s.raiseMeter i v).orders = s.orders ∧ (s.raiseMeter i v).sig = s.sig ∧
      (s.raiseMeter i v).tariff = s.tariff ∧ (s.raiseMeter i v).tickets = s.tickets ∧
      (s.raiseMeter i v).links = s.links ∧ (s.raiseMeter i v).restartLine = s.restartLine ∧
      (s.raiseMeter i v).draws = s.draws ∧ (s.raiseMeter i v).pending = s.pending := by
  unfold State.raiseMeter; dsimp only; split <;> simp

@[simp] theorem State.addUnit_frame (s : State) (i : Fin 1024) :
    (s.addUnit i).regs = s.regs ∧ (s.addUnit i).scan = s.scan ∧ (s.addUnit i).receivers = s.receivers ∧
      (s.addUnit i).trans = s.trans ∧ (s.addUnit i).net = s.net ∧ (s.addUnit i).orders = s.orders ∧
      (s.addUnit i).sig = s.sig ∧ (s.addUnit i).tariff = s.tariff ∧ (s.addUnit i).tickets = s.tickets ∧
      (s.addUnit i).links = s.links ∧ (s.addUnit i).restartLine = s.restartLine ∧ (s.addUnit i).draws = s.draws ∧
      (s.addUnit i).pending = s.pending := by
  simp [State.addUnit]

@[simp] theorem State.chargeUnit_frame (s : State) (r : RegNo) :
    (s.chargeUnit r).scan = s.scan ∧ (s.chargeUnit r).receivers = s.receivers ∧ (s.chargeUnit r).trans = s.trans ∧
      (s.chargeUnit r).net = s.net ∧ (s.chargeUnit r).orders = s.orders ∧ (s.chargeUnit r).sig = s.sig ∧
      (s.chargeUnit r).tariff = s.tariff ∧ (s.chargeUnit r).tickets = s.tickets ∧ (s.chargeUnit r).links = s.links ∧
      (s.chargeUnit r).restartLine = s.restartLine ∧ (s.chargeUnit r).draws = s.draws ∧
      (s.chargeUnit r).pending = s.pending := by
  unfold State.chargeUnit; dsimp only; (repeat' split) <;> simp

@[simp] theorem State.chargeUnits_frame (s : State) (r : RegNo) (n : Nat) :
    (s.chargeUnits r n).scan = s.scan ∧ (s.chargeUnits r n).receivers = s.receivers ∧
      (s.chargeUnits r n).trans = s.trans ∧ (s.chargeUnits r n).net = s.net ∧
      (s.chargeUnits r n).orders = s.orders ∧ (s.chargeUnits r n).sig = s.sig ∧
      (s.chargeUnits r n).tariff = s.tariff ∧ (s.chargeUnits r n).tickets = s.tickets ∧
      (s.chargeUnits r n).links = s.links ∧ (s.chargeUnits r n).restartLine = s.restartLine ∧
      (s.chargeUnits r n).draws = s.draws ∧ (s.chargeUnits r n).pending = s.pending := by
  induction n generalizing s with
  | zero => simp [State.chargeUnits]
  | succ n ih => simpa [State.chargeUnits] using ih (s.chargeUnit r)

@[simp] theorem State.startMetering_frame (s : State) (r : RegNo) :
    (s.startMetering r).scan = s.scan ∧ (s.startMetering r).receivers = s.receivers ∧
      (s.startMetering r).trans = s.trans ∧ (s.startMetering r).net = s.net ∧
      (s.startMetering r).orders = s.orders ∧ (s.startMetering r).sig = s.sig ∧
      (s.startMetering r).tariff = s.tariff ∧ (s.startMetering r).tickets = s.tickets ∧
      (s.startMetering r).links = s.links ∧ (s.startMetering r).restartLine = s.restartLine ∧
      (s.startMetering r).draws = s.draws ∧ (s.startMetering r).pending = s.pending := by
  unfold State.startMetering; split <;> simp

@[simp] theorem State.takeReservation_frame (s : State) (r : RegNo) :
    (s.takeReservation r).scan = s.scan ∧ (s.takeReservation r).receivers = s.receivers ∧
      (s.takeReservation r).trans = s.trans ∧ (s.takeReservation r).net = s.net ∧
      (s.takeReservation r).orders = s.orders ∧ (s.takeReservation r).sig = s.sig ∧
      (s.takeReservation r).tariff = s.tariff ∧ (s.takeReservation r).store = s.store ∧
      (s.takeReservation r).links = s.links ∧ (s.takeReservation r).restartLine = s.restartLine ∧
      (s.takeReservation r).draws = s.draws ∧ (s.takeReservation r).pending = s.pending := by
  unfold State.takeReservation; dsimp only; split <;> simp

@[simp] theorem State.returnReservation_frame (s : State) (r : RegNo) :
    (s.returnReservation r).scan = s.scan ∧ (s.returnReservation r).receivers = s.receivers ∧
      (s.returnReservation r).trans = s.trans ∧ (s.returnReservation r).net = s.net ∧
      (s.returnReservation r).orders = s.orders ∧ (s.returnReservation r).sig = s.sig ∧
      (s.returnReservation r).tariff = s.tariff ∧ (s.returnReservation r).store = s.store ∧
      (s.returnReservation r).att = s.att ∧ (s.returnReservation r).links = s.links ∧
      (s.returnReservation r).restartLine = s.restartLine ∧ (s.returnReservation r).draws = s.draws ∧
      (s.returnReservation r).pending = s.pending := by
  unfold State.returnReservation; split <;> simp

@[simp] theorem State.makeTicket_frame (s : State) (r : RegNo) (g : CallRegister) :
    (s.makeTicket r g).scan = s.scan ∧ (s.makeTicket r g).receivers = s.receivers ∧
      (s.makeTicket r g).trans = s.trans ∧ (s.makeTicket r g).net = s.net ∧ (s.makeTicket r g).orders = s.orders ∧
      (s.makeTicket r g).sig = s.sig ∧ (s.makeTicket r g).tariff = s.tariff ∧ (s.makeTicket r g).store = s.store ∧
      (s.makeTicket r g).att = s.att ∧ (s.makeTicket r g).links = s.links ∧
      (s.makeTicket r g).restartLine = s.restartLine ∧ (s.makeTicket r g).draws = s.draws ∧
      (s.makeTicket r g).pending = s.pending := by
  unfold State.makeTicket; split <;> simp

@[simp] theorem State.removeDialTone_frame (s : State) (r : RegNo) :
    (s.removeDialTone r).regs = s.regs ∧ (s.removeDialTone r).scan = s.scan ∧
      (s.removeDialTone r).receivers = s.receivers ∧ (s.removeDialTone r).trans = s.trans ∧
      (s.removeDialTone r).net = s.net ∧ (s.removeDialTone r).orders = s.orders ∧
      (s.removeDialTone r).tariff = s.tariff ∧ (s.removeDialTone r).store = s.store ∧
      (s.removeDialTone r).tickets = s.tickets ∧ (s.removeDialTone r).att = s.att ∧
      (s.removeDialTone r).links = s.links ∧ (s.removeDialTone r).restartLine = s.restartLine ∧
      (s.removeDialTone r).draws = s.draws ∧ (s.removeDialTone r).pending = s.pending := by
  unfold State.removeDialTone; split <;> simp

@[simp] theorem State.detachReceiver_frame (s : State) (r : RegNo) (quiet : Bool) :
    (s.detachReceiver r quiet).scan = s.scan ∧ (s.detachReceiver r quiet).trans = s.trans ∧
      (s.detachReceiver r quiet).net = s.net ∧ (s.detachReceiver r quiet).orders = s.orders ∧
      (s.detachReceiver r quiet).tariff = s.tariff ∧ (s.detachReceiver r quiet).store = s.store ∧
      (s.detachReceiver r quiet).tickets = s.tickets ∧ (s.detachReceiver r quiet).att = s.att ∧
      (s.detachReceiver r quiet).links = s.links ∧ (s.detachReceiver r quiet).restartLine = s.restartLine ∧
      (s.detachReceiver r quiet).draws = s.draws ∧ (s.detachReceiver r quiet).pending = s.pending := by
  unfold State.detachReceiver; dsimp only; (repeat' split) <;> simp

@[simp] theorem State.detachSender_frame (s : State) (k : SenderNo) :
    (s.detachSender k).scan = s.scan ∧ (s.detachSender k).receivers = s.receivers ∧
      (s.detachSender k).trans = s.trans ∧ (s.detachSender k).net = s.net ∧ (s.detachSender k).orders = s.orders ∧
      (s.detachSender k).tariff = s.tariff ∧ (s.detachSender k).store = s.store ∧
      (s.detachSender k).tickets = s.tickets ∧ (s.detachSender k).att = s.att ∧ (s.detachSender k).links = s.links ∧
      (s.detachSender k).restartLine = s.restartLine ∧ (s.detachSender k).draws = s.draws ∧
      (s.detachSender k).pending = s.pending := by
  unfold State.detachSender; split <;> simp

@[simp] theorem State.stopSender_frame (s : State) (r : RegNo) :
    (s.stopSender r).scan = s.scan ∧ (s.stopSender r).receivers = s.receivers ∧ (s.stopSender r).trans = s.trans ∧
      (s.stopSender r).net = s.net ∧ (s.stopSender r).orders = s.orders ∧ (s.stopSender r).tariff = s.tariff ∧
      (s.stopSender r).store = s.store ∧ (s.stopSender r).tickets = s.tickets ∧ (s.stopSender r).att = s.att ∧
      (s.stopSender r).links = s.links ∧ (s.stopSender r).restartLine = s.restartLine ∧
      (s.stopSender r).draws = s.draws ∧ (s.stopSender r).pending = s.pending := by
  unfold State.stopSender; split <;> simp

@[simp] theorem State.toneToCaller_frame (s : State) (r : RegNo) (x : Option Tone) :
    (s.toneToCaller r x).regs = s.regs ∧ (s.toneToCaller r x).scan = s.scan ∧
      (s.toneToCaller r x).receivers = s.receivers ∧ (s.toneToCaller r x).trans = s.trans ∧
      (s.toneToCaller r x).net = s.net ∧ (s.toneToCaller r x).orders = s.orders ∧
      (s.toneToCaller r x).tariff = s.tariff ∧ (s.toneToCaller r x).store = s.store ∧
      (s.toneToCaller r x).tickets = s.tickets ∧ (s.toneToCaller r x).att = s.att ∧
      (s.toneToCaller r x).links = s.links ∧ (s.toneToCaller r x).restartLine = s.restartLine ∧
      (s.toneToCaller r x).draws = s.draws ∧ (s.toneToCaller r x).pending = s.pending := by
  unfold State.toneToCaller; split <;> simp

@[simp] theorem State.enterTone_frame (s : State) (r : RegNo) (x : Tone) (c : ToneCause) :
    (s.enterTone r x c).scan = s.scan ∧ (s.enterTone r x c).trans = s.trans ∧ (s.enterTone r x c).net = s.net ∧
      (s.enterTone r x c).orders = s.orders ∧ (s.enterTone r x c).tariff = s.tariff ∧
      (s.enterTone r x c).store = s.store ∧ (s.enterTone r x c).tickets = s.tickets ∧
      (s.enterTone r x c).att = s.att ∧ (s.enterTone r x c).links = s.links ∧
      (s.enterTone r x c).restartLine = s.restartLine ∧ (s.enterTone r x c).draws = s.draws ∧
      (s.enterTone r x c).pending = s.pending := by
  simp [State.enterTone]

@[simp] theorem State.enterEnded_frame (s : State) (r : RegNo) :
    (s.enterEnded r).scan = s.scan ∧ (s.enterEnded r).receivers = s.receivers ∧ (s.enterEnded r).trans = s.trans ∧
      (s.enterEnded r).net = s.net ∧ (s.enterEnded r).orders = s.orders ∧ (s.enterEnded r).sig = s.sig ∧
      (s.enterEnded r).tariff = s.tariff ∧ (s.enterEnded r).store = s.store ∧ (s.enterEnded r).tickets = s.tickets ∧
      (s.enterEnded r).links = s.links ∧ (s.enterEnded r).restartLine = s.restartLine ∧
      (s.enterEnded r).draws = s.draws ∧ (s.enterEnded r).pending = s.pending := by
  simp [State.enterEnded]

@[simp] theorem State.freeReg_frame (s : State) (r : RegNo) :
    (s.freeReg r).scan = s.scan ∧ (s.freeReg r).receivers = s.receivers ∧ (s.freeReg r).net = s.net ∧
      (s.freeReg r).orders = s.orders ∧ (s.freeReg r).sig = s.sig ∧ (s.freeReg r).tariff = s.tariff ∧
      (s.freeReg r).store = s.store ∧ (s.freeReg r).tickets = s.tickets ∧ (s.freeReg r).att = s.att ∧
      (s.freeReg r).links = s.links ∧ (s.freeReg r).restartLine = s.restartLine ∧ (s.freeReg r).draws = s.draws ∧
      (s.freeReg r).pending = s.pending := by
  unfold State.freeReg; split <;> simp

@[simp] theorem State.answerCall_frame (s : State) (r : RegNo) :
    (s.answerCall r).receivers = s.receivers ∧ (s.answerCall r).trans = s.trans ∧ (s.answerCall r).net = s.net ∧
      (s.answerCall r).orders = s.orders ∧ (s.answerCall r).tariff = s.tariff ∧
      (s.answerCall r).tickets = s.tickets ∧ (s.answerCall r).links = s.links ∧
      (s.answerCall r).restartLine = s.restartLine ∧ (s.answerCall r).draws = s.draws ∧
      (s.answerCall r).pending = s.pending := by
  unfold State.answerCall; dsimp only; (repeat' split) <;> simp

@[simp] theorem State.stopParts_frame (s : State) (r : RegNo) (was : RegState) :
    (s.stopParts r was).scan = s.scan ∧ (s.stopParts r was).receivers = s.receivers ∧
      (s.stopParts r was).trans = s.trans ∧ (s.stopParts r was).net = s.net ∧
      (s.stopParts r was).orders = s.orders ∧ (s.stopParts r was).tariff = s.tariff ∧
      (s.stopParts r was).store = s.store ∧ (s.stopParts r was).tickets = s.tickets ∧
      (s.stopParts r was).att = s.att ∧ (s.stopParts r was).links = s.links ∧
      (s.stopParts r was).restartLine = s.restartLine ∧ (s.stopParts r was).draws = s.draws ∧
      (s.stopParts r was).pending = s.pending := by
  unfold State.stopParts; dsimp only; (repeat' split) <;> simp

@[simp] theorem State.endRoles_frame (s : State) (r : RegNo) (c : EndCause) :
    (s.endRoles r c).regs = s.regs ∧ (s.endRoles r c).receivers = s.receivers ∧ (s.endRoles r c).trans = s.trans ∧
      (s.endRoles r c).net = s.net ∧ (s.endRoles r c).orders = s.orders ∧ (s.endRoles r c).tariff = s.tariff ∧
      (s.endRoles r c).store = s.store ∧ (s.endRoles r c).tickets = s.tickets ∧ (s.endRoles r c).links = s.links ∧
      (s.endRoles r c).restartLine = s.restartLine ∧ (s.endRoles r c).draws = s.draws ∧
      (s.endRoles r c).pending = s.pending := by
  unfold State.endRoles; dsimp only; (repeat' split) <;> simp

@[simp] theorem State.settleReservation_frame (s : State) (r : RegNo) (g : CallRegister) :
    (s.settleReservation r g).scan = s.scan ∧ (s.settleReservation r g).receivers = s.receivers ∧
      (s.settleReservation r g).trans = s.trans ∧ (s.settleReservation r g).net = s.net ∧
      (s.settleReservation r g).orders = s.orders ∧ (s.settleReservation r g).sig = s.sig ∧
      (s.settleReservation r g).tariff = s.tariff ∧ (s.settleReservation r g).store = s.store ∧
      (s.settleReservation r g).att = s.att ∧ (s.settleReservation r g).links = s.links ∧
      (s.settleReservation r g).restartLine = s.restartLine ∧ (s.settleReservation r g).draws = s.draws ∧
      (s.settleReservation r g).pending = s.pending := by
  unfold State.settleReservation; split <;> simp

@[simp] theorem State.withdrawOperate_frame (s : State) (r : RegNo) :
    (s.withdrawOperate r).regs = s.regs ∧ (s.withdrawOperate r).scan = s.scan ∧
      (s.withdrawOperate r).receivers = s.receivers ∧ (s.withdrawOperate r).trans = s.trans ∧
      (s.withdrawOperate r).sig = s.sig ∧ (s.withdrawOperate r).tariff = s.tariff ∧
      (s.withdrawOperate r).store = s.store ∧ (s.withdrawOperate r).tickets = s.tickets ∧
      (s.withdrawOperate r).att = s.att ∧ (s.withdrawOperate r).links = s.links ∧
      (s.withdrawOperate r).restartLine = s.restartLine ∧ (s.withdrawOperate r).draws = s.draws ∧
      (s.withdrawOperate r).pending = s.pending := by
  simp [State.withdrawOperate]

@[simp] theorem State.releasePath_frame (s : State) (r : RegNo) (was : RegState) :
    (s.releasePath r was).scan = s.scan ∧ (s.releasePath r was).receivers = s.receivers ∧
      (s.releasePath r was).trans = s.trans ∧ (s.releasePath r was).sig = s.sig ∧
      (s.releasePath r was).tariff = s.tariff ∧ (s.releasePath r was).store = s.store ∧
      (s.releasePath r was).tickets = s.tickets ∧ (s.releasePath r was).links = s.links ∧
      (s.releasePath r was).restartLine = s.restartLine ∧ (s.releasePath r was).draws = s.draws ∧
      (s.releasePath r was).pending = s.pending := by
  unfold State.releasePath; dsimp only; (repeat' split) <;> simp

@[simp] theorem State.release_frame (s : State) (r : RegNo) (c : EndCause) :
    (s.release r c).receivers = s.receivers ∧ (s.release r c).trans = s.trans ∧
      (s.release r c).tariff = s.tariff ∧ (s.release r c).store = s.store ∧ (s.release r c).links = s.links ∧
      (s.release r c).restartLine = s.restartLine ∧ (s.release r c).draws = s.draws ∧
      (s.release r c).pending = s.pending := by
  unfold State.release; dsimp only; split <;> simp

@[simp] theorem State.endDialing_frame (s : State) (r : RegNo) (c : EndCause) :
    (s.endDialing r c).trans = s.trans ∧ (s.endDialing r c).net = s.net ∧ (s.endDialing r c).orders = s.orders ∧
      (s.endDialing r c).tariff = s.tariff ∧ (s.endDialing r c).store = s.store ∧
      (s.endDialing r c).links = s.links ∧ (s.endDialing r c).restartLine = s.restartLine ∧
      (s.endDialing r c).draws = s.draws ∧ (s.endDialing r c).pending = s.pending := by
  unfold State.endDialing; dsimp only; (repeat' split) <;> simp

@[simp] theorem State.openAtDetachment_frame (s : State) (r : RegNo) :
    (s.openAtDetachment r).receivers = s.receivers ∧ (s.openAtDetachment r).trans = s.trans ∧
      (s.openAtDetachment r).tariff = s.tariff ∧ (s.openAtDetachment r).store = s.store ∧
      (s.openAtDetachment r).links = s.links ∧ (s.openAtDetachment r).restartLine = s.restartLine ∧
      (s.openAtDetachment r).draws = s.draws ∧ (s.openAtDetachment r).pending = s.pending := by
  unfold State.openAtDetachment; (repeat' split) <;> simp

end Sys2Proof.Machine
end

