-- ==== Sys2Proof/Laws/Attention.lean ====
section
/-! SUPPORT. What the shared operations do to the Attention Unit: they post events and nothing else (R172). `Posts a b` says that
the Attention Unit `b` is `a` after some postings. -/

namespace Sys2Proof.Machine

/-- `b` is the Attention Unit `a` after some postings. -/
inductive Posts : Attention → Attention → Prop where
  | refl (a : Attention) : Posts a a
  | step {a : Attention} (s : State) (x : Subject) (k : EventKind) (h : Posts a s.att) : Posts a (s.post x k).att

/-- What every posting keeps, postings keep. -/
theorem Posts.keeps {P : Attention → Prop} (hp : ∀ (s : State) x k, P s.att → P (s.post x k).att) {a b : Attention}
    (h : Posts a b) (ha : P a) : P b := by
  induction h with
  | refl => exact ha
  | step s x k _ ih => exact hp s x k ih

@[simp] theorem State.post_posts {a : Attention} (s : State) (x : Subject) (k : EventKind) (h : Posts a s.att) :
    Posts a (s.post x k).att := .step s x k h

theorem foldl_posts {ι : Type} {a : Attention} (f : State → ι → State) (hf : ∀ s i, Posts a s.att → Posts a (f s i).att)
    (l : List ι) (s : State) (h : Posts a s.att) : Posts a (l.foldl f s).att := foldl_keeps f (fun t => Posts a t.att) hf l s h

@[simp] theorem State.toLockout_posts {a : Attention} (s : State) (t : Terminal) (h : Posts a s.att) :
    Posts a (s.toLockout t).att := by
  cases t <;> simp [State.toLockout, h]

@[simp] theorem State.leaveCall_posts {a : Attention} (s : State) (t : Terminal) (h : Posts a s.att) :
    Posts a (s.leaveCall t).att := by
  unfold State.leaveCall; split <;> simp [h]

@[simp] theorem State.raiseMeter_posts {a : Attention} (s : State) (i : Fin 1024) (v : Nat) (h : Posts a s.att) :
    Posts a (s.raiseMeter i v).att := by
  unfold State.raiseMeter; try dsimp only
  (repeat' split) <;> simp [h]

@[simp] theorem State.addUnit_posts {a : Attention} (s : State) (i : Fin 1024) (h : Posts a s.att) :
    Posts a (s.addUnit i).att := by
  simp [State.addUnit, h]

@[simp] theorem State.chargeUnit_posts {a : Attention} (s : State) (r : RegNo) (h : Posts a s.att) :
    Posts a (s.chargeUnit r).att := by
  unfold State.chargeUnit; try dsimp only
  (repeat' split) <;> simp [h]

@[simp] theorem State.chargeUnits_posts {a : Attention} (s : State) (r : RegNo) (n : Nat) (h : Posts a s.att) :
    Posts a (s.chargeUnits r n).att := by
  induction n generalizing s with
  | zero => simpa [State.chargeUnits] using h
  | succ n ih => exact ih _ (State.chargeUnit_posts _ _ h)

@[simp] theorem State.startMetering_posts {a : Attention} (s : State) (r : RegNo) (h : Posts a s.att) :
    Posts a (s.startMetering r).att := by
  unfold State.startMetering; try dsimp only
  (repeat' split) <;> simp [h]

@[simp] theorem State.takeReservation_posts {a : Attention} (s : State) (r : RegNo) (h : Posts a s.att) :
    Posts a (s.takeReservation r).att := by
  unfold State.takeReservation; try dsimp only
  (repeat' split) <;> simp [h]

@[simp] theorem State.enterEnded_posts {a : Attention} (s : State) (r : RegNo) (h : Posts a s.att) :
    Posts a (s.enterEnded r).att := by
  simp [State.enterEnded, h]

@[simp] theorem State.answerCall_posts {a : Attention} (s : State) (r : RegNo) (h : Posts a s.att) :
    Posts a (s.answerCall r).att := by
  unfold State.answerCall; try dsimp only
  (repeat' split) <;> simp [h]

@[simp] theorem State.endRoles_posts {a : Attention} (s : State) (r : RegNo) (c : EndCause) (h : Posts a s.att) :
    Posts a (s.endRoles r c).att := by
  unfold State.endRoles; try dsimp only
  (repeat' split) <;> simp [h]

@[simp] theorem State.releasePath_posts {a : Attention} (s : State) (r : RegNo) (was : RegState) (h : Posts a s.att) :
    Posts a (s.releasePath r was).att := by
  unfold State.releasePath; try dsimp only
  (repeat' split) <;> simp [h]

@[simp] theorem State.release_posts {a : Attention} (s : State) (r : RegNo) (c : EndCause) (h : Posts a s.att) :
    Posts a (s.release r c).att := by
  unfold State.release; try dsimp only
  (repeat' split) <;> simp [h]

@[simp] theorem State.endDialing_posts {a : Attention} (s : State) (r : RegNo) (c : EndCause) (h : Posts a s.att) :
    Posts a (s.endDialing r c).att := by
  unfold State.endDialing; try dsimp only
  (repeat' split) <;> simp [h]

@[simp] theorem State.openAtDetachment_posts {a : Attention} (s : State) (r : RegNo) (h : Posts a s.att) :
    Posts a (s.openAtDetachment r).att := by
  unfold State.openAtDetachment; try dsimp only
  (repeat' split) <;> simp [h]

@[simp] theorem State.giveUpCalled_posts {a : Attention} (s : State) (r : RegNo) (h : Posts a s.att) :
    Posts a (s.giveUpCalled r).att := by
  unfold State.giveUpCalled; try dsimp only
  (repeat' split) <;> simp [h]

@[simp] theorem State.toneExpiry_posts {a : Attention} (s : State) (r : RegNo) (h : Posts a s.att) :
    Posts a (s.toneExpiry r).att := by
  unfold State.toneExpiry; try dsimp only
  (repeat' split) <;> simp [h]

@[simp] theorem State.waitExpiry_posts {a : Attention} (s : State) (t : Terminal) (h : Posts a s.att) :
    Posts a (s.waitExpiry t).att := by
  unfold State.waitExpiry; try dsimp only
  (repeat' split) <;> simp [h]

@[simp] theorem State.refuseString_posts {a : Attention} (s : State) (r : RegNo) (x : Tone) (c : ToneCause) (k : EventKind) (h : Posts a s.att) :
    Posts a (s.refuseString r x c k).att := by
  simp [State.refuseString, h]

@[simp] theorem State.refuseVacant_posts {a : Attention} (s : State) (r : RegNo) (h : Posts a s.att) :
    Posts a (s.refuseVacant r).att := by
  simp [State.refuseVacant, h]

@[simp] theorem State.completeString_posts {a : Attention} (s : State) (r : RegNo) (h : Posts a s.att) :
    Posts a (s.completeString r).att := by
  simp [State.completeString, h]

@[simp] theorem State.recordRoute_posts {a : Attention} (s : State) (r : RegNo) (t : RouteNo) (h : Posts a s.att) :
    Posts a (s.recordRoute r t).att := by
  unfold State.recordRoute; try dsimp only
  (repeat' split) <;> simp [h]

@[simp] theorem State.routeResult_posts {a : Attention} (s : State) (r : RegNo) (t : RouteNo) (h : Posts a s.att) :
    Posts a (s.routeResult r t).att := by
  unfold State.routeResult; try dsimp only
  (repeat' split) <;> simp [h]

@[simp] theorem State.directoryDigit_posts {a : Attention} (s : State) (r : RegNo) (h : Posts a s.att) :
    Posts a (s.directoryDigit r).att := by
  unfold State.directoryDigit; try dsimp only
  (repeat' split) <;> simp [h]

@[simp] theorem State.translate_posts {a : Attention} (s : State) (r : RegNo) (d : Digit) (h : Posts a s.att) :
    Posts a (s.translate r d).att := by
  unfold State.translate; try dsimp only
  (repeat' split) <;> simp [h]

@[simp] theorem State.endDigit_posts {a : Attention} (s : State) (k : ReceiverNo) (x : Attachment) (h : Posts a s.att) :
    Posts a (s.endDigit k x).att := by
  unfold State.endDigit; try dsimp only
  (repeat' split) <;> simp [h]

@[simp] theorem State.takeReceiver_posts {a : Attention} (s : State) (k : ReceiverNo) (h : Posts a s.att) :
    Posts a (s.takeReceiver k).att := by
  unfold State.takeReceiver; try dsimp only
  (repeat' split) <;> simp [h]

@[simp] theorem State.dialExpiry_posts {a : Attention} (s : State) (r : RegNo) (h : Posts a s.att) :
    Posts a (s.dialExpiry r).att := by
  unfold State.dialExpiry; try dsimp only
  (repeat' split) <;> simp [h]

@[simp] theorem State.endOfDialingExpiry_posts {a : Attention} (s : State) (r : RegNo) (h : Posts a s.att) :
    Posts a (s.endOfDialingExpiry r).att := by
  unfold State.endOfDialingExpiry; try dsimp only
  (repeat' split) <;> simp [h]

@[simp] theorem State.digitError_posts {a : Attention} (s : State) (r : RegNo) (h : Posts a s.att) :
    Posts a (s.digitError r).att := by
  simp [State.digitError, h]

@[simp] theorem State.beginBreak_posts {a : Attention} (s : State) (k : ReceiverNo) (h : Posts a s.att) :
    Posts a (s.beginBreak k).att := by
  unfold State.beginBreak; try dsimp only
  (repeat' split) <;> simp [h]

@[simp] theorem State.endBreak_posts {a : Attention} (s : State) (k : ReceiverNo) (h : Posts a s.att) :
    Posts a (s.endBreak k).att := by
  unfold State.endBreak; try dsimp only
  (repeat' split) <;> simp [h]

@[simp] theorem State.takePath_posts {a : Attention} (s : State) (r : RegNo) (f : Found) (c : Option LineNo) (b : Bool) (h : Posts a s.att) :
    Posts a (s.takePath r f c b).att := by
  unfold State.takePath; try dsimp only
  (repeat' split) <;> simp [h]

@[simp] theorem State.applyChecks_posts {a : Attention} (s : State) (r : RegNo) (good bad : List ElemNo) (x : ElemState) (h : Posts a s.att) :
    Posts a (s.applyChecks r good bad x).att := by
  simp [State.applyChecks, h]

@[simp] theorem State.returnCalled_posts {a : Attention} (s : State) (r : RegNo) (h : Posts a s.att) :
    Posts a (s.returnCalled r).att := by
  unfold State.returnCalled; try dsimp only
  (repeat' split) <;> simp [h]

@[simp] theorem State.postFault_posts {a : Attention} (s : State) (bad : List ElemNo) (h : Posts a s.att) :
    Posts a (s.postFault bad).att := by
  unfold State.postFault; try dsimp only
  (repeat' split) <;> simp [h]

@[simp] theorem State.operateGood_posts {a : Attention} (s : State) (r : RegNo) (es : List ElemNo) (h : Posts a s.att) :
    Posts a (s.operateGood r es).att := by
  simp [State.operateGood, h]

@[simp] theorem State.operatePartly_posts {a : Attention} (s : State) (r : RegNo) (good bad : List ElemNo) (h : Posts a s.att) :
    Posts a (s.operatePartly r good bad).att := by
  exact State.postFault_posts _ _ (State.returnCalled_posts _ _ (by simp [h]))

@[simp] theorem State.operateBad_posts {a : Attention} (s : State) (r : RegNo) (bad : List ElemNo) (h : Posts a s.att) :
    Posts a (s.operateBad r bad).att := by
  exact State.postFault_posts _ _ (State.post_posts _ _ _ (by simp [h]))

@[simp] theorem State.operateCancelled_posts {a : Attention} (s : State) (r : RegNo) (good bad : List ElemNo) (h : Posts a s.att) :
    Posts a (s.operateCancelled r good bad).att := by
  unfold State.operateCancelled
  dsimp only
  refine State.postFault_posts _ _ ?_
  split <;> simp [h]

@[simp] theorem State.releaseDone_posts {a : Attention} (s : State) (r : RegNo) (good bad : List ElemNo) (h : Posts a s.att) :
    Posts a (s.releaseDone r good bad).att := by
  unfold State.releaseDone
  have h2 : Posts a ((((s.applyChecks r good bad .free).modReg r fun g => { g with path := Path.empty }).postFault bad)).att := by
    simp [h]
  dsimp only
  split <;> simp [h2]

@[simp] theorem State.networkClearDone_posts {a : Attention} (s : State) (bad : List ElemNo) (h : Posts a s.att) :
    Posts a (s.networkClearDone bad).att := by
  unfold State.networkClearDone; try dsimp only
  (repeat' split) <;> simp [h]

@[simp] theorem State.complete_posts {a : Attention} (s : State) (f : InFlight) (good : ElemNo → Bool) (h : Posts a s.att) :
    Posts a (s.complete f good).att := by
  unfold State.complete; try dsimp only
  (repeat' split) <;> simp [h]

@[simp] theorem State.takeCompletion_posts {a : Attention} (s : State) (c : Completion) (h : Posts a s.att) :
    Posts a (s.takeCompletion c).att := by
  unfold State.takeCompletion; try dsimp only
  (repeat' split) <;> simp [h]

@[simp] theorem State.driveExpiry_posts {a : Attention} (s : State) (h : Posts a s.att) :
    Posts a (s.driveExpiry).att := by
  unfold State.driveExpiry; try dsimp only
  (repeat' split) <;> simp [h]

@[simp] theorem State.awaitAnswer_posts {a : Attention} (s : State) (r : RegNo) (h : Posts a s.att) :
    Posts a (s.awaitAnswer r).att := by
  simp [State.awaitAnswer, h]

@[simp] theorem State.startRinging_posts {a : Attention} (s : State) (r : RegNo) (x : Subscriber) (h : Posts a s.att) :
    Posts a (s.startRinging r x).att := by
  unfold State.startRinging; try dsimp only
  (repeat' split) <;> simp [h]

@[simp] theorem State.senderBreak_posts {a : Attention} (s : State) (k : SenderNo) (b : Sending) (n : Nat) (h : Posts a s.att) :
    Posts a (s.senderBreak k b n).att := by
  simp [State.senderBreak, h]

@[simp] theorem State.senderPhase_posts {a : Attention} (s : State) (k : SenderNo) (h : Posts a s.att) :
    Posts a (s.senderPhase k).att := by
  unfold State.senderPhase; try dsimp only
  (repeat' split) <;> simp [h]

@[simp] theorem State.ringExpiry_posts {a : Attention} (s : State) (r : RegNo) (h : Posts a s.att) :
    Posts a (s.ringExpiry r).att := by
  unfold State.ringExpiry; try dsimp only
  (repeat' split) <;> simp [h]

@[simp] theorem State.answerWaitExpiry_posts {a : Attention} (s : State) (r : RegNo) (h : Posts a s.att) :
    Posts a (s.answerWaitExpiry r).att := by
  unfold State.answerWaitExpiry; try dsimp only
  (repeat' split) <;> simp [h]

@[simp] theorem State.calledReleaseExpiry_posts {a : Attention} (s : State) (r : RegNo) (h : Posts a s.att) :
    Posts a (s.calledReleaseExpiry r).att := by
  unfold State.calledReleaseExpiry; try dsimp only
  (repeat' split) <;> simp [h]

@[simp] theorem State.incomingClear_posts {a : Attention} (s : State) (i : TrunkNo) (h : Posts a s.att) :
    Posts a (s.incomingClear i).att := by
  unfold State.incomingClear; try dsimp only
  (repeat' split) <;> simp [h]

@[simp] theorem State.expirePeriod_posts {a : Attention} (s : State) (r : RegNo) (h : Posts a s.att) :
    Posts a (s.expirePeriod r).att := by
  simp [State.expirePeriod, h]

@[simp] theorem State.stepContext_posts {a : Attention} (s : State) (r : RegNo) (h : Posts a s.att) :
    Posts a (s.stepContext r).att := by
  unfold State.stepContext; try dsimp only
  (repeat' split) <;> simp [h]

@[simp] theorem State.acceptLoop_posts {a : Attention} (s : State) (t : Terminal) (h : Posts a s.att) :
    Posts a (s.acceptLoop t).att := by
  cases t <;> simp [State.acceptLoop, h]

@[simp] theorem State.toReceiver_posts {a : Attention} (s : State) (r : RegNo) (x : Loop) (h : Posts a s.att) :
    Posts a (s.toReceiver r x).att := by
  unfold State.toReceiver; try dsimp only
  (repeat' split) <;> simp [h]

@[simp] theorem State.callingLineChange_posts {a : Attention} (s : State) (r : RegNo) (x : Loop) (h : Posts a s.att) :
    Posts a (s.callingLineChange r x).att := by
  unfold State.callingLineChange; try dsimp only
  (repeat' split) <;> simp [h]

@[simp] theorem State.calledLineChange_posts {a : Attention} (s : State) (r : RegNo) (x : Loop) (h : Posts a s.att) :
    Posts a (s.calledLineChange r x).att := by
  cases x <;> simp [State.calledLineChange, h]

@[simp] theorem State.lineChange_posts {a : Attention} (s : State) (n : LineNo) (x : Loop) (h : Posts a s.att) :
    Posts a (s.lineChange n x).att := by
  unfold State.lineChange; try dsimp only
  (repeat' split) <;> simp [h]

@[simp] theorem State.busyTrunkChange_posts {a : Attention} (s : State) (i : TrunkNo) (r : RegNo) (x : Loop) (h : Posts a s.att) :
    Posts a (s.busyTrunkChange i r x).att := by
  unfold State.busyTrunkChange; try dsimp only
  (repeat' split) <;> simp [h]

@[simp] theorem State.trunkChange_posts {a : Attention} (s : State) (i : TrunkNo) (x : Loop) (h : Posts a s.att) :
    Posts a (s.trunkChange i x).att := by
  unfold State.trunkChange; try dsimp only
  (repeat' split) <;> simp [h]

@[simp] theorem State.terminalChange_posts {a : Attention} (s : State) (t : Terminal) (x : Loop) (h : Posts a s.att) :
    Posts a (s.terminalChange t x).att := by
  cases t <;> simp [State.terminalChange, h]

@[simp] theorem State.receiverFirst_posts {a : Attention} (s : State) (t : Terminal) (h : Posts a s.att) :
    Posts a (s.receiverFirst t).att := by
  unfold State.receiverFirst; try dsimp only
  (repeat' split) <;> simp [h]

@[simp] theorem State.takeChange_posts {a : Attention} (s : State) (t : Terminal) (h : Posts a s.att) :
    Posts a (s.takeChange t).att := by
  unfold State.takeChange
  split
  · have h2 := State.terminalChange_posts _ t ((s.receiverFirst t).accepted t).flip
      (State.acceptLoop_posts _ t (State.receiverFirst_posts s t h))
    simpa using h2
  · exact h

@[simp] theorem State.trunkAnswerChange_posts {a : Attention} (s : State) (o : OutNo) (b : Bool) (h : Posts a s.att) :
    Posts a (s.trunkAnswerChange o b).att := by
  unfold State.trunkAnswerChange; try dsimp only
  (repeat' split) <;> simp [h]

@[simp] theorem State.takeAnswerChange_posts {a : Attention} (s : State) (o : OutNo) (h : Posts a s.att) :
    Posts a (s.takeAnswerChange o).att := by
  unfold State.takeAnswerChange; try dsimp only
  (repeat' split) <;> simp [h]

@[simp] theorem State.takeExpiry_posts {a : Attention} (s : State) (e : Expiry) (h : Posts a s.att) :
    Posts a (s.takeExpiry e).att := by
  cases e <;> simp [State.takeExpiry, h]

@[simp] theorem State.takeItem_posts {a : Attention} (s : State) (x : ScanItem) (h : Posts a s.att) :
    Posts a (s.takeItem x).att := by
  cases x <;> simp [State.takeItem, h]

@[simp] theorem State.takeRest_posts {a : Attention} (s : State) (h : Posts a s.att) :
    Posts a (s.takeRest).att := by
  unfold State.takeRest
  exact foldl_posts _ (fun _ _ => State.takeAnswerChange_posts _ _) _ _
    (foldl_posts _ (fun _ _ => State.takeChange_posts _ _) _ _
      (foldl_posts _ (fun _ _ => State.takeChange_posts _ _) _ _ (foldl_posts _ (fun _ _ => State.takeReceiver_posts _ _) _ _ h)))

@[simp] theorem State.scanPhase_posts {a : Attention} (s : State) (x : SampleSet) (l : List ScanItem) (h : Posts a s.att) :
    Posts a (s.scanPhase x l).att := by
  exact State.takeRest_posts _ (foldl_posts _ (fun _ _ => State.takeItem_posts _ _) _ _ h)

end Sys2Proof.Machine
end

