-- ==== Sys2Proof/Laws/Ports.lean ====
section
/-! SUPPORT. What the link ports make of a command, once for every command: on a port that takes the end mark and passes the gate the
body runs and its response is sent; the acting commands reach their body when the issuer is the binder. -/

namespace Sys2Proof.Machine

/-- The port passes checks 5 and 6 for a command of this permission. -/
theorem State.gate_controller {s : State} {x : Side} {c : Instr} (h : s.takes x c) :
    s.gate (.controller x) .controllers = none := by
  simp [State.gate, h.2]

theorem State.gate_all {s : State} {x : Side} {c : Instr} (h : s.takes x c) : s.gate (.controller x) .all = none := by
  simp [State.gate, h.2]

/-- A command that passes the gate. -/
theorem State.command_takes {s : State} {c : Instr} {p : Port} {m : Permission} {body : State → State × Response}
    (hl : s.listens p c = true) (hg : s.gate p m = none) : s.command c p m body = (body s).1.answer p (body s).2 := by
  simp [State.command, hl, hg]

/-- A command of the controller set on a port that takes it. -/
theorem State.controllerCommand_takes {s : State} {x : Side} {c : Instr} (h : s.takes x c)
    (body : Side → State → State × Response) :
    s.controllerCommand c (.controller x) body = (body x s).1.answer (.controller x) (body x s).2 :=
  State.command_takes h.1 (State.gate_controller h)

/-- A read of the controller set on a port that takes it. -/
theorem State.readCommand_takes {s : State} {x : Side} {c : Instr} (h : s.takes x c) (body : State → Response) :
    s.readCommand c (.controller x) .controllers body = s.answer (.controller x) (body s) :=
  State.command_takes h.1 (State.gate_controller h)

/-- A read of the set for all ports on a controller port that takes it. -/
theorem State.readCommand_all_takes {s : State} {x : Side} {c : Instr} (h : s.takes x c) (body : State → Response) :
    s.readCommand c (.controller x) .all body = s.answer (.controller x) (body s) :=
  State.command_takes h.1 (State.gate_all h)

/-- A command of the billing set or of the set for all ports on a billing port that takes it. -/
theorem State.command_billing {s : State} {c : Instr} {m : Permission} {body : State → State × Response}
    (hl : s.listens .billing c = true) (hm : m ≠ .controllers) :
    s.command c .billing m body = (body s).1.answer .billing (body s).2 := by
  refine State.command_takes hl ?_
  cases m <;> simp_all [State.gate]

/-- A command of the controller set runs as its body where it is taken. -/
theorem State.runs_controllerCommand {s u : State} {x : Side} {c : Instr} {body : Side → State → State × Response}
    (he : exec c s = .next (s.controllerCommand c (.controller x) body))
    (hu : (body x s).1.answer (.controller x) (body x s).2 = u) : s.runs (.controller x) c u := fun hl hf => by
  rw [he, State.controllerCommand_takes ⟨hl, hf x rfl⟩, hu]

/-- A frame that has been gathered is judged as its bytes are. -/
theorem Frame.gather_judged (bytes : List Byte) (p : Port) : (Frame.gather bytes).judged p = decodeFrame p bytes := by
  unfold Frame.judged Frame.gather
  by_cases h : 16 < bytes.length
  · rw [if_pos (by simpa using h), decodeFrame, if_pos (Or.inr h)]
  · rw [if_neg (by simpa using h), List.take_of_length_le (by omega)]

/-- After the start mark of a frame with its bytes the port listens for the row that the bytes spell, and for no other. -/
theorem State.startMark_listens {s : State} {p : Port} (h : (s.link p).phase = .ready) (bytes : List Byte) (c : Instr) :
    (s.startMark p bytes).listens p c = decide (decodeFrame p bytes = c) := by
  simp [State.startMark, h, State.listens, Frame.gather_judged]

/-- A number in range. -/
theorem numbered_val {n : Nat} {x : Nat} (i : Fin n) (h : x = i.val) : numbered n x = some i := by
  subst h; simp [numbered]

/-- A number out of range. -/
theorem numbered_none {n : Nat} {x : Nat} (h : n ≤ x) : numbered n x = none := by
  simp [numbered, h]

/-- An acting command of the binder reaches its body. -/
theorem acting_bound {x : Side} {b : Byte} {s : State} {r : RegNo} (hb : b.toNat = r.val)
    (hh : s.handler (.register r) = some x) (body : RegNo → State × Response) : acting x b s body = body r := by
  simp [acting, numbered_val r hb, hh]

/-- The operand of a tone names it. -/
theorem toneOperand_code {c : Byte} (y : Tone) (h : c.toNat = y.code) : toneOperand c = some y := by
  cases y <;> simp_all [toneOperand, Tone.code]

end Sys2Proof.Machine
end

