-- ==== Sys2Proof/WellFormed.lean ====
section
/-! DEFINITION. Which terms of `Instr` spell a step that can come about. A command is spelt by its frame's raw operand bytes, and a
value out of range is the command's own to refuse, so every command is well formed. What is checked is the shape of the
interface events: a sample set gives each terminal one sample, a schedule takes each thing once, a completion names elements
of the network, and a frame is cut off or dropped on a port. -/

namespace Sys2Proof

/-- A sample set names each terminal, line and trunk at most once (R20). -/
def SampleSet.wf (x : SampleSet) : Bool := decide x.closed.Nodup && decide x.grounded.Nodup && decide x.reversed.Nodup

/-- A schedule takes each thing at most once. -/
def scheduleWf (l : List ScanItem) : Bool := decide l.Nodup

/-- A completion carries the numbers of network elements (R76, R99). -/
def Completion.wf (c : Completion) : Bool := c.results.all fun x => decide (x.1.toNat < 352)

/-- A step is well formed. -/
def Instr.wf : Instr → Bool
  | .scanSampleSet samples schedule => samples.wf && scheduleWf schedule
  | .driveCompletion c => c.wf
  | _ => true

end Sys2Proof
end

