-- ==== Sys2Proof/Tests/Slice0.lean ====
section
/-! SUPPORT. Tests of single steps, the smoke test of the well-formedness checks, and for each obligation with hypotheses a theorem
that shows a concrete state and operands meeting them. Expected values are worked by hand from the rules named.

`hour` is an exchange in the middle of its calls: registers 1 to 15 each stand in another stage of a call. -/

namespace Sys2Proof.Tests

-- Checked one after another: each of them checked in a thread of its own takes more stacks than the sandbox has memory for.
set_option Elab.async false

open Sys2Proof.Machine
open Host (Outcome)

/-! ### A state with calls in it -/

/-- The state that a step answers. -/
def after : Outcome State Fault Refusal → State
  | .next t => t
  | _ => State.reset

/-- The response begun on a port. -/
def reply (p : Port) (o : Outcome State Fault Refusal) : Option (List Nat) :=
  ((after o).responseOn p).map fun bs => bs.map (·.toNat)

/-- The step answers a next state. -/
def goesOn : Outcome State Fault Refusal → Bool
  | .next _ => true
  | _ => false

theorem next_of_goesOn {o : Outcome State Fault Refusal} (h : goesOn o = true) : ∃ t, o = .next t := by
  cases o with
  | next t => exact ⟨t, rfl⟩
  | _ => cases h

/-- Port A. -/
def pa : Port := .controller .a

/-- The state with the command's frame gathered on its port. -/
def framed (c : Instr) (s : State) : State :=
  match frameOf c with
  | some (p, bytes) => s.startMark p bytes
  | none => s

/-- The row `c` taken at the end mark of its frame. -/
def atEnd (c : Instr) (s : State) : Outcome State Fault Refusal := exec c (framed c s)

/-- After reset with the network free, route 0 LOCAL (level 1, zone 2), route 1 OUTGOING (level 1, zone 3, ticketed, group 0,
strip 0, total 3), node 0 walking digit 4 to route 0, and the DAY cell of zone 3 at U0 2, P 4, F 8. -/
def idleExchange : State :=
  { State.reset with
    net := { State.reset.net with elements := Vector.replicate 352 .free, groups := Vector.replicate 32 (some 0) }
    orders := ⟨[], none, 1, none⟩
    trans := { State.reset.trans with
      nodes := tmod State.reset.trans.nodes 0 fun v => tset (tset v 4 (.route 0)) 5 (.node 1)
      routes := tset (tset State.reset.trans.routes 0 ⟨.localCall 1 2, 1⟩) 1 ⟨.outgoing 1 3 true 0 none [] 0 3, 3⟩
      directory := tset State.reset.trans.directory 112 (some ⟨20, .a⟩) }
    tariff := { State.reset.tariff with active := tset State.reset.tariff.active 9 ⟨2, 4, 8⟩ } }

/-- A line in the calling role, its loop closed. -/
def callingLine (r : RegNo) (l : LineRec) : LineRec :=
  { l with state := .originating, register := some r, originParty := some .a, accepted := .closed }

/-- Register `r` is calling from line `n`, with the rest of its record as given, and is bound to port A. -/
def placeCall (s : State) (r : RegNo) (n : LineNo) (g : CallRegister) : State :=
  ((s.modLine n (callingLine r)).modReg r fun _ => { g with origin := some (.line n .a) }).modSubject (.register r)
    fun j => { j with binding := some ⟨.a, 3000⟩ }

/-- A line in the called role. -/
def placeCalled (s : State) (r : RegNo) (n : LineNo) (x : LineState) (early : Option Bool) : State :=
  s.modLine n fun l => { l with state := x, register := some r, earlyOffHook := early }

/-- A LOCAL call to line `n` in a state, its string complete. -/
def localCall (x : RegState) (n : LineNo) (p : Path) : CallRegister :=
  { CallRegister.free with
    state := x, digits := [4, 1, 1, 2], route := some 0, directoryDigits := 3, destination := some ⟨n, .a⟩, path := p }

/-- An OUTGOING call in a state, its string complete, with a reservation. -/
def outgoingCall (x : RegState) (p : Path) : CallRegister :=
  { CallRegister.free with state := x, digits := [1, 2, 3], route := some 1, path := p, reservation := true }

/-- The meter context of a call from line 10. -/
def context (remaining : Option Nat) : MeterContext :=
  ⟨3, .day, 0, 0, .day, ⟨2, 4, 8⟩, 0, 0, remaining, 2, 0, false, some ⟨10, .a⟩⟩

/-- Sender 0 at the end of its lead pause. -/
def sending (phase : SenderPhase) (pulses time position : Nat) : Sending := ⟨false, 8, 20, [1, 2], position, phase, pulses, time⟩

/-- The exchange with its calls up to talk. -/
def hourA : State :=
  let s := placeCall idleExchange 1 33 (localCall .translated 20 Path.empty)
  let s := placeCall s 2 2 (outgoingCall .translated Path.empty)
  let s := placeCall s 3 3 (localCall .connecting 23 ⟨some 0, some 256, some 128⟩)
  let s := placeCall s 4 4 (localCall .connecting 24 ⟨some 1, some 264, some 129⟩)
  let s := placeCall s 5 5 (localCall .set 25 ⟨some 2, some 272, some 130⟩)
  let s := placeCall s 6 6 { localCall .ringing 26 ⟨some 3, some 280, some 131⟩ with timer := some ⟨.ring, 0⟩ }
  let s := placeCall s 7 7 (outgoingCall .set ⟨some 4, some 336, none⟩)
  let s := placeCall s 8 8 { outgoingCall .sending ⟨some 5, some 340, none⟩ with sender := some 0 }
  let s := placeCall s 9 9 { outgoingCall .awaitAnswer ⟨some 6, some 344, none⟩ with timer := some ⟨.answerWait, 0⟩ }
  placeCall s 10 10 { outgoingCall .talk ⟨some 7, some 348, none⟩ with meter := some (context (some 1)) }

/-- The whole exchange: also a call in TONE, one in CLEARING, one ENDED, one dialling from line 14 at receiver 0, one dialling from
incoming trunk 0 at receiver 1, which is in a break, and one in TALK with line 60, from incoming trunk 1. -/
def hour : State :=
  let s := placeCall hourA 11 11 { outgoingCall .tone Path.empty with
    reservation := false, tone := some (.nu, .digitError), timer := some ⟨.tone, 0⟩ }
  let s := s.modReg 12 fun _ => { localCall .clearing 70 ⟨some 8, some 257, some 144⟩ with
    origin := some (.line 34 .a), endCause := some .forced }
  let s := (s.modReg 13 fun _ => { localCall .ended 28 Path.empty with
    origin := some (.line 13 .a), endCause := some .forced }).modSubject (.register 13) fun j =>
      { j with binding := some ⟨.a, 0⟩ }
  let s := (placeCall s 14 14 { CallRegister.free with
    state := .dialing, walkNode := some 0, receiver := some 0, timer := some ⟨.firstDigit, 0⟩ }).setReceiver 0
      (.attached ⟨false, 14, .make, 4, 160, false⟩)
  let s := ((s.modTrunk 0 fun k => { k with state := .busy, register := some 15 }).modReg 15 fun _ =>
    { CallRegister.free with
      state := .dialing, origin := some (.trunk 0), walkNode := some 0, receiver := some 1
      timer := some ⟨.interdigit, 0⟩ }).setReceiver 1 (.attached ⟨false, 15, .brk 400, 0, 0, false⟩)
  let s := ((s.modTrunk 1 fun k => { k with state := .busy, register := some 16, accepted := .closed }).modReg 16 fun _ =>
    { localCall .talk 60 ⟨none, none, some 136⟩ with
      origin := some (.trunk 1), timer := some ⟨.calledRelease, 0⟩ }).setClearTimer 1 (some 400)
  let s := placeCalled (placeCalled (placeCalled s 3 23 .termReserved (some false)) 4 24 .termReserved (some false)) 5 25
    .termReserved (some false)
  let s := (placeCalled (placeCalled s 6 26 .termRinging none) 16 60 .termBusy none).modLine 20 fun l => { l with state := .idle }
  let s := s.setSender 0 (.busy (sending .leadPause 0 0 0))
  let s := ((s.setElems [0, 256, 128] .reserved).setElems [1, 264, 129] .operating).setElems [8, 257, 144] .releasing
  let s := s.setElems [2, 272, 130, 3, 280, 131, 4, 336, 5, 340, 6, 344, 7, 348, 136] .held
  { s with
    orders := ⟨[.operate 3], some ⟨.operate 4, 7, [1, 264, 129], 250, false⟩, 7, none⟩
    tickets := { s.tickets with reserved := 5 }
    sig := { s.sig with senderSignals := tset s.sig.senderSignals 0 ⟨some 20, .closed⟩ } }

/-- A sweep whose time is up, at its last meter but one, with that meter's copy still to be made. -/
def sweeping : State := { hour with store := { hour.store with snapshot := .sweeping 1023 20 } }

/-- After reset, line 20 IDLE with two CLOSED samples held. -/
def lifting : State :=
  { State.reset with scan := { Scanner.cold with
    lines := tset Scanner.cold.lines 20 { LineRec.cold with state := .idle, samples := ⟨.opened, .closed, .closed⟩ } } }

/-- Port A fenced by port B. -/
def fencedA : State := { idleExchange with att := { idleExchange.att with portA := ⟨true, 3, false⟩ } }

/-! ### Well-formedness -/

theorem test_wf_sample_set_once : (Instr.scanSampleSet ⟨[.line 3, .line 3], [], []⟩ []).wf = false := by decide

theorem test_wf_ground_once : (Instr.scanSampleSet ⟨[], [3, 3], []⟩ []).wf = false := by decide

theorem test_wf_reversed_once : (Instr.scanSampleSet ⟨[], [], [31, 31]⟩ []).wf = false := by decide

theorem test_wf_schedule_once : (Instr.scanSampleSet ⟨[], [], []⟩ [.receiver 2, .receiver 2]).wf = false := by decide

theorem test_wf_completion_element : (Instr.driveCompletion ⟨.release, 1, [(352, true)]⟩).wf = false := by decide

theorem test_wf_accepts : (Instr.scanSampleSet ⟨[.line 511, .trunk 15], [511], [31]⟩ [.change (.line 511)]).wf = true ∧
    (Instr.driveCompletion ⟨.release, 1, [(351, false)]⟩).wf = true := by decide

/-! ### Frames (11.5, 11.6, R191): bytes written out by hand, each sum 255 -/

theorem test_frame_release_call : decodeFrame pa [3, 7, 245] = .releaseCall pa 7 := by decide

theorem test_frame_wrong_sum : decodeFrame pa [3, 7, 244] = .badFrame pa := by decide

theorem test_frame_remove_ticket : decodeFrame .billing [44, 11, 255, 201] = .removeTicket .billing 3071 := by decide

theorem test_frame_take_event : decodeFrame pa [47, 208] = .takeEvent pa := by decide

theorem test_frame_give_tone : decodeFrame pa [2, 7, 1, 245] = .giveTone pa 7 1 := by decide

theorem test_frame_write_line : decodeFrame pa [4, 0, 1, 44, 2, 204] = .writeLine pa 0 300 2 := by decide

theorem test_frame_unknown : decodeFrame pa [55, 200] = .unknownCommand pa := by decide

theorem test_frame_operand_count : decodeFrame pa [3, 252] = .badFrame pa := by decide

theorem test_frame_too_short : decodeFrame pa [255] = .badFrame pa := by decide

theorem test_table_word_spells_nothing : decodeTableWord 8 47 = none ∧ State.reset.withFetchWord 8 47 = State.reset :=
  ⟨rfl, rfl⟩

/-! ### Reset and the step -/

theorem test_reset_power_up :
    let t := after (exec (.powerUp false ⟨true, false, true, false⟩) hour)
    t.reg 10 = CallRegister.free ∧ t.orders.tag = 1 ∧ (t.link (.controller .b)).phase = .heldInReset ∧ t.restartLine = true := by
  decide +kernel

theorem test_idle_step_takes_the_order : (after (step { hour with orders := ⟨[.operate 3], none, 7, none⟩ })).orders =
    ⟨[], some ⟨.operate 3, 8, [0, 256, 128], 1, false⟩, 8, none⟩ := by decide +kernel

theorem test_idle_step_counts_drive_time :
    (after (step State.reset)).orders.inFlight = some ⟨.networkClear, 1, List.finRange 352, 1, false⟩ := by decide +kernel

theorem test_step_takes_front :
    (after (step { State.reset with pending := [.setIncomingRoot pa 5, .takeEvent pa] })).pending = [.takeEvent pa] := by
  decide +kernel

/-! ### Frames on a port (R189) -/

/-- READY takes no command: an end mark outside a frame is nothing. -/
theorem test_ready_takes_no_command : reply pa (exec (.setIncomingRoot pa 5) hour) = none ∧
    (after (exec (.setIncomingRoot pa 5) hour)).trans.incomingRoot = 0 := by decide +kernel

theorem test_gathered_frame_runs : reply pa (exec (.setIncomingRoot pa 5) (hour.startMark pa [15, 5, 235])) = some [0, 255] := by
  decide +kernel

/-- The frame gathered decides which row its end mark is. -/
theorem test_other_frame_runs_nothing :
    reply pa (exec (.setIncomingRoot pa 6) (hour.startMark pa [15, 5, 235])) = none := by decide +kernel

theorem test_seventeen_bytes : ((hour.startMark pa (List.replicate 17 15)).link pa).phase = .receiving ⟨List.replicate 16 15, 1⟩ ∧
    reply pa (exec (.badFrame pa) (hour.startMark pa (List.replicate 17 15))) = some [2, 253] := by decide +kernel

/-- A frame cut off by a new start mark leaves the new one. -/
theorem test_cut_off : reply pa (exec (.takeEvent pa) (after (exec (.frameDiscarded pa (.cutOff [47, 208]))
    (hour.startMark pa [15, 5])))) = some [1, 254] := by decide +kernel

/-- A frame that begins while a response is sent is gathered, and taken once the response has been sent. -/
theorem test_frame_beside_a_response :
    let s := (hour.setPhase pa (.answering [0, 255] none)).startMark pa [47, 208]
    reply pa (exec (.takeEvent pa) s) = some [0, 255] ∧
    reply pa (exec (.takeEvent pa) (after (exec (.responseSent pa) s))) = some [1, 254] := by decide +kernel

/-! ### One step of each kind -/

theorem test_read_register_free : (reply pa (atEnd (.readRegister pa 39) State.reset)).map (·.length) = some 54 := by decide +kernel

theorem test_give_tone : (after (atEnd (.giveTone pa 1 1) hour)).toneOf (.line 33) = some .congestion := by decide +kernel

theorem test_release_makes_ticket :
    (after (atEnd (.releaseCall pa 10) hour)).tickets.stored.map (fun k => (k.units, k.digits)) = [(2, [1, 2, 3])] := by decide +kernel

theorem test_write_line : ((after (atEnd (.writeLine pa 0 300 2) hour)).line 300).state = .idle ∧
    ((after (atEnd (.writeLine pa 0 300 2) hour)).line 300).cls = .coin := by decide +kernel

theorem test_remove_line_in_call : reply pa (atEnd (.removeLine pa 0 10) hour) = some [10, 245] := by decide +kernel

theorem test_read_line_kind : reply pa (atEnd (.readLine pa 3 0) hour) = some [4, 251] := by decide +kernel

theorem test_block_receiver_in_use : reply pa (atEnd (.blockReceiver pa 0) hour) = some [10, 245] := by decide +kernel

theorem test_unblock_receiver : (after (atEnd (.unblockReceiver pa 3) (hour.setReceiver 3 .blocked))).receiver 3 = .free := by
  decide +kernel

theorem test_probe_access : reply pa (atEnd (.probeAccess pa 0 10 1) hour) = some [0, 0, 255, 0] := by decide +kernel

theorem test_write_node_slot : tget (tget (after (atEnd (.writeNodeSlot pa 0 10 1 127) hour)).trans.nodes 0) 0 = .node 127 := by
  decide +kernel

theorem test_write_route_in_use :
    reply pa (atEnd (.writeRoute pa 1 ⟨0, 0, 0, 0, 0, 255, 0, 0, 0, 0, 0, 0, 0⟩) hour) = some [10, 245] := by decide +kernel

theorem test_write_directory : tget (after (atEnd (.writeDirectory pa 112 0 511 0) hour)).trans.directory 112 = none := by
  decide +kernel

theorem test_clear_translations : tget (tget (after (atEnd (.clearTranslations pa) hourA)).trans.nodes 0) 4 = .vacant := by
  decide +kernel

theorem test_hunt_takes_first_switch :
    ((after (atEnd (.huntPath pa 1) { hour with orders := ⟨[], none, 1, none⟩ })).reg 1).path =
      ⟨some 12, some 288, some 132⟩ := by decide +kernel

/-- R90: a seize after the hunt finds the element RESERVED, the order not yet taken (log entry 2). -/
theorem test_seize_after_hunt :
    let s := after (atEnd (.huntPath pa 1) { hour with orders := ⟨[], none, 1, none⟩ })
    reply pa (atEnd (.seizeElement pa 12) (after (exec (.responseSent pa) s))) = some [0, 1, 254] ∧
      s.orders = ⟨[.operate 1], none, 1, none⟩ := by decide +kernel

theorem test_seize_free : reply pa (atEnd (.seizeElement pa 351) hour) = some [0, 0, 255] ∧
    (after (atEnd (.seizeElement pa 351) hour)).elem 351 = .blocked := by decide +kernel

theorem test_return_free : reply pa (atEnd (.returnElement pa 351) hour) = some [9, 246] := by decide +kernel

theorem test_assign_group : tget (after (atEnd (.assignTrunkGroup pa 31 255) hour)).net.groups 31 = none := by decide +kernel

theorem test_ring_wrong_state : reply pa (atEnd (.ring pa 7) hour) = some [9, 246] := by decide +kernel

theorem test_ring : ((after (atEnd (.ring pa 5) hour)).reg 5).timer = some ⟨.ring, 90000⟩ := by decide +kernel

theorem test_send : (after (atEnd (.send pa 7) hour)).sender 1 = .busy ⟨false, 7, 16, [1, 2, 3], 0, .leadPause, 0, 300⟩ := by
  decide +kernel

theorem test_block_sender : (after (atEnd (.blockSender pa 5) hour)).sender 5 = .blocked := by decide +kernel

theorem test_tariff_cell_and_apply : tget (after (atEnd (.writeTariffCell pa 7 2 15 65535 15) hour)).tariff.pending 23 =
    ⟨15, 65535, 15⟩ := by decide +kernel

theorem test_select_band : (after (atEnd (.selectBand pa 1) hour)).tariff.generation = 1 := by decide +kernel

theorem test_set_clock : reply pa (atEnd (.setClock pa 65535 1440) hour) = some [4, 251] := by decide +kernel

theorem test_adjust_meter_saturates :
    tget (after (atEnd (.adjustMeter pa 511 1 65535)
      { hour with store := { hour.store with meters := tset hour.store.meters 1023 ⟨16777210, false⟩ } })).store.meters 1023 =
      ⟨16777215, true⟩ := by decide +kernel

theorem test_preset_meter : tget (after (atEnd (.presetMeter pa 300 0 70000) hour)).store.meters 600 = ⟨70000, false⟩ := by
  decide +kernel

theorem test_take_snapshot : (after (atEnd (.takeSnapshot .billing) hour)).store.snapshot = .sweeping 0 0 := by decide +kernel

theorem test_sweep_copies : tget (after (atEnd .sweepReachesMeter sweeping)).store.marks 1023 = true := by decide +kernel

theorem test_ticket_empty : reply .billing (atEnd (.readTicket .billing) hour) = some [1, 254] := by decide +kernel

theorem test_billing_not_permitted : reply .billing (atEnd (.takeEvent .billing) hour) = some [5, 250] := by decide +kernel

theorem test_fenced : reply pa (atEnd (.takeEvent pa) fencedA) = some [6, 249] := by decide +kernel

theorem test_done_frees : ((after (atEnd (.done pa 13) hour)).reg 13) = CallRegister.free := by decide +kernel

theorem test_take_order : (after (atEnd .orderTake { hour with orders := ⟨[.operate 3], none, 255, none⟩ })).orders =
    ⟨[], some ⟨.operate 3, 0, [0, 256, 128], 0, false⟩, 0, none⟩ := by decide +kernel

theorem test_completion_good :
    ((after (atEnd (.driveCompletion ⟨.operate, 7, [(1, true), (264, true), (129, true)]⟩) hour)).reg 4).state = .set := by
  decide +kernel

theorem test_completion_missing_element :
    (after (atEnd (.driveCompletion ⟨.operate, 7, [(1, true), (264, true)]⟩) hour)).elem 129 = .faulted := by decide +kernel

theorem test_digit_end_routes : ((after (atEnd (.digitEnd 0) hour)).reg 14).route = some 0 := by decide +kernel

theorem test_clear_abandons : ((after (atEnd (.clear 1) hour)).reg 15).endCause = some .abandoned := by decide +kernel

theorem test_dial_timeout : ((after (atEnd (.dialTimeout 14) hour)).reg 14).endCause = some .dialTimeout := by decide +kernel

theorem test_metering_step_charges : ((after (atEnd .meteringStepBoundary hour)).reg 10).meter =
    some { context (some 4) with units := 3, duration := 1, framePosition := 1 } := by decide +kernel

theorem test_third_strike_fences : ((after (atEnd (.handlingLimitExpiry (.register 1))
    { hour with att := { hour.att with portA := ⟨false, 2, true⟩ } })).att.portA) = ⟨true, 3, true⟩ := by decide +kernel

theorem test_originates : ((hour.lineChange 20 .closed).line 20).state = .waiting ∧
    ((hour.lineChange 20 .closed).settle.line 20).register = some 0 := by decide +kernel

/-- R21, R23: at the third CLOSED sample line 20, IDLE, originates, and the head of the queue is served. -/
theorem test_third_sample_originates :
    ((lifting.takeSamples ⟨[.line 20], [], []⟩).takeChange (.line 20)).line 20 = { LineRec.cold with
      state := .originating, register := some 0, originParty := some .a, accepted := .closed
      samples := ⟨.closed, .closed, .closed⟩ } := by decide +kernel

theorem test_refused_in_a_break : ((hour.refuseString 15 .nu .vacant .vacant).reg 15).state = .tone ∧
    tget (hour.refuseString 15 .nu .vacant .vacant).sig.clearTimers 0 = some 0 := by decide +kernel

theorem test_warm_restart :
    let t := hour.warmRestart .restartCommand
    (t.reg 10).state = .talk ∧ (t.reg 9).state = .clearing ∧ t.orders = ⟨[.release 3, .release 5, .release 6, .release 7, .release 8, .release 9, .release 12],
      some ⟨.operate 4, 7, [1, 264, 129], 250, true⟩, 7, none⟩ ∧
    (t.elem 348 = .held ∧ t.elem 336 = .releasing ∧ t.elem 264 = .operating) ∧ t.tickets.reserved = 1 ∧
    (t.route 1).refCount = 1 ∧ t.receiver 0 = .free ∧ t.sender 0 = .free := by decide +kernel

/-! ### Witnesses: for each obligation with hypotheses, states and operands that meet them, clause by clause -/

theorem witness_StepTakesTheFrontCommand :
    hour.pending = [] ∧ hour.sender 0 = .busy (sending .leadPause 0 0 0) ∧ hour.sender 1 = .free ∧
    sweeping.pending = [] ∧ sweeping.store.snapshot = .sweeping 1023 20 := by decide +kernel

theorem witness_not_sweeping : ¬hour.sweeping := by rintro ⟨p, z, h⟩; exact absurd h (by simp [hour, hourA, idleExchange,
  placeCall, placeCalled, State.modReg, State.modLine, State.modSubject, State.setReceiver, State.setClearTimer, State.setSender,
  State.modTrunk, State.setElems, State.setElem, State.reset, MeterStore.cold])

theorem witness_EveryCommandFrameReadsBack : frameOf (.removeTicket .billing 3071) = some (.billing, [44, 11, 255, 201]) := by decide

theorem witness_FramesAreJudgedInOrder :
    (([255] : List Byte).length < 2 ∧ 16 < (List.replicate 17 (15 : Byte)).length) ∧ byteSum [3, 7, 244] ≠ 255 ∧
    (byteSum [0, 255] = 255 ∧ (0 : Byte).toNat = 0) ∧ (byteSum [55, 200] = 255 ∧ 55 ≤ (55 : Byte).toNat) ∧
    (byteSum [1, 39, 215] = 255 ∧ 1 ≤ (1 : Byte).toNat) ∧ (byteSum [54, 201] = 255 ∧ (54 : Byte).toNat ≤ 54) := by decide

theorem witness_IllFormedFramesAndResponsesAreSent :
    (fencedA.startMark pa [3, 7, 244]).listens pa (.badFrame pa) = true ∧
    (fencedA.startMark .billing [55, 200]).listens .billing (.unknownCommand .billing) = true ∧
    ((hour.setPhase pa (.answering [0, 255] (some ⟨[255], 0⟩))).link pa).phase = .answering [0, 255] (some ⟨[255], 0⟩) ∧
    Frame.judged ⟨[255], 0⟩ pa = .badFrame pa ∧ hour.listens pa (.badFrame pa) = false ∧ (hour.link pa).phase = .ready ∧
    Port.controller .b ≠ pa := by decide +kernel

theorem witness_CommandsPassTheGateOrAreDropped :
    (commandParts (.takeEvent pa) = some (pa, 47, []) ∧ (framed (.takeEvent pa) fencedA).listens pa (.takeEvent pa) = true ∧
      (fencedA.att.port .a).fenced = true) ∧
    (commandParts (.takeEvent .billing) = some (.billing, 47, []) ∧ permissionOf 47 = .controllers ∧
      (framed (.takeEvent .billing) hour).listens .billing (.takeEvent .billing) = true) ∧
    (commandParts (.readTicket pa) = some (pa, 43, []) ∧ permissionOf 43 = .billing ∧
      (framed (.readTicket pa) hour).listens pa (.readTicket pa) = true ∧ (hour.att.port .a).fenced = false) ∧
    ((hour.setPhase pa (.answering [0, 255] (some ⟨[47, 208], 0⟩))).link pa).phase = .answering [0, 255] (some ⟨[47, 208], 0⟩) ∧
    Frame.judged ⟨[47, 208], 0⟩ pa = .takeEvent pa ∧
    (hour.listens pa (.takeEvent pa) = false ∧ (hour.link pa).phase = .ready) ∧
    ((hour.setPhase pa .heldInReset).listens pa (.takeEvent pa) = false ∧
      ((hour.setPhase pa .heldInReset).link pa).phase = .heldInReset) := by decide +kernel

theorem witness_LinkPortsMoveAndAreReset :
    (hour.link pa).phase = .ready ∧ ((hour.startMark pa [47]).link pa).phase = .receiving ⟨[47], 0⟩ ∧
    ((hour.setPhase pa (.answering [0, 255] none)).link pa).phase = .answering [0, 255] none ∧
    ((hour.setPhase pa (.answering [0, 255] (some ⟨[47], 0⟩))).link pa).phase = .answering [0, 255] (some ⟨[47], 0⟩) ∧
    ((hour.setPhase pa .heldInReset).link pa).phase = .heldInReset ∧
    (hour.link pa).resetAsserted = false ∧ (hour.link .billing).resetAsserted = false ∧ hour.handler (.register 1) = some .a ∧
    hour.handler (.register 12) ≠ some .a := by decide +kernel

theorem witness_linkResetNegated :
    (({ hour with links := hour.links.put pa ⟨.heldInReset, true⟩ } : State).link pa).resetAsserted = true := by decide +kernel

/-- The law of the Attention Queue holds of the exchange with its calls, where thirteen registers are bound and none is queued. -/
theorem witness_attentionLaw : AttentionLaw hour := by
  unfold AttentionLaw
  refine ⟨by decide +kernel, fun j => ?_⟩
  cases j with
  | maintenance => decide +kernel
  | register r => revert r; decide +kernel

theorem witness_ReadsChangeNothing : commandParts (.readRegister pa 39) = some (pa, 1, [39]) ∧ 1 ∈ readCodes ∧
    commandParts (.readPortStatus pa) = some (pa, 52, []) ∧ 52 ∈ readCodes := by decide

theorem witness_reads_answer_next : ∃ t, exec (.readRegister pa 39) hour = .next t :=
  next_of_goesOn (by decide +kernel)

theorem witness_ReadsAnswerTheRecord :
    let s := framed (.readRegister pa 39) hour
    s.takes .a (.readRegister pa 39) ∧ (40 ≤ (40 : Byte).toNat ∧ (39 : Byte).toNat < 40) ∧ (12 ≤ (12 : Byte).toNat ∧ (11 : Byte).toNat < 12) ∧
    (6 ≤ (6 : Byte).toNat ∧ (5 : Byte).toNat < 6) ∧ (352 ≤ (352 : Half).toNat ∧ (351 : Half).toNat < 352) ∧
    (framed (.readTicket .billing) hour).listens .billing (.readTicket .billing) = true ∧ s.tickets.stored = [] ∧
    (({ hour with tickets := ⟨[s.ticketOf ⟨10, .a⟩ [1] 1 (context none)], 0, 1, 0⟩ } : State).tickets.stored ≠ []) ∧
    s.store.snapshot = .idle := by decide +kernel

theorem witness_readSnapshot : ({ hour with store := { hour.store with snapshot := .ready } } : State).store.snapshot = .ready ∧
    sweeping.sweeping := ⟨rfl, _, _, rfl⟩

theorem witness_registers_as_read :
    (hour.reg 10).origin = some (.line 10 .a) ∧ (hour.reg 15).origin = some (.trunk 0) ∧ (hour.reg 0).origin = none := by
  decide +kernel

theorem witness_GiveToneEntersTone :
    let s := framed (.giveTone pa 1 1) hour
    s.takes .a (.giveTone pa 1 1) ∧ (framed (.giveTone pa 5 2) hour).takes .a (.giveTone pa 5 2) ∧ s.handler (.register 1) = some .a ∧ (s.reg 1).state = .translated ∧
    (s.reg 1).origin = some (.line 33 .a) ∧ s.handler (.register 5) = some .a ∧ (s.reg 5).state = .set ∧
    (s.reg 5).origin = some (.line 5 .a) ∧ (s.reg 5).destination = some ⟨25, .a⟩ ∧ s.calledRole 5 25 = true ∧
    (s.reg 5).receiver = none ∧ (s.reg 5).walkNode = none := by decide +kernel

theorem witness_CausesOfRelease :
    let s := framed (.releaseCall pa 1) hour
    s.takes .a (.releaseCall pa 1) ∧ (1 : Byte).toNat = (1 : RegNo).val ∧ s.handler (.register 1) = some .a ∧
    (s.reg 1).state = .translated ∧ (s.reg 11).state = .tone ∧ (s.reg 11).timer = some ⟨.tone, 0⟩ ∧
    (s.reg 11).tone = some (.nu, .digitError) ∧ (s.reg 16).timer = some ⟨.calledRelease, 0⟩ ∧
    tget s.sig.clearTimers 1 = some 400 ∧ (s.trunk 1).register = some 16 ∧ (s.reg 13).state = .ended ∧
    (s.reg 1).timer = none ∧ tget (s.setClearTimer 1 (some 399)).sig.clearTimers 1 = some 399 := by decide +kernel

theorem witness_ReleaseStopsPartsAndEndsRoles :
    (hour.reg 8).state = .sending ∧ (hour.reg 8).origin = some (.line 8 .a) ∧ hour.callingRole 8 (.line 8) = true ∧
    hour.accepted (.line 8) = .closed ∧ (hour.reg 8).sender = some 0 ∧ hour.sender 0 = .busy (sending .leadPause 0 0 0) ∧
    (sending .leadPause 0 0 0).register = 8 ∧ (hour.modLine 8 fun l => { l with accepted := .opened }).accepted (.line 8) = .opened ∧
    (hour.reg 6).state = .ringing ∧ hour.calledRole 6 26 = true ∧ hour.callingRole 16 (.trunk 1) = true ∧
    (hour.reg 11).state = .tone ∧ hour.callingRole 11 (.line 11) = true := by decide +kernel

theorem witness_ReleaseDealsWithThePath :
    ((hour.reg 1).state = .translated ∧ (hour.reg 1).path.elements = []) ∧
    ((hour.reg 5).state = .set ∧ (hour.reg 5).path.elements ≠ []) ∧
    ((hour.reg 3).state = .connecting ∧ Order.operate 3 ∈ hour.orders.queue) ∧
    ((hour.reg 4).state = .connecting ∧ Order.operate 4 ∉ hour.orders.queue ∧
      hour.orders.inFlight = some ⟨.operate 4, 7, [1, 264, 129], 250, false⟩) := by decide +kernel

theorem witness_release_with_release_queued :
    let s : State := { hour with orders := ⟨[.release 3], none, 7, none⟩ }
    (s.reg 3).state = .connecting ∧ Order.operate 3 ∉ s.orders.queue ∧ s.orders.inFlight = none := by decide +kernel

theorem witness_ReleaseFromTalkMakesTheTicket :
    ((hour.reg 10).state = .talk ∧ (hour.reg 10).reservation = true ∧ (hour.reg 10).origin = some (.line 10 .a) ∧
      (hour.reg 10).route = some 1 ∧ (hour.reg 10).meter = some (context (some 1))) ∧
    ((hour.reg 2).state = .translated ∧ (hour.reg 2).reservation = true) ∧ (hour.reg 1).reservation = false ∧
    tget hour.trans.directory 112 = some ⟨20, .a⟩ := by decide +kernel

theorem witness_EndFromDialling :
    let s := framed (.releaseCall pa 14) hour
    s.takes .a (.releaseCall pa 14) ∧ (14 : Byte).toNat = (14 : RegNo).val ∧ s.handler (.register 14) = some .a ∧ (s.reg 14).state = .dialing ∧
    s.receiver 1 = .attached ⟨false, 15, .brk 400, 0, 0, false⟩ ∧ (s.reg 14).timer = some ⟨.firstDigit, 0⟩ ∧
    (s.reg 15).timer = some ⟨.interdigit, 0⟩ ∧ (s.reg 15).state = .dialing ∧ (s.reg 14).origin = some (.line 14 .a) ∧
    s.callingRole 14 (.line 14) = true ∧ (s.reg 14).receiver = some 0 ∧
    s.receiver 0 = .attached ⟨false, 14, .make, 4, 160, false⟩ ∧ (s.reg 15).origin = some (.trunk 0) ∧
    s.callingRole 15 (.trunk 0) = true ∧ (s.reg 15).receiver = some 1 := by decide +kernel

/-- The exchange with line 40 waiting. -/
def queued : State :=
  let s := (hour.modLine 40 fun l => { l with state := .waiting, waitTimer := some 0, accepted := .closed }).modLine 41 fun l =>
    { l with state := .lockout, accepted := .closed }
  { s with scan := { s.scan with queue := [.line 40 .a] } }

/-- The exchange with line 40 and trunk 3 in the Deferred Set, the Originating Queue having lost an entry. -/
def deferring : State :=
  let s := (queued.modLine 42 fun l => { l with state := .deferred, waitTimer := some 0 }).modTrunk 3 fun k =>
    { k with state := .deferred, waitTimer := some 4 }
  { s with scan := { s.scan with queue := [.trunk 2, .line 40 .a], deferred := [.trunk 3, .line 42 .a] } }

theorem witness_RecordsAsRead :
    (deferring.scan.queue = [.trunk 2] ++ .line 40 .a :: [] ∧ (∀ e ∈ [Origin.trunk 2], e.terminal ≠ .line 40)) ∧
    ((∀ y, Origin.line 40 y ∈ deferring.scan.queue ++ deferring.scan.deferred → y = .a) ∧
      Origin.line 40 .a ∈ deferring.scan.queue ++ deferring.scan.deferred) ∧
    (∀ e ∈ deferring.scan.queue, e.terminal ≠ .line 42) ∧ (∀ y, Origin.line 7 y ∉ deferring.scan.queue ++ deferring.scan.deferred) ∧
    (hour.orders.inFlight = some ⟨.operate 4, 7, [1, 264, 129], 250, false⟩ ∧ [1, 264, 129][2]? = some 129 ∧
      hour.orders.queue[0]? = some (.operate 3) ∧ hour.orders.lastTimeout = none) ∧
    (hour.reg 14).origin = some (.line 14 .a) ∧ (hour.post .maintenance .lockout).att.queue[0]? = some .maintenance ∧
    (1023 : Fin 1024).val = 16 * (63 : Fin 64).val + (15 : Fin 16).val ∧ hour.att.lastTimeout = none := by
  refine ⟨by decide +kernel, ⟨?_, by decide +kernel⟩, by decide +kernel, ?_, by decide +kernel⟩
  all_goals intro y; cases y <;> decide +kernel

theorem witness_ServiceGoesOnWhileItCan :
    (hour.reg 1).state ≠ .free ∧ hour.receiver 0 ≠ .free ∧ hour.scan.deferred = [] ∧ hour.scan.queue = [] := by decide +kernel

theorem witness_WaitingTerminalsAreServedInOrder :
    (deferring.scan.deferred = .trunk 3 :: [.line 42 .a] ∧ deferring.scan.queue.length < 32 ∧
      deferring.scan.queue = [.trunk 2] ++ [.line 40 .a]) ∧
    (queued.scan.deferred = [] ∧ queued.scan.queue = .line 40 .a :: [] ∧ (queued.reg 0).state = .free ∧
      (∀ q : RegNo, q < 0 → (queued.reg q).state ≠ .free) ∧ queued.receiver 2 = .free ∧
      ∀ l : ReceiverNo, l < 2 → queued.receiver l ≠ .free) ∧
    (hour.scan.queue = [] ∧ 32 ≤ (List.replicate 32 (Origin.trunk 0)).length) := by decide +kernel

theorem witness_all_receivers_taken :
    ∀ k, ({ hour with receivers := Vector.replicate 12 .blocked } : State).receiver k ≠ .free := by decide +kernel

theorem witness_all_registers_taken :
    ∀ r, (({ hour with regs := Vector.replicate 40 { CallRegister.free with state := .ended } } : State).reg r).state ≠ .free := by
  decide +kernel

theorem witness_LinesArePutInAndOutOfService :
    let s := framed (.writeLine pa 0 511 4) hour
    s.takes .a (.writeLine pa 0 511 4) ∧ (511 : Half).toNat = (511 : LineNo).val ∧ (4 : Byte).toNat = LineClass.service.code ∧
    (s.line 511).state = .outOfService ∧ (s.line 511).accepted = .opened ∧ (s.line 20).state = .idle ∧
    (queued.line 41).state = .lockout ∧ (queued.line 40).state = .waiting ∧ (s.line 10).state = .originating ∧
    (15 : Half).toNat = (15 : TrunkNo).val ∧ (4 : Byte).toNat ≤ 4 ∧ (s.trunk 15).state = .outOfService ∧
    (s.trunk 1).state = .busy ∧ ((s.modTrunk 15 fun k => { k with state := .lockout }).trunk 15).state = .lockout ∧
    (deferring.trunk 3).state = .deferred ∧ 5 ≤ (5 : Byte).toNat ∧ 2 ≤ (2 : Byte).toNat ∧ 512 ≤ (512 : Half).toNat ∧
    16 ≤ (16 : Half).toNat := by decide +kernel

theorem witness_line_held_by_directory :
    let s := (hour.modLine 20 fun l => { l with cls := .twoParty })
    let u : State := { s with trans := { s.trans with directory := tset s.trans.directory 7 (some ⟨20, .b⟩) } }
    (u.line 20).cls = .twoParty ∧ (u.line 20).state = .idle ∧ tget u.trans.directory 7 = some ⟨20, .b⟩ := by decide +kernel

theorem witness_WaitExpiryLocksOut :
    (queued.line 40).state = .waiting ∧ queued.waitTimer (.line 40) = some 0 ∧ (deferring.line 42).state = .deferred ∧
    deferring.waitTimer (.line 42) = some 0 ∧ deferring.waitTimer (.trunk 3) = some 4 ∧ (hour.line 20).state = .idle := by
  decide +kernel

/-- The idle exchange with a receiver one scan phase short of a clear, line 14 in a break. -/
def inBreak : State := idleExchange.setReceiver 0 (.attached ⟨false, 14, .brk 392, 3, 0, false⟩)

theorem witness_QuietScanPhaseAdvancesTheTimes :
    (∀ n, ((inBreak.line n).samples.shift .opened).allAre (inBreak.line n).accepted.flip = false) ∧
    (∀ i, ((inBreak.trunk i).samples.shift .opened).allAre (inBreak.trunk i).accepted.flip = false) ∧
    (∀ o, ((tget inBreak.scan.answers o).samples.shift false).allAre (!(tget inBreak.scan.answers o).accepted) = false) ∧
    ∀ k a, inBreak.receiver k = .attached a →
      (∀ t, a.phase = .brk t → t + 4 < 400) ∧ (a.phase = .make → a.pulses = 0 ∨ a.makeTime + 4 < 160) := by
  have hl : ∀ n, inBreak.line n = LineRec.cold := fun n => tget_replicate _ n
  have ht : ∀ i, inBreak.trunk i = TrunkRec.cold := fun i => tget_replicate _ i
  have ha : ∀ o, tget inBreak.scan.answers o = ⟨false, ⟨false, false, false⟩⟩ := fun o => tget_replicate _ o
  refine ⟨fun n => by rw [hl]; decide, fun i => by rw [ht]; decide, fun o => by rw [ha]; decide, fun k a h => ?_⟩
  have h0 : inBreak.receiver 0 = .attached ⟨false, 14, .brk 392, 3, 0, false⟩ := by decide +kernel
  have hk : ∀ j, j ≠ 0 → inBreak.receiver j = .free := by decide +kernel
  by_cases e : k = 0
  · subst e
    rw [h0] at h
    cases h
    simp
  · rw [hk k e] at h
    cases h

theorem witness_FiltersTakeSamplesAndAcceptChanges :
    let v := lifting.advanceTimes.takeSamples ⟨[.line 20], [], []⟩
    (∀ k a l, lifting.receiver k = .attached a → a.phase = .brk l → a.makeTime < 160) ∧
    (∀ z, v.loopChangeDue z = decide (z = .line 20)) ∧ (∀ o, v.answerChangeDue o = false) ∧
    ∀ k, ¬((v.receiver k).clearDue = true ∨ (v.receiver k).digitEndDue = true) := by
  have hk : ∀ k, lifting.receiver k = .free := by decide +kernel
  refine ⟨fun k a l h => (by rw [hk] at h; cases h), fun z => ?_, by decide +kernel, by decide +kernel⟩
  cases z with
  | line n =>
    simp only [State.loopChangeDue, State.line, State.takeSamples, State.advanceTimes, lifting, Scanner.cold, tget_tmap, tget_tset,
      tget_replicate]
    by_cases h : n = 20 <;> simp [h, LineRec.cold, Held.shift, Held.allAre, loopSample, Loop.flip]
  | trunk i =>
    simp [State.loopChangeDue, State.trunk, State.takeSamples, State.advanceTimes, lifting, Scanner.cold, tget_tmap,
      tget_replicate, TrunkRec.cold, Held.shift, Held.allAre, loopSample, Loop.flip]

/-- A receiver of the terminal's register whose clear the advance reaches, and one due answer change. -/
theorem witness_clear_before_the_change :
    let s := hour.setReceiver 1 (.attached ⟨false, 15, .brk 396, 0, 0, false⟩)
    let v := s.advanceTimes.takeSamples ⟨[], [], [20]⟩
    v.named (.trunk 0) = some 15 ∧ (v.reg 15).receiver = some 1 ∧ v.receiver 1 = .attached ⟨false, 15, .brk 400, 0, 0, false⟩ ∧
    (v.receiver 1).clearDue = true ∧ (∃ w, exec (.clear 1) v = .next w) ∧
    let u := { hour with scan := { hour.scan with answers := tset hour.scan.answers 20 ⟨false, ⟨false, true, true⟩⟩ } }
    (u.advanceTimes.takeSamples ⟨[], [], [20]⟩).answerChangeDue 20 = true :=
  ⟨by decide +kernel, by decide +kernel, by decide +kernel, by decide +kernel, next_of_goesOn (by decide +kernel),
    by decide +kernel⟩

theorem witness_AcceptedChangesByState :
    ((hour.line 20).state = .idle ∧ hour.scan.queue.length < 32) ∧
    ((hour.modTrunk 5 fun k => { k with state := .idle }).trunk 5).state = .idle ∧
    (deferring.scan.queue = [.trunk 2] ++ [.line 40 .a] ∧ deferring.scan.queue.length < 32) ∧
    ((deferring.line 42).state = .deferred ∧ (deferring.line 42).accepted = .opened) ∧ (hour.line 25).state = .termReserved ∧
    (hour.line 511).state = .outOfService ∧ ((hour.line 10).register = some 10 ∧ (hour.line 10).state = .originating ∧
      (hour.reg 10).state ≠ .dialing) ∧
    ((hour.line 14).state = .originating ∧ (hour.reg 14).state = .dialing ∧ (hour.reg 14).receiver = some 0) ∧
    (hour.line 26).state = .termRinging ∧ ((hour.line 60).state = .termBusy ∧ (hour.line 60).register = some 16 ∧
      (hour.reg 16).timer = some ⟨.calledRelease, 0⟩) ∧
    ((hour.trunk 1).state = .busy ∧ (hour.trunk 1).register = some 16 ∧ (hour.reg 16).state ≠ .dialing) ∧
    ((hour.trunk 0).state = .busy ∧ (hour.trunk 0).register = some 15 ∧ (hour.reg 15).receiver = some 1) := by decide +kernel

theorem witness_answer_changes :
    (hour.reg 8).path.middle = some (outElem 20) ∧ (∀ q, q ≠ 8 → (hour.reg q).path.middle ≠ some (outElem 20)) ∧
    (hour.reg 10).path.middle = some (outElem 28) ∧ (hour.reg 10).state = .talk ∧
    (hour.reg 7).path.middle = some (outElem 16) ∧ (hour.reg 7).state = .set := by decide +kernel

theorem witness_full_queue :
    ({ hour with scan := { hour.scan with queue := List.replicate 32 (.trunk 9) } } : State).scan.queue.length = 32 := by decide +kernel

/-- Nothing but line 40, which waits. -/
def waiting : State :=
  { State.reset with scan := { Scanner.cold with
    lines := tset Scanner.cold.lines 40 { LineRec.cold with state := .waiting, waitTimer := some 60000 }, queue := [.line 40 .a] } }

/-- The law of the Originating Queue holds of it. -/
theorem witness_QueueLawIsKept : QueueLaw waiting := by
  have hl : ∀ n, waiting.line n = if n = 40 then { LineRec.cold with state := .waiting, waitTimer := some 60000 } else LineRec.cold :=
    fun n => by
      show tget (tset (Vector.replicate 512 LineRec.cold) _ _) n = _
      rw [tget_tset, tget_replicate]
  have ht : ∀ i, waiting.trunk i = TrunkRec.cold := fun i => tget_replicate _ i
  refine ⟨by decide, by decide, ⟨[], [.line 40 .a], rfl, by decide, by decide⟩, fun t => ?_, fun t => ?_, by decide, by decide⟩
  · show State.waits waiting t ↔ t ∈ [Terminal.line 40]
    cases t with
    | line n => by_cases h : n = 40 <;> simp [State.waits, hl, h, LineRec.cold]
    | trunk i => simp [State.waits, ht, TrunkRec.cold]
  · show State.isDeferred waiting t ↔ t ∈ []
    cases t with
    | line n => by_cases h : n = 40 <;> simp [State.isDeferred, hl, h, LineRec.cold]
    | trunk i => simp [State.isDeferred, ht, TrunkRec.cold]

/-- A step from it, and from the exchange with its calls, is a next state, as the laws' statements ask. -/
theorem witness_steps_go_on : (∃ t, step waiting = .next t) ∧ ∃ u, step hour = .next u :=
  ⟨next_of_goesOn (by decide +kernel), next_of_goesOn (by decide +kernel)⟩

/-- A receiver attached to register 14 in a phase, with a count of pulses. -/
def dialling (phase : DialPhase) (pulses : Nat) : State := hour.setReceiver 0 (.attached ⟨false, 14, phase, pulses, 0, pulses = 0⟩)

theorem witness_BreaksAreClassifiedByLength :
    (dialling .make 0).receiver 0 = .attached ⟨false, 14, .make, 0, 0, true⟩ ∧
    (dialling (.brk 23) 0).receiver 0 = .attached ⟨false, 14, .brk 23, 0, 0, true⟩ ∧
    (dialling (.brk 24) 9).receiver 0 = .attached ⟨false, 14, .brk 24, 9, 0, false⟩ ∧
    (dialling (.brk 100) 10).receiver 0 = .attached ⟨false, 14, .brk 100, 10, 0, false⟩ ∧
    (dialling (.brk 101) 1).receiver 0 = .attached ⟨false, 14, .brk 101, 1, 0, false⟩ ∧
    (hour.reg 14).origin = some (.line 14 .a) ∧ (hour.reg 14).receiver = some 0 := by decide +kernel

theorem witness_DigitEndAppendsAndWalks :
    hour.receiver 0 = .attached ⟨false, 14, .make, 4, 160, false⟩ ∧ digitPulses 4 = 4 ∧ digitPulses 0 = 10 ∧
    ((hour.translate 14 4).reg 14).state = .dialing ∧ (hour.translate 14 4).routeEntry 14 = some (.localCall 1 2) ∧
    (hour.translate 14 6).toneOf (.line 14) = some .nu ∧ ((hour.translate 14 6).reg 14).state ≠ .dialing ∧
    (dialling (.brk 399) 1).receiver 0 = .attached ⟨false, 14, .brk 399, 1, 0, false⟩ := by decide +kernel

/-- Register 14 with digits and slot 4 of node 0 as given, and the ticket places as given. -/
def walking (digits : List Digit) (x : Slot) (e : RouteEntry) (reserved : Nat) : State :=
  let s := hour.modReg 14 fun g => { g with digits := digits }
  { s with
    trans := { s.trans with
      nodes := tmod s.trans.nodes 0 fun v => tset v 4 x
      routes := tset s.trans.routes 2 ⟨e, 0⟩ }
    tickets := { s.tickets with reserved := reserved } }

theorem witness_DigitsAreWalkedAndRoutesChecked :
    (hour.reg 14).walkNode = some 0 ∧ (hour.reg 14).origin = some (.line 14 .a) ∧ hour.accessLevel (.line 14) = 2 ∧
    tget (tget (walking (List.replicate 13 1) (.node 127) .invalid 0).trans.nodes 0) 4 = .node 127 ∧
    ((walking (List.replicate 14 1) (.node 127) .invalid 0).reg 14).digits.length = 14 ∧
    tget (tget (walking [] .vacant .invalid 0).trans.nodes 0) 4 = .vacant ∧
    ((walking [] (.route 2) .invalid 0).route 2).entry = .invalid ∧
    (((walking (List.replicate 12 1) (.route 2) (.localCall 3 0) 0).route 2).entry = .localCall 3 0 ∧
      ((walking (List.replicate 12 1) (.route 2) (.localCall 3 0) 0).reg 14).digits.length = 12) ∧
    ((walking [4] (.route 2) (.outgoing 2 7 true 7 none [] 0 0) 64).tickets.reserved = 64 ∧
      (walking [4] (.route 2) (.outgoing 2 7 true 7 none [] 0 0) 63).tickets.reserved = 63) := by decide +kernel

theorem witness_RefusalsAndRouteResultsAreRecorded :
    (hour.reg 14).origin = some (.line 14 .a) ∧ (hour.reg 14).receiver = some 0 ∧
    hour.receiver 0 = .attached ⟨false, 14, .make, 4, 160, false⟩ ∧ hour.accepted (.line 14) = .closed ∧
    (walking [] .vacant .invalid 55).tickets.stored.length + (walking [] .vacant .invalid 55).tickets.reserved = 55 := by decide +kernel

/-- Register 14 after a LOCAL route result with `n` directory digits collected before this one. -/
def collecting (n : Nat) (digits : List Digit) : State :=
  hour.modReg 14 fun g => { g with walkNode := none, route := some 0, directoryDigits := n, digits := digits }

theorem witness_StringsComplete :
    ((collecting 1 [4, 1, 1]).routeEntry 14 = some (.localCall 1 2) ∧ ((collecting 1 [4, 1, 1]).reg 14).directoryDigits < 2) ∧
    (((collecting 2 [4, 1, 1, 2]).reg 14).directoryDigits = 2 ∧ ((collecting 2 [4, 1, 1, 2]).reg 14).digits = [4] ++ [1, 1, 2] ∧
      (112 : Fin 1000).val = 100 * (1 : Digit).val + 10 * (1 : Digit).val + (2 : Digit).val ∧
      tget hour.trans.directory 112 = some ⟨20, .a⟩ ∧ (hour.line 20).state ≠ .outOfService) ∧
    (tget hour.trans.directory 999 = none ∧ (hour.line 511).state = .outOfService) ∧
    ((hour.modReg 14 fun g => { g with timer := some ⟨.endOfDialing, 0⟩ }).reg 14).timer = some ⟨.endOfDialing, 0⟩ ∧
    (hour.reg 14).timer ≠ some ⟨.endOfDialing, 0⟩ ∧ (hour.reg 15).origin = some (.trunk 0) ∧ (hour.trunk 0).accepted = .opened ∧
    hour.routeEntry 2 = some (.outgoing 1 3 true 0 none [] 0 3) ∧ (hour.reg 2).walkNode = none ∧
    (hour.reg 2).digits.length = 3 := by decide +kernel

theorem witness_UnitsAreBlockedAndUnblocked :
    let s := framed (.blockReceiver pa 11) hour
    s.takes .a (.blockReceiver pa 11) ∧ 12 ≤ (12 : Byte).toNat ∧ 6 ≤ (6 : Byte).toNat ∧ (11 : Byte).toNat = (11 : ReceiverNo).val ∧
    s.receiver 11 = .free ∧ (s.setReceiver 11 .blocked).receiver 11 = .blocked ∧
    s.receiver 0 = .attached ⟨false, 14, .make, 4, 160, false⟩ ∧ (5 : Byte).toNat = (5 : SenderNo).val ∧
    s.sender 5 = .free ∧ (s.setSender 5 .blocked).sender 5 = .blocked ∧
    s.sender 0 = .busy (sending .leadPause 0 0 0) := by decide +kernel

/-- The bytes of a route entry OUTGOING with a prefix of one digit 0. -/
def routeBytes : RouteBytes := ⟨2, 3, 7, 1, 7, 255, 1, 10, 99, 99, 99, 14, 14⟩

theorem witness_TranslationDataIsWritten :
    let s := framed (.setIncomingRoot pa 127) hour
    s.takes .a (.setIncomingRoot pa 127) ∧ ((127 : Byte).toNat = (127 : NodeNo).val ∧ (10 : Byte).toNat = digitPulses 0 ∧ (47 : Byte).toNat = (47 : RouteNo).val) ∧
    (128 ≤ (128 : Byte).toNat ∧ 11 ≤ (11 : Byte).toNat ∧ 3 ≤ (3 : Byte).toNat ∧ 48 ≤ (48 : Byte).toNat) ∧
    ((∀ c ∈ [routeBytes.digit1, routeBytes.digit2, routeBytes.digit3, routeBytes.digit4].take routeBytes.count.toNat,
      1 ≤ c.toNat ∧ c.toNat ≤ 10) ∧ (s.route 47).refCount = 0 ∧ 0 < (s.route 1).refCount) ∧
    (1000 ≤ (1000 : Half).toNat ∧ 512 ≤ (512 : Half).toNat ∧ (999 : Half).toNat = (999 : Fin 1000).val ∧
      (511 : Half).toNat = (511 : LineNo).val ∧ (1 : Byte).toNat = Party.b.code ∧ (s.line 511).cls ≠ .twoParty) ∧
    (tget s.trans.directory 112 = some ⟨20, .a⟩ ∧ (112 : Fin 1000) ≠ 999) ∧ (s.reg 14).state = .dialing ∧
    ∀ r, (hourA.reg r).state ≠ .dialing := by decide +kernel

theorem witness_HuntPathTakesOrRefusesAPath :
    let s := framed (.huntPath pa 1) hour
    s.takes .a (.huntPath pa 1) ∧ (1 : Byte).toNat = (1 : RegNo).val ∧ s.handler (.register 1) = some .a ∧ (s.reg 1).state = .translated ∧
    (∀ e, s.elem e ≠ .initialising) ∧ (s.reg 1).origin = some (.line 33 .a) ∧ s.routeEntry 1 = some (.localCall 1 2) ∧
    (s.reg 1).destination = some ⟨20, .a⟩ ∧ (s.line 20).state = .idle ∧ (s.line 25).state ≠ .idle ∧
    s.routeEntry 2 = some (.outgoing 1 3 true 0 none [] 0 3) ∧ (s.reg 2).origin = some (.line 2 .a) := by decide +kernel

theorem witness_hunt_from_a_trunk :
    let s := hour.modReg 1 fun g => { g with origin := some (.trunk 15) }
    let u := hour.modReg 2 fun g => { g with origin := some (.trunk 15) }
    (s.reg 1).origin = some (.trunk 15) ∧ s.routeEntry 1 = some (.localCall 1 2) ∧ (u.reg 2).origin = some (.trunk 15) ∧
      (u.reg 2).state = .translated := by decide +kernel

theorem witness_HuntsTakeTheFirstUsableSwitch :
    (hour.elem (oLink 1 4) = .free ∧ hour.elem (tLink 0 4) = .free ∧ hour.elem (junctorElem 32) = .free) ∧
    (∀ w : Fin 8, w < 4 → ¬(hour.elem (oLink 1 w) = .free ∧ hour.elem (tLink 0 w) = .free)) ∧
    (∀ w : Fin 8, ¬hour.elem (oLink 0 w) = .free) ∧ hour.elem (outElem 0) = .free ∧ tget hour.net.groups 0 = some 0 ∧
    hour.elem (oLink 1 1) = .free ∧ (7 : Fin 8).val = (15 : TrunkNo).val / 2 := by decide +kernel

theorem witness_ElementsAreSeizedReturnedAndGrouped :
    let s := framed (.seizeElement pa 351) hour
    s.takes .a (.seizeElement pa 351) ∧ 352 ≤ (352 : Half).toNat ∧ (351 : Half).toNat = (351 : ElemNo).val ∧ s.elem 351 = .free ∧
    s.elem 0 = .reserved ∧ (s.setElem 351 .faulted).elem 351 = .faulted ∧ 32 ≤ (32 : Byte).toNat ∧
    (8 ≤ (254 : Byte).toNat ∧ (254 : Byte).toNat ≠ 255) ∧ (31 : Byte).toNat = (31 : OutNo).val ∧
    (255 : Byte).toNat = (((none : Option GroupNo).map (·.val)).getD 255) ∧ s.elem (outElem 31) = .free ∧
    s.elem (outElem 28) = .held := by decide +kernel

theorem witness_OrdersAreTakenOldestFirst :
    (({ hour with orders := ⟨[.operate 3], none, 255, none⟩ } : State).orders.inFlight = none) ∧
    hour.orders.inFlight ≠ none ∧ (hour.reg 3).path.elements = [0, 256, 128] := by decide +kernel

theorem witness_CompletionsAreMatchedAndTimed :
    hour.orders.inFlight = some ⟨.operate 4, 7, [1, 264, 129], 250, false⟩ ∧ (Order.operate 4).kind = .operate ∧
    (Order.operate 4).kind ≠ .release ∧ (7 : BitVec 8) ≠ 8 ∧
    (State.reset.orders.inFlight = some ⟨.networkClear, 1, List.finRange 352, 0, false⟩) ∧ idleExchange.orders.inFlight = none := by
  decide +kernel

theorem witness_completion_results : ((1 : Half), true) ∈ [((1 : Half), true), (264, false)] ∧ (1 : Half).toNat = (1 : ElemNo).val ∧
    (264 : Half).toNat ≠ (1 : ElemNo).val := by decide +kernel

theorem witness_OrderResultsAreApplied :
    let f : InFlight := ⟨.operate 4, 7, [1, 264, 129], 250, false⟩
    (∀ e ∈ f.elements, (fun _ : ElemNo => true) e = true) ∧ (∃ e ∈ f.elements, decide (e.val = 264) = true) ∧
    (∃ e ∈ f.elements, decide (e.val = 264) = false) ∧ f.elements ≠ [] ∧ (∀ e ∈ f.elements, (fun _ : ElemNo => false) e = false) ∧
    (hour.reg 4).destination = some ⟨24, .a⟩ ∧ (hour.line 24).state = .termReserved ∧ (hour.line 24).register = some 4 ∧
    (hour.line 24).accepted = .opened ∧ (hour.reg 12).state = .clearing ∧ (hour.reg 3).state = .connecting := by decide +kernel

theorem witness_RingAndAnswer :
    let s := framed (.ring pa 5) hour
    s.takes .a (.ring pa 5) ∧ (5 : Byte).toNat = (5 : RegNo).val ∧ s.handler (.register 5) = some .a ∧ (s.reg 5).state = .set ∧
    s.routeEntry 5 = some (.localCall 1 2) ∧ (s.reg 5).destination = some ⟨25, .a⟩ ∧ s.calledRole 5 25 = true ∧
    (s.line 25).earlyOffHook = some false ∧
    ((s.modLine 25 fun l => { l with earlyOffHook := some true }).line 25).earlyOffHook = some true ∧
    (s.reg 7).state = .set ∧ s.routeEntry 7 = some (.outgoing 1 3 true 0 none [] 0 3) ∧
    (s.reg 8).origin = some (.line 8 .a) ∧ (s.reg 8).sender = some 0 ∧ s.sender 0 = .busy (sending .leadPause 0 0 0) ∧
    (s.reg 6).sender = none ∧ s.calledRole 6 26 = true := by decide +kernel

theorem witness_SendAttachesASender :
    let s := framed (.send pa 7) hour
    s.takes .a (.send pa 7) ∧ (7 : Byte).toNat = (7 : RegNo).val ∧ s.handler (.register 7) = some .a ∧ (s.reg 7).state = .set ∧
    s.routeEntry 7 = some (.outgoing 1 3 true 0 none [] 0 3) ∧ ([] : List Digit) ++ (s.reg 7).digits.drop 0 ≠ [] ∧
    s.sender 1 = .free ∧ (∀ l : SenderNo, l < 1 → s.sender l ≠ .free) ∧ (s.reg 7).path.middle = some (outElem 16) ∧
    tget s.sig.senderSignals 1 = ⟨none, .closed⟩ ∧ s.routeEntry 5 = some (.localCall 1 2) ∧ (s.reg 5).state = .set := by
  decide +kernel

theorem witness_send_nothing_and_no_sender :
    let s : State := { hour with trans := { hour.trans with routes := tset hour.trans.routes 1 ⟨.outgoing 1 3 true 0 none [] 3 3, 3⟩ } }
    let u : State := { hour with sig := { hour.sig with senders := Vector.replicate 6 .blocked } }
    (s.routeEntry 7 = some (.outgoing 1 3 true 0 none [] 3 3) ∧ ([] : List Digit) ++ (s.reg 7).digits.drop 3 = []) ∧
    ∀ k, u.sender k ≠ .free := by decide +kernel

/-- Sender 0 in a phase. -/
def senderIn (phase : SenderPhase) (pulses time position : Nat) : State :=
  hour.setSender 0 (.busy (sending phase pulses time position))

theorem witness_SenderMovesPhaseByPhase :
    (senderIn .leadPause 0 1 0).sender 0 = .busy (sending .leadPause 0 1 0) ∧
    (senderIn .digitPause 0 0 1).sender 0 = .busy (sending .digitPause 0 0 1) ∧
    (senderIn .brk 1 0 0).sender 0 = .busy (sending .brk 1 0 0) ∧ (senderIn .make 1 0 1).sender 0 = .busy (sending .make 1 0 1) ∧
    ((sending .make 0 0 0).position + 1 < (sending .make 0 0 0).digits.length) ∧
    ((sending .make 0 0 1).digits.length ≤ (sending .make 0 0 1).position + 1) ∧ hour.sender 5 = .free := by decide +kernel

theorem witness_OutpulsingTakesTheStatedTime :
    ([1, 2] : List Digit) ≠ [] ∧ (senderIn .brk 1 66 0).sender 0 = .busy (sending .brk 1 66 0) ∧ 0 < (sending .brk 1 66 0).phaseTime ∧
    (sending .brk 1 66 0).position < (sending .brk 1 66 0).digits.length ∧ 1 ≤ (sending .brk 1 66 0).pulsesLeft ∧
    (sending .brk 1 0 0).timeLeft ≠ 0 ∧ (sending .make 0 0 1).timeLeft = 0 := by decide +kernel

theorem witness_UnansweredCallsGoToTone :
    ((hour.reg 6).origin = some (.line 6 .a) ∧ (hour.reg 6).receiver = none ∧ (hour.reg 6).walkNode = none ∧
      (hour.reg 6).state = .ringing ∧ (hour.reg 6).timer = some ⟨.ring, 0⟩ ∧ (hour.reg 6).destination = some ⟨26, .a⟩ ∧
      hour.calledRole 6 26 = true ∧ (hour.line 26).accepted = .opened) ∧
    ((hour.reg 9).origin = some (.line 9 .a) ∧ (hour.reg 9).receiver = none ∧ (hour.reg 9).walkNode = none ∧
      (hour.reg 9).state = .awaitAnswer ∧ (hour.reg 9).timer = some ⟨.answerWait, 0⟩) := by decide +kernel

theorem witness_TariffsBandAndClockAreSet :
    let s := framed (.applyTariffs pa) hour
    s.takes .a (.applyTariffs pa) ∧ 8 ≤ (8 : Byte).toNat ∧ 3 ≤ (3 : Byte).toNat ∧ 16 ≤ (16 : Byte).toNat ∧ (7 : Byte).toNat = (7 : Zone).val ∧
    (2 : Byte).toNat = Band.night.code ∧ (15 : Byte).toNat = (15 : Fin 16).val ∧ 1440 ≤ (1440 : Half).toNat ∧
    (1439 : Half).toNat < 1440 := by decide +kernel

theorem witness_FramesLastSixteenPeriodsAndF : 1 ≤ (⟨2, 1, 15⟩ : TariffCell).period.val ∧ 1 ≤ (⟨2, 1, 15⟩ : TariffCell).fraction.val := by
  decide

theorem witness_AnswerStartsTheMeterContext :
    (hour.reg 9).origin = some (.line 9 .a) ∧ (hour.routeEntry 9).bind RouteEntry.terms = some (1, 3, true) ∧
    ((hour.modLine 9 fun l => { l with cls := .service }).line 9).cls = .service := by decide +kernel

theorem witness_meterRange : MeterRange hour := fun i => by
  have h : hour.store.meters = Vector.replicate 1024 ⟨0, false⟩ := rfl
  rw [h, tget_replicate]
  decide

theorem witness_clockRange : ClockRange ({ hour with tariff := { hour.tariff with minute := 1439, stepCount := 599 } } : State) := by
  unfold ClockRange; decide +kernel

theorem witness_MeteringStepsCountAndCharge :
    (hour.reg 10).meter = some (context (some 1)) ∧ (context (some 1)).periodRemaining = some 1 ∧
    (context (some 1)).generation = hour.tariff.generation ∧ (∀ r, r ≠ 10 → (hour.reg r).meter = none) ∧
    (context (some 3)).periodRemaining = some (1 + 2) ∧ (context none).periodRemaining = none ∧
    (context (some 1)).generation ≠ (1 : BitVec 8) ∧ (context (some 0)).periodRemaining = some 0 := by decide +kernel

theorem witness_MetersAreAddedToAndPreset :
    let s := framed (.adjustMeter pa 511 1 65535) hour
    s.takes .a (.adjustMeter pa 511 1 65535) ∧ (511 : Half).toNat = (511 : LineNo).val ∧ (1 : Byte).toNat = Party.b.code ∧ (0 : Half).toNat = 0 ∧
    (65535 : Half).toNat ≠ 0 ∧ 512 ≤ (512 : Half).toNat ∧ 2 ≤ (2 : Byte).toNat ∧ (s.line 511).state = .outOfService ∧
    (s.line 10).state ≠ .outOfService ∧ tget sweeping.store.marks 1023 = false := by decide +kernel

theorem witness_SnapshotIsSweptAndReleased :
    let s := framed (.takeSnapshot .billing) hour
    s.listens .billing (.takeSnapshot .billing) = true ∧ s.store.snapshot = .idle ∧ sweeping.store.snapshot ≠ .idle ∧
    sweeping.store.snapshot = .sweeping (1023 : Fin 1024).val 20 ∧ 1024 ≤ 1024 ∧ 19 < 20 := by decide +kernel

/-- A Take Snapshot from IDLE leads to SWEEPING, a sweep whose time is up to READY. -/
theorem witness_SnapshotKeepsTheInstant :
    (∃ t, step { framed (.takeSnapshot .billing) hour with pending := [.takeSnapshot .billing] } = .next t) ∧
    (after (step { framed (.takeSnapshot .billing) hour with pending := [.takeSnapshot .billing] })).store.snapshot =
      .sweeping 0 0 ∧
    (∃ t, step { sweeping with pending := [.sweepCompletion] } = .next t) ∧
    (after (step { sweeping with pending := [.sweepCompletion] })).store.snapshot = .ready :=
  ⟨next_of_goesOn (by decide +kernel), by decide +kernel, next_of_goesOn (by decide +kernel), by decide +kernel⟩

theorem witness_MetersNeverFall : ∃ t, step { hour with pending := [.meteringStepBoundary] } = .next t :=
  next_of_goesOn (by decide +kernel)

theorem witness_TicketsAreRemovedByNumber :
    let s := framed (.removeTicket .billing 0) hour
    s.listens .billing (.removeTicket .billing 0) = true ∧ s.tickets.stored = [] ∧ (s.ticketOf ⟨10, .a⟩ [1] 1 (context none)).sequence = 0 ∧
    (framed (.setDirectoryDigit pa 10) hour).takes .a (.setDirectoryDigit pa 10) ∧ (0 : Byte).toNat = 0 ∧ 11 ≤ (11 : Byte).toNat ∧ (10 : Byte).toNat = digitPulses 0 := by decide +kernel

theorem witness_EventsArePostedTakenAndFinished :
    let s := framed (.done pa 13) hour
    s.takes .a (.done pa 13) ∧ s.att.queue = [] ∧ (s.subject (.register 1)).binding ≠ none ∧
    ((s.subject (.register 16)).queued = false ∧ (s.subject (.register 16)).binding = none) ∧
    (s.post .maintenance .lockout).att.queue = [.maintenance] ∧ 41 ≤ (41 : Byte).toNat ∧
    (40 : Byte).toNat = (subjectIndex .maintenance).val ∧ s.handler .maintenance = none ∧
    (s.handler (.register 13) = some .a ∧ (s.subject (.register 13)).pending = 0 ∧ (s.reg 13).state = .ended) ∧
    ((s.post (.register 1) .answer).subject (.register 1)).pending ≠ 0 ∧
    ((s.post (.register 1) .answer).subject (.register 1)).queued = false ∧ (framed (.done (.controller .b) 13) hour).takes .b (.done (.controller .b) 13) ∧ Side.b.other = .a := by decide +kernel

theorem witness_ActingCommandsNeedTheBinder :
    let s := framed (.huntPath pa 10) hour
    s.takes .a (.huntPath pa 10) ∧ 3 ≤ (3 : Byte).toNat ∧ (2 : Byte).toNat < 3 ∧ 40 ≤ (40 : Byte).toNat ∧ s.handler (.register 16) = none ∧
    (framed (.send (.controller .b) 1) hour).takes .b (.send (.controller .b) 1) ∧ s.handler (.register 1) = some Side.b.other ∧ s.handler (.register 10) = some .a ∧
    (s.reg 10).state = .talk ∧ s.handler (.register 13) = some .a ∧ (s.reg 13).state = .ended ∧
    State.reset.elem 0 = .initialising := by decide +kernel

theorem witness_PortsAreFencedAndAdmitted :
    let s := framed (.fenceOther (.controller .b)) hour
    s.takes .b (.fenceOther (.controller .b)) ∧ (s.att.port Side.b.other).fenced = false ∧ s.handler (.register 1) = some Side.b.other ∧
    (framed (.admitOther (.controller .b)) fencedA).takes .b (.admitOther (.controller .b)) ∧ (fencedA.att.port Side.b.other).fenced = true ∧ 2 ≤ (2 : Byte).toNat ∧ (1 : Byte).toNat = true.toNat := by
  decide +kernel

theorem witness_attentionLaw_fenced : AttentionLaw fencedA := by
  unfold AttentionLaw
  refine ⟨by decide +kernel, fun j => ?_⟩
  cases j with
  | maintenance => decide +kernel
  | register r => revert r; decide +kernel

theorem witness_HandlingLimitReturnsAndStrikes :
    (hour.subject (.register 1)).binding = some ⟨.a, 3000⟩ ∧ (hour.subject (.register 13)).binding = some ⟨.a, 0⟩ ∧
    (hour.subject .maintenance).binding = none := by decide +kernel

theorem witness_RestartsAreStarted :
    let s := framed (.initialise pa) hour
    s.takes .a (.initialise pa) ∧ (s.reg 1).state ≠ .free ∧ (framed (.initialise pa) idleExchange).takes .a (.initialise pa) ∧ (framed (.restart pa) hour).takes .a (.restart pa) ∧ (∀ r, (idleExchange.reg r).state = .free) ∧
    s.restartLine = false ∧ ({ hour with restartLine := true } : State).restartLine = true := by decide +kernel

theorem witness_WarmRestartKeepsTheCallsInTalk :
    (∀ k b, hour.sender k = .busy b → (hour.reg b.register).state = .sending) ∧
    ∀ r k, (hour.reg r).sender = some k → ∃ b, hour.sender k = .busy b ∧ b.register = r := by
  have h0 : hour.sender 0 = .busy (sending .leadPause 0 0 0) := by decide +kernel
  have hk : ∀ k, k ≠ 0 → hour.sender k = .free := by decide +kernel
  have hr : ∀ r, (hour.reg r).sender = if r = 8 then some 0 else none := by decide +kernel
  refine ⟨fun k b h => ?_, fun r k h => ?_⟩
  · by_cases e : k = 0
    · subst e
      rw [h0] at h
      cases h
      decide +kernel
    · rw [hk k e] at h
      cases h
  · rw [hr] at h
    by_cases e : r = 8
    · subst e
      simp only [if_true, Option.some.injEq] at h
      subst h
      exact ⟨_, h0, rfl⟩
    · simp [e] at h

theorem witness_WarmRestartReturnsWhatItEnds :
    (∀ k b, hour.sender k = .busy b → (hour.reg b.register).state = .sending ∧ (hour.reg b.register).sender = some k) ∧
    (∀ r k, (hour.reg r).sender = some k → ∃ b, hour.sender k = .busy b ∧ b.register = r) ∧
    (∀ k a, hour.receiver k = .attached a → (hour.reg a.register).state = .dialing ∧ (hour.reg a.register).receiver = some k) ∧
    ∀ r k, (hour.reg r).receiver = some k → ∃ a, hour.receiver k = .attached a ∧ a.register = r := by
  have s0 : hour.sender 0 = .busy (sending .leadPause 0 0 0) := by decide +kernel
  have sk : ∀ k, k ≠ 0 → hour.sender k = .free := by decide +kernel
  have r0 : hour.receiver 0 = .attached ⟨false, 14, .make, 4, 160, false⟩ := by decide +kernel
  have r1 : hour.receiver 1 = .attached ⟨false, 15, .brk 400, 0, 0, false⟩ := by decide +kernel
  have rk : ∀ k, k ≠ 0 → k ≠ 1 → hour.receiver k = .free := by decide +kernel
  have gr : ∀ r, (hour.reg r).receiver = if r = 14 then some 0 else if r = 15 then some 1 else none := by decide +kernel
  refine ⟨fun k b h => ?_, witness_WarmRestartKeepsTheCallsInTalk.2, fun k a h => ?_, fun r k h => ?_⟩
  · by_cases e : k = 0
    · subst e
      rw [s0] at h
      cases h
      decide +kernel
    · rw [sk k e] at h
      cases h
  · by_cases e : k = 0
    · subst e
      rw [r0] at h
      cases h
      decide +kernel
    · by_cases e1 : k = 1
      · subst e1
        rw [r1] at h
        cases h
        decide +kernel
      · rw [rk k e e1] at h
        cases h
  · rw [gr] at h
    by_cases e : r = 14
    · subst e
      simp only [if_true, Option.some.injEq] at h
      subst h
      exact ⟨_, r0, rfl⟩
    · by_cases e1 : r = 15
      · subst e1
        simp [show ¬(15 : RegNo) = 14 by decide] at h
        subst h
        exact ⟨_, r1, rfl⟩
      · simp [e, e1] at h

/-- No port is fenced in the exchange with its calls. -/
theorem witness_FenceLawIsKept : FenceLaw hour := by
  have h : ∀ x, (hour.att.port x).fenced = false := by
    intro x
    cases x <;> decide +kernel
  exact ⟨by simp [h], fun x j hx => by simp [h] at hx⟩

end Sys2Proof.Tests
end

section
/-! SUPPORT. What the readers of operands answer, each as one `↔` between the operand's number and the value it names (11.6). -/

namespace Sys2Proof.Machine

/-- A number is read as itself, and only in range; `numbered_val` is one direction. -/
theorem numbered_eq_some_iff {n x : Nat} {i : Fin n} : numbered n x = some i ↔ x = i.val := by
  constructor
  · intro h
    by_cases hx : x < n
    · simp only [numbered, hx, dite_true, Option.some.injEq] at h
      rw [← h]
    · simp [numbered, hx] at h
  · exact numbered_val i

theorem partyOperand_eq_some_iff {b : Byte} {y : Party} : partyOperand b = some y ↔ b.toNat = y.code := by
  unfold partyOperand
  cases y <;> split <;> simp_all [Party.code]

theorem partyOperand_eq_none {b : Byte} (h : 2 ≤ b.toNat) : partyOperand b = none := by
  refine Option.eq_none_iff_forall_ne_some.2 fun y hy => ?_
  rw [partyOperand_eq_some_iff] at hy
  cases y <;> simp only [Party.code] at hy <;> omega

theorem flagOperand_eq_some_iff {b : Byte} {y : Bool} : flagOperand b = some y ↔ b.toNat = y.toNat := by
  unfold flagOperand
  cases y <;> split <;> simp_all

theorem groupOperand_eq_some_iff {b : Byte} {g : Option GroupNo} :
    groupOperand b = some g ↔ b.toNat = (g.map (·.val)).getD 255 := by
  unfold groupOperand
  cases g with
  | none => split <;> simp_all
  | some g =>
    have hg : g.val < 8 := g.isLt
    split
    · next h => exact iff_of_false nofun (by simp only [Option.map_some, Option.getD_some]; omega)
    · simp [numbered_eq_some_iff]

/-! ### Digits -/

/-- The codes of the digits are 1 to 10: as many as the digit's pulses. -/
theorem exists_digitPulses_eq_iff {n : Nat} : (∃ d, digitPulses d = n) ↔ 1 ≤ n ∧ n ≤ 10 := by
  constructor
  · rintro ⟨d, rfl⟩
    unfold digitPulses
    split <;> omega
  · rintro ⟨h1, h10⟩
    by_cases h : n = 10
    · exact ⟨0, by simp [digitPulses, h]⟩
    · exact ⟨⟨n, by omega⟩, if_neg (show n ≠ 0 by omega)⟩

theorem digitOperand_eq_some_iff {b : Byte} {d : Digit} : digitOperand b = some d ↔ digitPulses d = b.toNat := by
  have hd : d.val < 10 := d.isLt
  unfold digitOperand digitPulses
  split_ifs with h10 hz h0 hz hz
  · exact iff_of_true (congrArg some (Fin.ext hz.symm)) h10.symm
  · exact iff_of_false (fun h => hz (Option.some.inj h ▸ rfl)) (by omega)
  · exact iff_of_false nofun (by omega)
  · exact iff_of_false nofun (by omega)
  · rw [numbered_eq_some_iff]
    omega
  · rw [numbered_eq_some_iff]
    exact eq_comm

theorem digitOperand_eq_none {b : Byte} (h : b.toNat = 0 ∨ 11 ≤ b.toNat) : digitOperand b = none := by
  refine Option.eq_none_iff_forall_ne_some.2 fun d hd => ?_
  have := exists_digitPulses_eq_iff.1 ⟨d, digitOperand_eq_some_iff.1 hd⟩
  omega

theorem mapM_digitOperand_eq_some_iff {codes : List Byte} {ds : List Digit} :
    codes.mapM digitOperand = some ds ↔ ds.map digitPulses = codes.map (·.toNat) := by
  induction codes generalizing ds with
  | nil =>
    rw [List.mapM_nil, List.map_nil, List.map_eq_nil_iff, Option.pure_def, Option.some.injEq]
    exact eq_comm
  | cons c codes ih =>
    cases ds with
    | nil => simp [Option.bind_eq_some_iff]
    | cons d ds => simp [Option.bind_eq_some_iff, ih, digitOperand_eq_some_iff]

/-- A list of codes spells digits when each of them is the code of one. -/
theorem exists_digits_iff {codes : List Byte} :
    (∃ ds : List Digit, ds.map digitPulses = codes.map (·.toNat)) ↔ ∀ c ∈ codes, 1 ≤ c.toNat ∧ c.toNat ≤ 10 := by
  have h := Set.ext_iff.1 (Set.range_list_map digitPulses) (codes.map (·.toNat))
  simpa [exists_digitPulses_eq_iff] using h

/-! ### Slots of a node and contents of the directory -/

theorem slotOperand_vacant {kind : Byte} (h : kind.toNat = 0) (number : Byte) : slotOperand kind number = some .vacant := by
  simp [slotOperand, h]

theorem slotOperand_node {kind number : Byte} (h : kind.toNat = 1) (m : NodeNo) (hm : number.toNat = m.val) :
    slotOperand kind number = some (.node m) := by
  simp [slotOperand, h, numbered_val m hm]

theorem slotOperand_route {kind number : Byte} (h : kind.toNat = 2) (t : RouteNo) (ht : number.toNat = t.val) :
    slotOperand kind number = some (.route t) := by
  simp [slotOperand, h, numbered_val t ht]

theorem slotOperand_eq_none {kind number : Byte} (h : 3 ≤ kind.toNat ∨ (kind.toNat = 1 ∧ 128 ≤ number.toNat) ∨
    (kind.toNat = 2 ∧ 48 ≤ number.toNat)) : slotOperand kind number = none := by
  unfold slotOperand
  split
  · omega
  · rw [numbered_none (by omega), Option.map_none]
  · rw [numbered_none (by omega), Option.map_none]
  · rfl

theorem directoryOperand_vacant {kind party : Byte} {equipment : Half} (h : kind.toNat = 0) (n : LineNo) (y : Party)
    (hn : equipment.toNat = n.val) (hy : party.toNat = y.code) : directoryOperand kind equipment party = some none := by
  simp [directoryOperand, h, numbered_val n hn, partyOperand_eq_some_iff.2 hy]

theorem directoryOperand_line {kind party : Byte} {equipment : Half} (h : kind.toNat = 1) (n : LineNo) (y : Party)
    (hn : equipment.toNat = n.val) (hy : party.toNat = y.code) :
    directoryOperand kind equipment party = some (some ⟨n, y⟩) := by
  simp [directoryOperand, h, numbered_val n hn, partyOperand_eq_some_iff.2 hy]

theorem directoryOperand_eq_none {kind party : Byte} {equipment : Half}
    (h : 2 ≤ kind.toNat ∨ 512 ≤ equipment.toNat ∨ 2 ≤ party.toNat) : directoryOperand kind equipment party = none := by
  unfold directoryOperand
  rcases h with hk | he | hp
  · split
    · omega
    · omega
    · rfl
  · rw [numbered_none he]
  · rw [partyOperand_eq_none hp]
    split <;> simp_all

/-! ### Route entries -/

/-- The codes of a route entry that its count takes in. -/
def prefixCodes (e : RouteBytes) : List Byte := [e.digit1, e.digit2, e.digit3, e.digit4].take e.count.toNat

/-- R71, checks 1 and 2, over the bytes of an entry. -/
def RouteFits (e : RouteBytes) : Prop :=
  e.kind.toNat ≤ 2 ∧ e.level.toNat ≤ 3 ∧ e.zone.toNat ≤ 7 ∧ e.ticketed.toNat ≤ 1 ∧ e.primary.toNat ≤ 7 ∧
    (e.alternate.toNat ≤ 7 ∨ e.alternate.toNat = 255) ∧ e.count.toNat ≤ 4 ∧
    (∀ c ∈ prefixCodes e, 1 ≤ c.toNat ∧ c.toNat ≤ 10) ∧ e.strip.toNat ≤ 14 ∧ e.total.toNat ≤ 14 ∧
    ¬(e.kind.toNat = 1 ∧ e.ticketed.toNat = 1)

/-- The bytes of a route entry spell these field values, whatever its kind stores of them. -/
structure RouteSpells (e : RouteBytes) (level : Fin 4) (zone : Zone) (ticketed : Bool) (primary : GroupNo)
    (alternate : Option GroupNo) (digits : List Digit) : Prop where
  level : e.level.toNat = level.val
  zone : e.zone.toNat = zone.val
  ticketed : e.ticketed.toNat = ticketed.toNat
  primary : e.primary.toNat = primary.val
  alternate : e.alternate.toNat = (alternate.map (·.val)).getD 255
  count : e.count.toNat ≤ 4
  digits : digits.map digitPulses = (prefixCodes e).map (·.toNat)
  strip : e.strip.toNat ≤ 14
  total : e.total.toNat ≤ 14

theorem prefixOperand_eq_some_iff {e : RouteBytes} {digits : List Digit} :
    prefixOperand e = some digits ↔ e.count.toNat ≤ 4 ∧ digits.map digitPulses = (prefixCodes e).map (·.toNat) := by
  unfold prefixOperand
  split
  · next h => simp only [h, true_and, mapM_digitOperand_eq_some_iff, prefixCodes]
  · next h => simp [h]

section
variable {e : RouteBytes} {level : Fin 4} {zone : Zone} {ticketed : Bool} {primary : GroupNo} {alternate : Option GroupNo}
  {digits : List Digit}

/-- What the reader of an entry makes of its fields, by the kind. -/
theorem RouteSpells.routeOperand_eq (h : RouteSpells e level zone ticketed primary alternate digits) :
    routeOperand e = if e.kind.toNat = 0 then some .invalid
      else if e.kind.toNat = 1 then (if ticketed then none else some (.localCall level zone))
      else if e.kind.toNat = 2 then
        some (.outgoing level zone ticketed primary alternate digits e.strip.toNat e.total.toNat)
      else none := by
  unfold routeOperand
  simp only [numbered_val level h.level, numbered_val zone h.zone, flagOperand_eq_some_iff.2 h.ticketed,
    numbered_val primary h.primary, groupOperand_eq_some_iff.2 h.alternate,
    prefixOperand_eq_some_iff.2 ⟨h.count, h.digits⟩, h.strip, h.total, and_self, if_true]
  split <;> simp_all

/-- The reader answers an entry only where every field's reader does. -/
theorem spells_of_routeOperand {z : RouteEntry} (h : routeOperand e = some z) :
    ∃ level zone ticketed primary alternate digits, RouteSpells e level zone ticketed primary alternate digits := by
  unfold routeOperand at h
  split at h
  · next level zone ticketed primary alternate digits hlevel hzone hticketed hprimary halternate hdigits =>
    split at h
    · next hlimits =>
      obtain ⟨hstrip, htotal⟩ := hlimits
      obtain ⟨hcount, hdigits⟩ := prefixOperand_eq_some_iff.1 hdigits
      exact ⟨level, zone, ticketed, primary, alternate, digits, numbered_eq_some_iff.1 hlevel,
        numbered_eq_some_iff.1 hzone, flagOperand_eq_some_iff.1 hticketed, numbered_eq_some_iff.1 hprimary,
        groupOperand_eq_some_iff.1 halternate, hcount, hdigits, hstrip, htotal⟩
    · cases h
  · cases h

theorem RouteFits.kind_le (h : RouteFits e) : e.kind.toNat ≤ 2 := h.1

/-- R71, check 2: an entry of kind LOCAL is not ticketed. -/
theorem RouteFits.not_local_ticketed (h : RouteFits e) : ¬(e.kind.toNat = 1 ∧ e.ticketed.toNat = 1) := by
  obtain ⟨-, -, -, -, -, -, -, -, -, -, hlocal⟩ := h
  exact hlocal

/-- Bytes within their ranges spell field values. -/
theorem RouteFits.exists_spells (h : RouteFits e) :
    ∃ level zone ticketed primary alternate digits, RouteSpells e level zone ticketed primary alternate digits := by
  obtain ⟨-, hlevel, hzone, hticketed, hprimary, halternate, hcount, hcodes, hstrip, htotal, -⟩ := h
  obtain ⟨digits, hdigits⟩ := exists_digits_iff.2 hcodes
  have hflag : e.ticketed.toNat = (decide (e.ticketed.toNat = 1)).toNat := by
    by_cases h1 : e.ticketed.toNat = 1
    · simp [h1]
    · simp only [h1, decide_false, Bool.toNat_false]
      omega
  have hgroup : ∃ g : Option GroupNo, e.alternate.toNat = (g.map (·.val)).getD 255 := by
    rcases halternate with h7 | h255
    · exact ⟨some ⟨e.alternate.toNat, by omega⟩, rfl⟩
    · exact ⟨none, h255⟩
  obtain ⟨alternate, halternate⟩ := hgroup
  exact ⟨⟨e.level.toNat, by omega⟩, ⟨e.zone.toNat, by omega⟩, _, ⟨e.primary.toNat, by omega⟩, alternate, digits,
    rfl, rfl, hflag, rfl, halternate, hcount, hdigits, hstrip, htotal⟩

/-- Bytes that spell field values are within their ranges, but for the two checks over the kind. -/
theorem RouteSpells.fits (h : RouteSpells e level zone ticketed primary alternate digits) (hkind : e.kind.toNat ≤ 2)
    (hlocal : ¬(e.kind.toNat = 1 ∧ e.ticketed.toNat = 1)) : RouteFits e := by
  have hlevel := h.level
  have hzone := h.zone
  have hprimary := h.primary
  have hticketed : e.ticketed.toNat ≤ 1 := h.ticketed ▸ Bool.toNat_le ticketed
  have halternate : e.alternate.toNat ≤ 7 ∨ e.alternate.toNat = 255 := by
    cases alternate with
    | none => exact .inr h.alternate
    | some g =>
      have hg : e.alternate.toNat = g.val := h.alternate
      omega
  exact ⟨hkind, by omega, by omega, hticketed, by omega, halternate, h.count, exists_digits_iff.1 ⟨_, h.digits⟩, h.strip,
    h.total, hlocal⟩

theorem routeOperand_eq_none (h : ¬RouteFits e) : routeOperand e = none := by
  refine Option.eq_none_iff_forall_ne_some.2 fun z hz => h ?_
  obtain ⟨_, _, ticketed, _, _, _, hs⟩ := spells_of_routeOperand hz
  rw [hs.routeOperand_eq] at hz
  have hticketed := hs.ticketed
  split_ifs at hz with h0 h1 ht h2
  · exact hs.fits (by omega) (by omega)
  · exact hs.fits (by omega) (by simp_all)
  · exact hs.fits (by omega) (by omega)

theorem routeOperand_isSome (h : RouteFits e) : ∃ z, routeOperand e = some z := by
  obtain ⟨_, _, ticketed, _, _, _, hs⟩ := h.exists_spells
  have hkind := h.kind_le
  have hticketed := hs.ticketed
  rw [hs.routeOperand_eq]
  split_ifs with h0 h1 ht h2
  · exact ⟨_, rfl⟩
  · exact absurd ⟨h1, by rw [hticketed, ht]; rfl⟩ h.not_local_ticketed
  · exact ⟨_, rfl⟩
  · exact ⟨_, rfl⟩
  · omega

theorem routeOperand_invalid (h : RouteFits e) (hkind : e.kind.toNat = 0) : routeOperand e = some .invalid := by
  obtain ⟨_, _, _, _, _, _, hs⟩ := h.exists_spells
  rw [hs.routeOperand_eq, if_pos hkind]

theorem routeOperand_localCall (h : RouteFits e) (hkind : e.kind.toNat = 1) (hlevel : e.level.toNat = level.val)
    (hzone : e.zone.toNat = zone.val) : routeOperand e = some (.localCall level zone) := by
  obtain ⟨level', zone', ticketed, _, _, _, hs⟩ := h.exists_spells
  have hl : level' = level := Fin.ext (hs.level.symm.trans hlevel)
  have hz : zone' = zone := Fin.ext (hs.zone.symm.trans hzone)
  have ht : ticketed = false := by
    have := hs.ticketed
    cases ticketed
    · rfl
    · exact absurd ⟨hkind, this⟩ h.not_local_ticketed
  simp [hs.routeOperand_eq, hkind, hl, hz, ht]

theorem routeOperand_outgoing (h : RouteFits e) (hkind : e.kind.toNat = 2) (hlevel : e.level.toNat = level.val)
    (hzone : e.zone.toNat = zone.val) (hprimary : e.primary.toNat = primary.val)
    (halternate : e.alternate.toNat = (alternate.map (·.val)).getD 255)
    (hdigits : digits.map digitPulses = (prefixCodes e).map (·.toNat)) :
    routeOperand e = some (.outgoing level zone (decide (e.ticketed.toNat = 1)) primary alternate digits e.strip.toNat
      e.total.toNat) := by
  obtain ⟨_, _, ticketed, _, _, _, hs⟩ := h.exists_spells
  have ht : ticketed = decide (e.ticketed.toNat = 1) := by
    rw [hs.ticketed]
    cases ticketed <;> rfl
  have hs : RouteSpells e level zone ticketed primary alternate digits :=
    ⟨hlevel, hzone, hs.ticketed, hprimary, halternate, hs.count, hdigits, hs.strip, hs.total⟩
  simp [hs.routeOperand_eq, hkind, ht]

end

end Sys2Proof.Machine
end

section
/-! SUPPORT. What each write of chapter 4 does where it is taken on a controller port: the entry it writes, or the refusal that its
checks come to first. -/

namespace Sys2Proof.Machine

variable {s : State} {x : Side}

/-! ### Commands that end DONE and commands refused -/

/-- Taken on controller port `x`, the command `c` leaves `t` in the Translator, nothing else changed, and is answered DONE. -/
abbrev State.writesTranslator (s : State) (x : Side) (c : Instr) (t : Translator) : Prop :=
  s.runs (.controller x) c (({ s with trans := t } : State).answer (.controller x) ⟨.done, []⟩)

/-- Taken on controller port `x`, the command `c` changes nothing and is answered with the status `y`. -/
abbrev State.refusesWith (s : State) (x : Side) (c : Instr) (y : Status) : Prop :=
  s.runs (.controller x) c (s.answer (.controller x) ⟨y, []⟩)

section
variable {c : Instr} {body : Side → State → State × Response}

theorem State.writesTranslator_of_doneWith {t : Translator}
    (he : exec c s = .next (s.controllerCommand c (.controller x) body)) (hb : body x s = doneWith { s with trans := t }) :
    s.writesTranslator x c t :=
  State.runs_controllerCommand he (by rw [hb]; rfl)

theorem State.refusesWith_of_refuse {y : Status}
    (he : exec c s = .next (s.controllerCommand c (.controller x) body)) (hb : body x s = refuse s y) :
    s.refusesWith x c y :=
  State.runs_controllerCommand he (by rw [hb]; rfl)

end

/-! ### What the checks search for -/

theorem tfind_isEmpty_eq_false_iff {α : Type} {n : Nat} {p : Fin n → α → Bool} {v : Vector α n} :
    (tfind p v).isEmpty = false ↔ ∃ i, p i (tget v i) = true := by
  rw [List.isEmpty_eq_false_iff_exists_mem]
  simp only [mem_tfind]

theorem State.someRegister_iff {y : RegState} : s.someRegister y = true ↔ ∃ r, (s.reg r).state = y := by
  rw [State.someRegister, Bool.not_eq_true', tfind_isEmpty_eq_false_iff]
  simp only [decide_eq_true_eq, State.reg]

theorem State.mappedElsewhere_iff {i : Fin 1000} {y : Subscriber} :
    s.mappedElsewhere i y = true ↔ ∃ j, j ≠ i ∧ tget s.trans.directory j = some y := by
  rw [State.mappedElsewhere, Bool.not_eq_true', tfind_isEmpty_eq_false_iff]
  simp only [Bool.and_eq_true, decide_eq_true_eq]

/-! ### Write Node Slot (R70) -/

theorem writeNodeSlot_writes {node digit kind number : Byte} {n : NodeNo} {d : Digit} {c : Slot} (hn : node.toNat = n.val)
    (hd : digit.toNat = digitPulses d) (hc : slotOperand kind number = some c) :
    s.writesTranslator x (.writeNodeSlot (.controller x) node digit kind number)
      { s.trans with nodes := tset s.trans.nodes n (tset (tget s.trans.nodes n) d c) } :=
  State.writesTranslator_of_doneWith rfl (by
    simp only [writeNodeSlot, numbered_val n hn, digitOperand_eq_some_iff.2 hd.symm, hc, tmod])

theorem writeNodeSlot_bad {node digit kind number : Byte}
    (h : 128 ≤ node.toNat ∨ digit.toNat = 0 ∨ 11 ≤ digit.toNat ∨ 3 ≤ kind.toNat ∨ (kind.toNat = 1 ∧ 128 ≤ number.toNat) ∨
      (kind.toNat = 2 ∧ 48 ≤ number.toNat)) :
    s.refusesWith x (.writeNodeSlot (.controller x) node digit kind number) .badOperand := by
  refine State.refusesWith_of_refuse rfl ?_
  have hnone : numbered 128 node.toNat = none ∨ digitOperand digit = none ∨ slotOperand kind number = none := by
    rcases h with hnode | hzero | hbig | hslot
    · exact .inl (numbered_none hnode)
    · exact .inr (.inl (digitOperand_eq_none (.inl hzero)))
    · exact .inr (.inl (digitOperand_eq_none (.inr hbig)))
    · exact .inr (.inr (slotOperand_eq_none hslot))
  unfold writeNodeSlot
  split
  · simp_all
  · rfl

/-! ### Write Route (R71) -/

theorem writeRoute_bad {b : Byte} {e : RouteBytes} (h : ¬(b.toNat < 48 ∧ RouteFits e)) :
    s.refusesWith x (.writeRoute (.controller x) b e) .badOperand := by
  refine State.refusesWith_of_refuse rfl ?_
  have hnone : numbered 48 b.toNat = none ∨ routeOperand e = none := by
    by_cases hb : b.toNat < 48
    · exact .inr (routeOperand_eq_none fun he => h ⟨hb, he⟩)
    · exact .inl (numbered_none (by omega))
  unfold writeRoute
  split
  · simp_all
  · rfl

section
variable {b : Byte} {e : RouteBytes} {z : RouteEntry} {r : RouteNo}

theorem writeRoute_inUse (hb : b.toNat = r.val) (he : routeOperand e = some z) (hr : 0 < (s.route r).refCount) :
    s.refusesWith x (.writeRoute (.controller x) b e) .inUse :=
  State.refusesWith_of_refuse rfl (by simp [writeRoute, numbered_val r hb, he, hr])

theorem writeRoute_writes (hb : b.toNat = r.val) (he : routeOperand e = some z) (hr : (s.route r).refCount = 0) :
    s.writesTranslator x (.writeRoute (.controller x) b e) { s.trans with routes := tset s.trans.routes r ⟨z, 0⟩ } :=
  State.writesTranslator_of_doneWith rfl (by simp [writeRoute, numbered_val r hb, he, hr])

end

/-! ### Write Directory (R68) -/

section
variable {slot equipment : Half} {kind party : Byte}

theorem writeDirectory_bad
    (h : 1000 ≤ slot.toNat ∨ 2 ≤ kind.toNat ∨ 512 ≤ equipment.toNat ∨ 2 ≤ party.toNat) :
    s.refusesWith x (.writeDirectory (.controller x) slot kind equipment party) .badOperand := by
  refine State.refusesWith_of_refuse rfl ?_
  unfold writeDirectory
  rcases h with hslot | hcontent
  · rw [numbered_none hslot]
  · rw [directoryOperand_eq_none hcontent]
    split <;> simp_all

variable {i : Fin 1000} {n : LineNo} {y : Party}

theorem writeDirectory_writes_vacant (hi : slot.toNat = i.val) (hc : directoryOperand kind equipment party = some none) :
    s.writesTranslator x (.writeDirectory (.controller x) slot kind equipment party)
      { s.trans with directory := tset s.trans.directory i none } :=
  State.writesTranslator_of_doneWith rfl (by simp [writeDirectory, numbered_val i hi, hc])

theorem writeDirectory_notTwoParty (hi : slot.toNat = i.val)
    (hc : directoryOperand kind equipment party = some (some ⟨n, y⟩)) (hy : y = .b) (hcls : (s.line n).cls ≠ .twoParty) :
    s.refusesWith x (.writeDirectory (.controller x) slot kind equipment party) .badOperand :=
  State.refusesWith_of_refuse rfl (by simp [writeDirectory, numbered_val i hi, hc, hy, hcls])

/-- The check of R68 over the party passes for a line that has the party. -/
theorem not_partyB_unless_twoParty (hy : y = .a ∨ (s.line n).cls = .twoParty) :
    ¬(y = .b ∧ (s.line n).cls ≠ .twoParty) := by
  rintro ⟨rfl, hcls⟩
  rcases hy with ha | htwo
  · cases ha
  · exact hcls htwo

theorem writeDirectory_inUse (hi : slot.toNat = i.val)
    (hc : directoryOperand kind equipment party = some (some ⟨n, y⟩)) (hy : y = .a ∨ (s.line n).cls = .twoParty)
    (hm : ∃ j, j ≠ i ∧ tget s.trans.directory j = some ⟨n, y⟩) :
    s.refusesWith x (.writeDirectory (.controller x) slot kind equipment party) .inUse :=
  State.refusesWith_of_refuse rfl (by simp only [writeDirectory, numbered_val i hi, hc, not_partyB_unless_twoParty hy,
    if_false, State.mappedElsewhere_iff.2 hm, if_true])

theorem writeDirectory_writes_line (hi : slot.toNat = i.val)
    (hc : directoryOperand kind equipment party = some (some ⟨n, y⟩)) (hy : y = .a ∨ (s.line n).cls = .twoParty)
    (hm : ¬∃ j, j ≠ i ∧ tget s.trans.directory j = some ⟨n, y⟩) :
    s.writesTranslator x (.writeDirectory (.controller x) slot kind equipment party)
      { s.trans with directory := tset s.trans.directory i (some ⟨n, y⟩) } :=
  State.writesTranslator_of_doneWith rfl (by simp only [writeDirectory, numbered_val i hi, hc,
    not_partyB_unless_twoParty hy, if_false, eq_false_of_ne_true (mt State.mappedElsewhere_iff.1 hm), Bool.false_eq_true])

end

/-! ### Clear Translations (R72) and Set Incoming Root (R73) -/

theorem clearTranslations_inUse (h : ∃ r, (s.reg r).state = .dialing) :
    s.refusesWith x (.clearTranslations (.controller x)) .inUse :=
  State.refusesWith_of_refuse rfl (if_pos (State.someRegister_iff.2 h))

theorem clearTranslations_writes (h : ∀ r, (s.reg r).state ≠ .dialing) :
    s.writesTranslator x (.clearTranslations (.controller x))
      { s.trans with nodes := Vector.replicate 128 (Vector.replicate 10 .vacant) } :=
  State.writesTranslator_of_doneWith rfl (if_neg fun hd => (State.someRegister_iff.1 hd).elim h)

theorem setIncomingRoot_bad {b : Byte} (h : 128 ≤ b.toNat) :
    s.refusesWith x (.setIncomingRoot (.controller x) b) .badOperand :=
  State.refusesWith_of_refuse rfl (by simp only [setIncomingRoot, numbered_none h])

theorem setIncomingRoot_writes {b : Byte} {n : NodeNo} (h : b.toNat = n.val) :
    s.writesTranslator x (.setIncomingRoot (.controller x) b) { s.trans with incomingRoot := n } :=
  State.writesTranslator_of_doneWith rfl (by simp only [setIncomingRoot, numbered_val n h])

/-- Settles O30: each clause is what the command's own lemma above says of the operands the clause names. -/
theorem translationDataIsWritten : Obligations.TranslationDataIsWritten := by
  intro x s
  refine ⟨?nodeSlot, ?nodeSlotBad, ?route, ?directory, ?clearInUse, ?clear, ?rootBad, ?root⟩
  case nodeSlot =>
    intro n d node digit kind number hn hd
    exact ⟨fun hk => writeNodeSlot_writes hn hd (slotOperand_vacant hk number),
      fun m hk hm => writeNodeSlot_writes hn hd (slotOperand_node hk m hm),
      fun t hk ht => writeNodeSlot_writes hn hd (slotOperand_route hk t ht)⟩
  case nodeSlotBad => exact fun _ _ _ _ => writeNodeSlot_bad
  case route =>
    intro b e
    refine ⟨writeRoute_bad, ?_⟩
    rintro r ⟨-, hfits⟩ hb
    refine ⟨?_, fun hr => ⟨?_, ?_, ?_⟩⟩
    · obtain ⟨z, hz⟩ := routeOperand_isSome hfits
      exact writeRoute_inUse hb hz
    · exact fun hk => writeRoute_writes hb (routeOperand_invalid hfits hk) hr
    · exact fun level zone hk hl hz => writeRoute_writes hb (routeOperand_localCall hfits hk hl hz) hr
    · exact fun level zone primary alternate digits hk hl hz hp ha hd =>
        writeRoute_writes hb (routeOperand_outgoing hfits hk hl hz hp ha hd) hr
  case directory =>
    intro slot kind equipment party
    refine ⟨writeDirectory_bad, fun i n y hi hn hy => ⟨?_, ?_, ?_⟩⟩
    · exact fun hk => writeDirectory_writes_vacant hi (directoryOperand_vacant hk n y hn hy)
    · exact fun hk => writeDirectory_notTwoParty hi (directoryOperand_line hk n y hn hy)
    · intro hk hparty
      have hc := directoryOperand_line hk n y hn hy
      exact ⟨writeDirectory_inUse hi hc hparty, writeDirectory_writes_line hi hc hparty⟩
  case clearInUse => exact clearTranslations_inUse
  case clear => exact fun h => ⟨_, clearTranslations_writes h, fun n d => by rw [tget_replicate, tget_replicate], rfl⟩
  case rootBad => exact fun _ => setIncomingRoot_bad
  case root => exact fun _ _ => setIncomingRoot_writes

end Sys2Proof.Machine
end

section
/-! SUPPORT. What Seize Element, Return Element and Assign Trunk Group do where they are taken on a controller port, by the state of
the element (5.5). -/

namespace Sys2Proof.Machine

variable {s : State} {x : Side}

theorem groupOperand_eq_none {b : Byte} (h : 8 ≤ b.toNat) (hnone : b.toNat ≠ 255) : groupOperand b = none := by
  refine Option.eq_none_iff_forall_ne_some.2 fun z hz => ?_
  rw [groupOperand_eq_some_iff] at hz
  cases z with
  | none => exact hnone hz
  | some g =>
    have hg : b.toNat = g.val := hz
    omega

/-- Where the command's body ends DONE with the state `t`, the command runs to `t` with that response. -/
theorem State.runs_of_doneWith {t : State} {c : Instr} {body : Side → State → State × Response}
    (he : exec c s = .next (s.controllerCommand c (.controller x) body)) (hb : body x s = doneWith t) :
    s.runs (.controller x) c (t.answer (.controller x) ⟨.done, []⟩) :=
  State.runs_controllerCommand he (by rw [hb]; rfl)

/-! ### Seize Element (R90) and Return Element (R91) -/

section
variable {n : Half} {e : ElemNo}

theorem seizeElement_bad (h : 352 ≤ n.toNat) : s.refusesWith x (.seizeElement (.controller x) n) .badOperand :=
  State.refusesWith_of_refuse rfl (by simp only [seizeElement, numbered_none h])

/-- The test-and-set over an element: the state it held goes into the response. -/
theorem seizeElement_eq (hn : n.toNat = e.val) : seizeElement n x s =
    (if s.elem e = .free then s.setElem e .blocked else s, ⟨.done, [BitVec.ofNat 8 (s.elem e).code]⟩) := by
  simp only [seizeElement, numbered_val e hn, enc1]

theorem seizeElement_free (hn : n.toNat = e.val) (h : s.elem e = .free) :
    s.runs (.controller x) (.seizeElement (.controller x) n)
      ((s.setElem e .blocked).answer (.controller x) ⟨.done, [0]⟩) :=
  State.runs_controllerCommand rfl (by rw [seizeElement_eq hn, if_pos h, h]; rfl)

theorem seizeElement_notFree (hn : n.toNat = e.val) (h : s.elem e ≠ .free) :
    s.runs (.controller x) (.seizeElement (.controller x) n)
      (s.answer (.controller x) ⟨.done, [BitVec.ofNat 8 (s.elem e).code]⟩) :=
  State.runs_controllerCommand rfl (by rw [seizeElement_eq hn, if_neg h])

theorem returnElement_bad (h : 352 ≤ n.toNat) : s.refusesWith x (.returnElement (.controller x) n) .badOperand :=
  State.refusesWith_of_refuse rfl (by simp only [returnElement, numbered_none h])

theorem returnElement_returns (hn : n.toNat = e.val) (h : s.elem e = .blocked ∨ s.elem e = .faulted) :
    s.runs (.controller x) (.returnElement (.controller x) n)
      ((s.setElem e .free).answer (.controller x) ⟨.done, []⟩) := by
  refine State.runs_of_doneWith rfl ?_
  rcases h with hblocked | hfaulted
  · simp only [returnElement, numbered_val e hn, hblocked]
  · simp only [returnElement, numbered_val e hn, hfaulted]

theorem returnElement_wrongState (hn : n.toNat = e.val) (hblocked : s.elem e ≠ .blocked) (hfaulted : s.elem e ≠ .faulted) :
    s.refusesWith x (.returnElement (.controller x) n) .wrongState := by
  refine State.refusesWith_of_refuse rfl ?_
  rw [returnElement, numbered_val e hn]
  dsimp only
  split
  · next h => exact absurd h hblocked
  · next h => exact absurd h hfaulted
  · rfl

end

/-! ### Assign Trunk Group (R92) -/

section
variable {t g : Byte}

theorem assignTrunkGroup_bad (h : 32 ≤ t.toNat ∨ (8 ≤ g.toNat ∧ g.toNat ≠ 255)) :
    s.refusesWith x (.assignTrunkGroup (.controller x) t g) .badOperand := by
  refine State.refusesWith_of_refuse rfl ?_
  unfold assignTrunkGroup
  rcases h with ht | ⟨hg, hnone⟩
  · rw [numbered_none ht]
  · rw [groupOperand_eq_none hg hnone]
    split <;> simp_all

variable {o : OutNo} {z : Option GroupNo}

/-- Over operands in range the state of the trunk's element decides. -/
theorem assignTrunkGroup_eq (ht : t.toNat = o.val) (hg : g.toNat = (z.map (·.val)).getD 255) :
    assignTrunkGroup t g x s = if s.elem (outElem o) = .free ∨ s.elem (outElem o) = .blocked then
      doneWith { s with net := { s.net with groups := tset s.net.groups o z } } else refuse s .inUse := by
  simp only [assignTrunkGroup, numbered_val o ht, groupOperand_eq_some_iff.2 hg]

theorem assignTrunkGroup_assigns (ht : t.toNat = o.val) (hg : g.toNat = (z.map (·.val)).getD 255)
    (h : s.elem (outElem o) = .free ∨ s.elem (outElem o) = .blocked) :
    s.runs (.controller x) (.assignTrunkGroup (.controller x) t g)
      (({ s with net := { s.net with groups := tset s.net.groups o z } } : State).answer (.controller x) ⟨.done, []⟩) :=
  State.runs_of_doneWith rfl (by rw [assignTrunkGroup_eq ht hg, if_pos h])

theorem assignTrunkGroup_inUse (ht : t.toNat = o.val) (hg : g.toNat = (z.map (·.val)).getD 255)
    (hfree : s.elem (outElem o) ≠ .free) (hblocked : s.elem (outElem o) ≠ .blocked) :
    s.refusesWith x (.assignTrunkGroup (.controller x) t g) .inUse :=
  State.refusesWith_of_refuse rfl (by rw [assignTrunkGroup_eq ht hg, if_neg (not_or_intro hfree hblocked)])

end

/-- Settles O33: each clause is what the command's own lemma above says of the element in the state the clause names. -/
theorem elementsAreSeizedReturnedAndGrouped : Obligations.ElementsAreSeizedReturnedAndGrouped := by
  intro x s
  refine ⟨?elementBad, ?element, ?group⟩
  case elementBad => exact fun n h => ⟨seizeElement_bad h, returnElement_bad h⟩
  case element =>
    exact fun n e hn => ⟨seizeElement_free hn, seizeElement_notFree hn, returnElement_returns hn, returnElement_wrongState hn⟩
  case group =>
    exact fun t g => ⟨assignTrunkGroup_bad, fun o z ht hg => ⟨assignTrunkGroup_assigns ht hg, assignTrunkGroup_inUse ht hg⟩⟩

end Sys2Proof.Machine
end

section
/-! SUPPORT. How the longer periods of R139 fall over a frame: reading the position's digits in reverse only rearranges the
sixteen positions, and the first digits of a position are the last digits of its reading, so an aligned block of a frame holds one
residue class of readings. -/

namespace Sys2Proof.Machine

/-- The readings of the sixteen positions in their order (R139). -/
theorem map_rev4 : (List.finRange 16).map rev4 = [0, 8, 4, 12, 2, 10, 6, 14, 1, 9, 5, 13, 3, 11, 7, 15] := by
  decide

theorem map_rev4_perm : ((List.finRange 16).map rev4).Perm (List.range 16) := by
  rw [map_rev4]
  decide

/-- Two positions stand in one of the `d` equal blocks of a frame exactly where their readings agree modulo `d`. -/
theorem rev4_mod_eq_iff : ∀ d ∈ [2, 4, 8], ∀ c b : Fin 16, rev4 c % d = rev4 b % d ↔ c.val / (16 / d) = b.val / (16 / d) := by
  decide

/-- Counting the numbers below `n` that meet `p` stops at `f`. -/
theorem countP_range_below (p : Nat → Prop) [DecidablePred p] (f n : Nat) :
    (List.range n).countP (fun i => decide (p i ∧ i < f)) = Nat.count p (min n f) := by
  induction n with
  | zero => simp
  | succ n ih =>
    rw [List.range_succ, List.countP_append, ih]
    by_cases hf : n < f
    · rw [min_eq_left hf.le, min_eq_left (Nat.succ_le_of_lt hf), Nat.count_succ]
      simp [List.countP_singleton, hf]
    · rw [min_eq_right (not_lt.1 hf), min_eq_right ((not_lt.1 hf).trans n.le_succ)]
      simp [hf]

/-- The positions of a frame whose reading meets `p` and is below `f` are as many as the numbers below `f` that meet `p`. -/
theorem length_filter_rev4 (p : Nat → Prop) [DecidablePred p] {f : Nat} (hf : f ≤ 16) :
    ((List.finRange 16).filter fun c => decide (p (rev4 c) ∧ rev4 c < f)).length = Nat.count p f :=
  calc ((List.finRange 16).filter fun c => decide (p (rev4 c) ∧ rev4 c < f)).length
      = ((List.finRange 16).map rev4).countP fun i => decide (p i ∧ i < f) := by
        rw [List.countP_map, List.countP_eq_length_filter]; rfl
    _ = (List.range 16).countP fun i => decide (p i ∧ i < f) := map_rev4_perm.countP_eq _
    _ = Nat.count p f := by rw [countP_range_below, min_eq_right hf]

/-- Under the fraction `f` a frame has `f` longer periods. -/
theorem length_longer {f : Nat} (hf : f ≤ 16) : ((List.finRange 16).filter fun c => decide (rev4 c < f)).length = f := by
  simpa using length_filter_rev4 (fun _ => True) hf

/-- The longer periods under the fraction `f` in the block of a frame's `d` equal blocks that begins at position `b`. -/
theorem length_longer_block {d f : Nat} (hd : d ∈ [2, 4, 8]) (hf : f ≤ 16) (b : Fin 16) (hb : 16 / d ∣ b.val) :
    ((List.finRange 16).filter fun c => decide (b.val ≤ c.val ∧ c.val < b.val + 16 / d ∧ rev4 c < f)).length =
      f / d + if rev4 b % d < f % d then 1 else 0 := by
  obtain ⟨hd_pos, hwidth_pos⟩ : 0 < d ∧ 0 < 16 / d := (by decide : ∀ d ∈ [2, 4, 8], 0 < d ∧ 0 < 16 / d) d hd
  obtain ⟨k, hk⟩ := hb
  have hblock (c : Fin 16) : (b.val ≤ c.val ∧ c.val < b.val + 16 / d ∧ rev4 c < f) ↔ (rev4 c ≡ rev4 b [MOD d] ∧ rev4 c < f) := by
    rw [Nat.ModEq, rev4_mod_eq_iff d hd c b, hk, Nat.mul_div_cancel_left k hwidth_pos, Nat.div_eq_iff hwidth_pos, ← and_assoc,
      mul_comm k]
    omega
  simp only [hblock]
  rw [length_filter_rev4 (· ≡ rev4 b [MOD d]) hf, Nat.count_modEq_card _ hd_pos]

variable (cell : TariffCell)

theorem TariffCell.length_eq (c : Fin 16) :
    cell.length c = cell.period.val + if rev4 c < cell.fraction.val then 1 else 0 := by
  unfold TariffCell.length
  split <;> rfl

theorem TariffCell.periodAt_eq {cell : TariffCell} (h : 1 ≤ cell.period.val) (c : Fin 16) :
    cell.periodAt c = some (cell.length c) :=
  if_neg (Nat.ne_of_gt h)

theorem TariffCell.length_le (c : Fin 16) : cell.length c ≤ 65536 := by
  have hperiod := cell.period.isLt
  rw [cell.length_eq]
  split <;> omega

theorem TariffCell.length_zero {cell : TariffCell} (h : 1 ≤ cell.fraction.val) : cell.length 0 = cell.period.val + 1 :=
  if_pos h

/-- The steps of any positions taken in a row: P for each, and one more for each longer period among them. -/
theorem TariffCell.sum_map_length (l : List (Fin 16)) : (l.map cell.length).sum =
    l.length * cell.period.val + (l.filter fun c => decide (rev4 c < cell.fraction.val)).length := by
  induction l with
  | nil => simp
  | cons c l ih =>
    rw [List.map_cons, List.sum_cons, ih, cell.length_eq, List.filter_cons, List.length_cons]
    by_cases h : rev4 c < cell.fraction.val
    · rw [if_pos h, if_pos (decide_eq_true h), List.length_cons]
      ring
    · rw [if_neg h, if_neg (by simpa using h)]
      ring

/-- R139's law. -/
theorem TariffCell.frameLength_eq : cell.frameLength = 16 * cell.period.val + cell.fraction.val := by
  rw [TariffCell.frameLength, cell.sum_map_length, length_longer cell.fraction.isLt.le, List.length_finRange]

/-- Settles O43: the frame has F longer periods, and halves, fours and pairs are blocks of which `length_longer_block` says how many
each holds. -/
theorem framesLastSixteenPeriodsAndF : Obligations.FramesLastSixteenPeriodsAndF := by
  refine ⟨map_rev4, fun cell hperiod => ?_⟩
  have hf : cell.fraction.val ≤ 16 := cell.fraction.isLt.le
  refine ⟨fun c => ?_, cell.frameLength_eq, length_longer hf, ⟨?firstHalf, ?secondHalf, ?fours, ?pairs⟩, cell.length_le,
    TariffCell.length_zero⟩
  · rw [TariffCell.periodAt_eq hperiod, cell.length_eq]
  case firstHalf =>
    have hblock := length_longer_block (d := 2) (by decide) hf 0 (by decide)
    have hrev : rev4 0 % 2 = 0 := rfl
    refine hblock.trans ?_
    split <;> omega
  case secondHalf =>
    have hblock := length_longer_block (d := 2) (by decide) hf 8 (by decide)
    have hrev : rev4 8 % 2 = 1 := rfl
    refine hblock.trans ?_
    split <;> omega
  case fours =>
    intro k hk
    have hblock := length_longer_block (d := 4) (by decide) hf ⟨4 * k, by omega⟩ ⟨k, rfl⟩
    refine Or.imp hblock.trans hblock.trans ?_
    split <;> omega
  case pairs =>
    intro k hk
    have hblock := length_longer_block (d := 8) (by decide) hf ⟨2 * k, by omega⟩ ⟨k, rfl⟩
    refine Or.imp hblock.trans hblock.trans ?_
    split <;> omega

end Sys2Proof.Machine
end

section
/-! SUPPORT. What every row does apart from its link port: the port logic of the commands is taken off once (R189, R191, R192), so
that a law that does not speak of the links is examined on the effects alone. -/

namespace Sys2Proof.Machine

/-- What the row `c` does to the state apart from the links where it acts; `x` is the issuing controller port. A read, a start mark and the
other marks of a link do nothing else. -/
def effect (c : Instr) (x : Side) (s : State) : State :=
  match c with
  | .giveTone _ r t => (giveTone r t x s).1
  | .releaseCall _ r => (releaseCall r x s).1
  | .writeLine _ k n c => (writeLine k n c x s).1
  | .removeLine _ k n => (removeLine k n x s).1
  | .blockReceiver _ k => (blockReceiver k x s).1
  | .unblockReceiver _ k => (unblockReceiver k x s).1
  | .writeNodeSlot _ n d k m => (writeNodeSlot n d k m x s).1
  | .writeRoute _ r e => (writeRoute r e x s).1
  | .writeDirectory _ d k n y => (writeDirectory d k n y x s).1
  | .clearTranslations _ => (clearTranslations x s).1
  | .setIncomingRoot _ n => (setIncomingRoot n x s).1
  | .huntPath _ r => (huntPath r x s).1
  | .seizeElement _ e => (seizeElement e x s).1
  | .returnElement _ e => (returnElement e x s).1
  | .assignTrunkGroup _ o g => (assignTrunkGroup o g x s).1
  | .ring _ r => (ringCall r x s).1
  | .send _ r => (sendCall r x s).1
  | .blockSender _ k => (blockSender k x s).1
  | .unblockSender _ k => (unblockSender k x s).1
  | .writeTariffCell _ z b u p f => (writeTariffCell z b u p f x s).1
  | .applyTariffs _ => (applyTariffs x s).1
  | .selectBand _ b => (selectBand b x s).1
  | .setClock _ d m => (setClock d m x s).1
  | .adjustMeter _ n y m => (adjustMeter n y m x s).1
  | .presetMeter _ n y v => (presetMeter n y v x s).1
  | .takeSnapshot _ => (takeSnapshot s).1
  | .releaseSnapshot _ => (releaseSnapshot s).1
  | .removeTicket _ n => (removeTicket n s).1
  | .setDirectoryDigit _ d => (setDirectoryDigit d x s).1
  | .takeEvent _ => (takeEvent x s).1
  | .done _ j => (doneSubject j x s).1
  | .setAttention _ b => (setAttention b x s).1
  | .fenceOther _ => (fenceOther x s).1
  | .admitOther _ => (admitOther x s).1
  | .initialise _ => (initialise x s).1
  | .restart _ => (doneWith (s.warmRestart .restartCommand)).1
  | .scanSampleSet samples schedule => s.scanPhase samples schedule
  | .clear k => if (s.receiver k).clearDue then s.takeReceiver k else s
  | .digitEnd k => if (s.receiver k).digitEndDue then s.takeReceiver k else s
  | .dialTimeout r => s.dialExpiry r
  | .endOfDialingExpiry r => s.endOfDialingExpiry r
  | .waitTimerExpiry t => s.waitExpiry t
  | .deferredPromotion => if !s.scan.deferred.isEmpty && decide (s.scan.queue.length < Config.queuePlaces) then s.settle else s
  | .queueHeadService => s.serveHead
  | .toneTimerExpiry r => s.toneExpiry r
  | .orderTake => s.takeOrder
  | .driveCompletion c => s.takeCompletion c
  | .driveCompletionLimitExpiry => s.driveExpiry
  | .senderPhaseEnd k => s.senderPhase k
  | .ringTimerExpiry r => s.ringExpiry r
  | .answerWaitExpiry r => s.answerWaitExpiry r
  | .calledReleaseExpiry r => s.calledReleaseExpiry r
  | .incomingClearTimerExpiry i => s.incomingClear i
  | .meteringStepBoundary =>
    { (List.finRange 40).foldl State.stepContext s with
      tariff := ((List.finRange 40).foldl State.stepContext s).tariff.advance }
  | .periodExpiry r => if (s.reg r).periodDue then s.expirePeriod r else s
  | .sweepReachesMeter => s.sweepStep
  | .sweepCompletion => s.sweepDone
  | .handlingLimitExpiry j => s.handlingExpiry j
  | .powerUp retained levels => (if retained then s.warmRestart .powerUp else s.coldStart .powerUp 0).takeLevels levels
  | .restartLineAsserted => if s.restartLine then s else ({ s with restartLine := true } : State).warmRestart .restartLine
  | .linkResetAsserted p => if (s.link p).resetAsserted then s else s.portReset p
  | .restartLineNegated => { s with restartLine := false }
  | _ => s

/-- `t` is `u` apart from the links. -/
def State.sameButLinks (u t : State) : Prop := t = { u with links := t.links }

theorem State.sameButLinks_links (u : State) (l : LinkPorts) : u.sameButLinks { u with links := l } := rfl

theorem State.sameButLinks_refl (u : State) : u.sameButLinks u := rfl

theorem State.setPhase_sameButLinks (s : State) (p : Port) (x : LinkPhase) : s.sameButLinks (s.setPhase p x) := rfl

theorem State.answer_sameButLinks (s : State) (p : Port) (x : Response) : s.sameButLinks (s.answer p x) := rfl

theorem State.dropFrame_sameButLinks (s : State) (p : Port) : s.sameButLinks (s.dropFrame p) := by
  unfold State.dropFrame
  split <;> rfl

theorem State.unheard_sameButLinks (s : State) (p : Port) (c : Instr) : s.sameButLinks (s.unheard p c) := by
  unfold State.unheard
  split
  · split
    · exact s.dropFrame_sameButLinks p
    · rfl
  · rfl

theorem State.startMark_sameButLinks (s : State) (p : Port) (bytes : List Byte) : s.sameButLinks (s.startMark p bytes) := by
  unfold State.startMark
  split <;> rfl

theorem State.endResponse_sameButLinks (s : State) (p : Port) : s.sameButLinks (s.endResponse p) := by
  unfold State.endResponse
  split <;> rfl

theorem State.refuseFrame_sameButLinks (s : State) (c : Instr) (p : Port) (x : Status) :
    s.sameButLinks (s.refuseFrame c p x) := by
  unfold State.refuseFrame
  split
  · rfl
  · exact s.unheard_sameButLinks p c

/-- A command moves its link port, or has its body's effect beside that, and then it has passed the gate. -/
theorem State.command_sameButLinks (s : State) (c : Instr) (p : Port) (m : Permission) (body : State → State × Response) :
    s.sameButLinks (s.command c p m body) ∨ (s.gate p m = none ∧ (body s).1.sameButLinks (s.command c p m body)) := by
  unfold State.command
  split
  · split
    · exact .inl rfl
    · next hgate => exact .inr ⟨hgate, rfl⟩
  · exact .inl (s.unheard_sameButLinks p c)

theorem State.fenced_eq_false_of_gate {s : State} {x : Side} {m : Permission} (h : s.gate (.controller x) m = none) :
    (s.att.port x).fenced = false := by
  refine eq_false_of_ne_true fun hf => ?_
  cases m <;> simp [State.gate, hf] at h

theorem State.controllerCommand_sameButLinks (s : State) (c : Instr) (p : Port) (body : Side → State → State × Response) :
    ∃ x, s.sameButLinks (s.controllerCommand c p body) ∨
      ((s.att.port x).fenced = false ∧ (body x s).1.sameButLinks (s.controllerCommand c p body)) := by
  cases p with
  | controller x => exact ⟨x, (s.command_sameButLinks c _ _ _).imp_right (.imp_left State.fenced_eq_false_of_gate)⟩
  | billing =>
    exact ⟨.a, .inl ((s.command_sameButLinks c .billing .controllers fun t => (t, .of .notPermitted)).elim id And.right)⟩

theorem State.readCommand_sameButLinks (s : State) (c : Instr) (p : Port) (m : Permission) (body : State → Response) :
    s.sameButLinks (s.readCommand c p m body) :=
  (s.command_sameButLinks c p m _).elim id And.right

/-- R191, check 5: a command of the controller set acts for a port that is not fenced. -/
def State.admits (s : State) (c : Instr) (x : Side) : Prop :=
  ∀ p code operands, commandParts c = some (p, code, operands) → permissionOf code = .controllers → (s.att.port x).fenced = false

/-- Every row leaves the state as it stood or has its effect, the links apart. -/
theorem exec_effect {c : Instr} {s t : State} (h : exec c s = .next t) :
    ∃ x, s.sameButLinks t ∨ (s.admits c x ∧ (effect c x s).sameButLinks t) := by
  cases c
  case readPortStatus p =>
    obtain rfl := Host.Outcome.next.inj h
    refine ⟨.a, .inl ?_⟩
    split
    · rfl
    · exact s.unheard_sameButLinks _ _
  case badFrame | unknownCommand =>
    obtain rfl := Host.Outcome.next.inj h
    exact ⟨.a, .inl (s.refuseFrame_sameButLinks _ _ _)⟩
  case frameStartMark =>
    obtain rfl := Host.Outcome.next.inj h
    exact ⟨.a, .inl (s.startMark_sameButLinks _ _)⟩
  case responseSent =>
    obtain rfl := Host.Outcome.next.inj h
    exact ⟨.a, .inl (s.endResponse_sameButLinks _)⟩
  case frameDiscarded p cause =>
    obtain rfl := Host.Outcome.next.inj h
    refine ⟨.a, .inl ?_⟩
    cases cause with
    | cutOff bytes =>
      dsimp only
      split
      · exact s.startMark_sameButLinks _ _
      · rfl
    | endedWhileAnswering => exact s.dropFrame_sameButLinks p
  case linkResetNegated p =>
    obtain rfl := Host.Outcome.next.inj h
    refine ⟨.a, .inl ?_⟩
    split <;> rfl
  case readRegister | readLine | readReceiver | probeAccess | readNode | readRoute | readDirectory | readElement | readOrders |
      readSender | readTariffCell | readTariffStatus | readMeterContext | readMeter | readSnapshot | readTicket | readTicketStatus =>
    obtain rfl := Host.Outcome.next.inj h
    exact ⟨.a, .inl (s.readCommand_sameButLinks _ _ _ _)⟩
  case takeSnapshot | releaseSnapshot | removeTicket =>
    obtain rfl := Host.Outcome.next.inj h
    exact ⟨.a, (s.command_sameButLinks _ _ _ _).imp_right fun hs =>
      ⟨fun _ _ _ hc hp => by cases hc; exact absurd hp (by decide), hs.2⟩⟩
  case scanSampleSet | clear | digitEnd | dialTimeout | endOfDialingExpiry | waitTimerExpiry | deferredPromotion |
      queueHeadService | toneTimerExpiry | orderTake | driveCompletion | driveCompletionLimitExpiry | senderPhaseEnd |
      ringTimerExpiry | answerWaitExpiry | calledReleaseExpiry | incomingClearTimerExpiry | meteringStepBoundary | periodExpiry |
      sweepReachesMeter | sweepCompletion | handlingLimitExpiry | powerUp | restartLineAsserted | linkResetAsserted |
      restartLineNegated =>
    obtain rfl := Host.Outcome.next.inj h
    exact ⟨.a, .inr ⟨nofun, State.sameButLinks_refl _⟩⟩
  case restart p =>
    obtain rfl := Host.Outcome.next.inj h
    obtain ⟨x, hs⟩ := s.controllerCommand_sameButLinks (.restart p) p fun _ t => doneWith (t.warmRestart .restartCommand)
    exact ⟨x, hs.imp_right (.imp_left fun hf _ _ _ _ _ => hf)⟩
  all_goals
    obtain rfl := Host.Outcome.next.inj h
    obtain ⟨x, hs⟩ := s.controllerCommand_sameButLinks _ _ _
    exact ⟨x, hs.imp_right (.imp_left fun hf _ _ _ _ _ => hf)⟩

/-- What every step keeps: a law that the links do not bear on is kept where every effect and the millisecond keep it. -/
theorem step_keeps {P : State → Prop} (hlinks : ∀ s l, P s → P { s with links := l }) (hpending : ∀ s l, P s → P { s with pending := l })
    (heffect : ∀ c x s, s.admits c x → P s → P (effect c x s)) (hms : ∀ s, P s → P s.takeOrder.passMillisecond) {s t : State} (hs : P s)
    (h : step s = .next t) : P t := by
  unfold step at h
  split at h
  · obtain rfl := Host.Outcome.next.inj h
    exact hms s hs
  · next c rest _ =>
    obtain ⟨x, hsame | ⟨hadmits, hsame⟩⟩ := exec_effect h
    · rw [hsame]
      exact hlinks _ _ (hpending s rest hs)
    · rw [hsame]
      exact hlinks _ _ (heffect c x _ hadmits (hpending s rest hs))

end Sys2Proof.Machine
end

section
/-! SUPPORT. What each operation of the Attention Unit writes: the record of each subject, the queue and the ports after a queueing, a
posting, the return of bindings and a fence (R172, R173, R178, R179, R180). -/

namespace Sys2Proof.Machine

variable {s : State}

/-! ### Subjects -/

theorem mem_allSubjects (j : Subject) : j ∈ allSubjects := by
  cases j with
  | register r => simp [allSubjects]
  | maintenance => simp [allSubjects]

theorem allSubjects_nodup : allSubjects.Nodup := by
  refine List.Nodup.append ((List.nodup_finRange 40).map fun _ _ h => Subject.register.inj h) (List.nodup_singleton _) ?_
  simp

/-! ### Queueing (R173) -/

@[simp] theorem State.enqueue_subject (s : State) (x j : Subject) :
    (s.enqueue x).subject j = if j = x then { s.subject x with queued := true } else s.subject j := by
  unfold State.enqueue
  by_cases hq : (s.subject x).queued = true
  · rw [if_pos hq]
    split
    · next h => rw [h, ← hq]
    · rfl
  · rw [if_neg hq]
    exact State.modSubject_subject s x j fun k => { k with queued := true }

@[simp] theorem State.enqueue_queue (s : State) (x : Subject) :
    (s.enqueue x).att.queue = if (s.subject x).queued then s.att.queue else s.att.queue ++ [x] := by
  unfold State.enqueue
  split <;> rfl

/-- What no queueing, posting or return of a binding touches of the Attention Unit. -/
def Attention.SameBoard (a b : Attention) : Prop :=
  b.portA = a.portA ∧ b.portB = a.portB ∧ b.lastTimeout = a.lastTimeout ∧ b.lastRestart = a.lastRestart

theorem Attention.SameBoard.refl (a : Attention) : a.SameBoard a := ⟨rfl, rfl, rfl, rfl⟩

theorem Attention.SameBoard.trans {a b c : Attention} (h : a.SameBoard b) (k : b.SameBoard c) : a.SameBoard c := by
  obtain ⟨h1, h2, h3, h4⟩ := h
  obtain ⟨k1, k2, k3, k4⟩ := k
  exact ⟨k1.trans h1, k2.trans h2, k3.trans h3, k4.trans h4⟩

theorem Attention.SameBoard.port {a b : Attention} (h : a.SameBoard b) (x : Side) : b.port x = a.port x := by
  obtain ⟨hA, hB, -, -⟩ := h
  cases x
  · exact hA
  · exact hB

theorem State.modSubject_board (s : State) (x : Subject) (f : SubjectRec → SubjectRec) :
    s.att.SameBoard (s.modSubject x f).att := ⟨rfl, rfl, rfl, rfl⟩

theorem State.enqueue_board (s : State) (x : Subject) : s.att.SameBoard (s.enqueue x).att := by
  unfold State.enqueue
  split <;> exact ⟨rfl, rfl, rfl, rfl⟩

/-! ### Postings (R172) -/

@[simp] theorem State.post_subject (s : State) (x j : Subject) (k : EventKind) :
    (s.post x k).subject j = if j = x then
      { s.subject x with
        pending := (s.subject x).pending ||| k.bit
        queued := (s.subject x).queued || (s.subject x).binding.isNone }
      else s.subject j := by
  unfold State.post
  dsimp only
  rw [State.modSubject_subject, if_pos rfl]
  by_cases h : j = x
  · subst h
    cases hb : (s.subject j).binding <;> simp [hb]
  · split <;> simp [h]

@[simp] theorem State.post_queue (s : State) (x : Subject) (k : EventKind) :
    (s.post x k).att.queue =
      if (s.subject x).queued || (s.subject x).binding.isSome then s.att.queue else s.att.queue ++ [x] := by
  unfold State.post
  dsimp only
  rw [State.modSubject_subject, if_pos rfl]
  cases hb : (s.subject x).binding <;> simp

theorem State.post_board (s : State) (x : Subject) (k : EventKind) : s.att.SameBoard (s.post x k).att := by
  unfold State.post
  dsimp only
  split
  · exact s.modSubject_board x _
  · exact (s.modSubject_board x _).trans (State.enqueue_board _ x)

@[simp] theorem State.post_port (s : State) (x : Subject) (k : EventKind) (y : Side) :
    (s.post x k).att.port y = s.att.port y := (s.post_board x k).port y

@[simp] theorem State.post_handler (s : State) (x j : Subject) (k : EventKind) : (s.post x k).handler j = s.handler j := by
  unfold State.handler
  rw [State.post_subject]
  split
  · next h => rw [h]
  · rfl

theorem EventKind.bit_getLsbD (k l : EventKind) : k.bit.getLsbD l.code = decide (l = k) := by
  cases k <;> cases l <;> rfl

/-- What is pending after a posting. -/
@[simp] theorem State.post_isPending (s : State) (x j : Subject) (k l : EventKind) :
    (s.post x k).isPending j l = (s.isPending j l || (decide (j = x) && decide (l = k))) := by
  unfold State.isPending
  rw [State.post_subject]
  by_cases h : j = x
  · rw [if_pos h, h, BitVec.getLsbD_or, EventKind.bit_getLsbD]
    simp
  · rw [if_neg h]
    simp [h]

/-! ### The return of bindings (R178, R180, R188) -/

/-- A subject's record when its binding is given back. -/
def SubjectRec.returned (j : SubjectRec) : SubjectRec := ⟨none, j.pending ||| EventKind.handlerReturned.bit, true⟩

@[simp] theorem State.returnBinding_subject (s : State) (x j : Subject) :
    (s.returnBinding x).subject j = if j = x then (s.subject x).returned else s.subject j := by
  unfold State.returnBinding
  rw [State.enqueue_subject, State.modSubject_subject, State.modSubject_subject, if_pos rfl]
  by_cases h : j = x
  · rw [if_pos h, if_pos h]
    rfl
  · rw [if_neg h, if_neg h, if_neg h]

@[simp] theorem State.returnBinding_queue (s : State) (x : Subject) :
    (s.returnBinding x).att.queue = if (s.subject x).queued then s.att.queue else s.att.queue ++ [x] := by
  unfold State.returnBinding
  rw [State.enqueue_queue, State.modSubject_subject, if_pos rfl]
  rfl

theorem State.returnBinding_board (s : State) (x : Subject) : s.att.SameBoard (s.returnBinding x).att :=
  (s.modSubject_board x _).trans (State.enqueue_board _ x)

theorem State.handler_of_subject {s t : State} {i j : Subject} (h : t.subject i = s.subject j) : t.handler i = s.handler j := by
  unfold State.handler
  rw [h]

@[simp] theorem State.returnBinding_handler (s : State) (x j : Subject) :
    (s.returnBinding x).handler j = if j = x then none else s.handler j := by
  by_cases h : j = x
  · rw [if_pos h, State.handler, State.returnBinding_subject, if_pos h]
    rfl
  · rw [if_neg h]
    exact State.handler_of_subject (by rw [State.returnBinding_subject, if_neg h])

/-- The bindings of port `y` among the subjects of a list are given back in the order of the list. -/
def State.returnAmong (s : State) (y : Side) (l : List Subject) : State :=
  l.foldl (fun t x => if t.handler x = some y then t.returnBinding x else t) s

theorem State.returnBindings_eq (s : State) (y : Side) : s.returnBindings y = s.returnAmong y allSubjects := rfl

theorem State.returnAmong_cons (s : State) (y : Side) (x : Subject) (l : List Subject) :
    s.returnAmong y (x :: l) = (if s.handler x = some y then s.returnBinding x else s).returnAmong y l := rfl

theorem State.returnAmong_subject (s : State) (y : Side) (l : List Subject) (j : Subject) :
    (s.returnAmong y l).subject j = if j ∈ l ∧ s.handler j = some y then (s.subject j).returned else s.subject j := by
  induction l generalizing s with
  | nil => simp [State.returnAmong]
  | cons x l ih =>
    rw [State.returnAmong_cons, ih]
    by_cases hx : s.handler x = some y
    · rw [if_pos hx, State.returnBinding_subject, State.returnBinding_handler]
      by_cases hj : j = x
      · simp [hj, hx]
      · simp [hj]
    · rw [if_neg hx]
      by_cases hj : j = x
      · simp [hj, hx]
      · simp [hj]

theorem State.returnAmong_queue (s : State) (y : Side) {l : List Subject} (hl : l.Nodup)
    (hq : ∀ j, s.handler j = some y → (s.subject j).queued = false) :
    (s.returnAmong y l).att.queue = s.att.queue ++ l.filter fun j => s.handler j = some y := by
  induction l generalizing s with
  | nil => simp [State.returnAmong]
  | cons x l ih =>
    obtain ⟨hxl, hl⟩ := List.nodup_cons.1 hl
    rw [State.returnAmong_cons]
    by_cases hx : s.handler x = some y
    · rw [if_pos hx, ih _ hl fun j hj => ?_]
      · have hsame : ∀ j ∈ l, ((s.returnBinding x).handler j = some y ↔ s.handler j = some y) := fun j hj => by
          rw [State.returnBinding_handler, if_neg (ne_of_mem_of_not_mem hj hxl)]
        rw [State.returnBinding_queue, hq x hx, List.filter_cons_of_pos (by simpa using hx), if_neg Bool.false_ne_true,
          List.append_assoc, List.singleton_append, List.filter_congr fun j hj => decide_eq_decide.2 (hsame j hj)]
      · by_cases hjx : j = x
        · simp [hjx] at hj
        · rw [State.returnBinding_handler, if_neg hjx] at hj
          rw [State.returnBinding_subject, if_neg hjx]
          exact hq j hj
    · rw [if_neg hx, ih _ hl hq, List.filter_cons_of_neg (by simpa using hx)]

theorem State.returnAmong_board (s : State) (y : Side) (l : List Subject) : s.att.SameBoard (s.returnAmong y l).att :=
  foldl_keeps _ (fun t => s.att.SameBoard t.att)
    (fun t x h => by
      split
      · exact h.trans (t.returnBinding_board x)
      · exact h)
    l s (.refl _)

/-- R180, R188: what becomes of each subject when the bindings of a port are given back. -/
@[simp] theorem State.returnBindings_subject (s : State) (y : Side) (j : Subject) :
    (s.returnBindings y).subject j = if s.handler j = some y then (s.subject j).returned else s.subject j := by
  rw [State.returnBindings_eq, State.returnAmong_subject]
  simp [mem_allSubjects]

theorem State.returnBindings_queue (s : State) (y : Side) (hq : ∀ j, s.handler j = some y → (s.subject j).queued = false) :
    (s.returnBindings y).att.queue = s.att.queue ++ allSubjects.filter fun j => s.handler j = some y := by
  rw [State.returnBindings_eq, State.returnAmong_queue s y allSubjects_nodup hq]

theorem State.returnBindings_board (s : State) (y : Side) : s.att.SameBoard (s.returnBindings y).att := by
  rw [State.returnBindings_eq]
  exact s.returnAmong_board y allSubjects

@[simp] theorem State.returnBindings_port (s : State) (x y : Side) : (s.returnBindings y).att.port x = s.att.port x :=
  (s.returnBindings_board y).port x

/-- No subject stays bound to the port. -/
@[simp] theorem State.returnBindings_handler (s : State) (y : Side) (j : Subject) :
    (s.returnBindings y).handler j = if s.handler j = some y then none else s.handler j := by
  rw [State.handler, State.returnBindings_subject]
  split <;> rfl

@[simp] theorem State.modPort_handler (s : State) (x : Side) (j : Subject) (f : ControllerPort → ControllerPort) :
    (s.modPort x f).handler j = s.handler j := State.handler_of_subject (State.modPort_subject s x j f)

/-! ### Fence and strike (R179, R180) -/

theorem State.fence_port (s : State) (x y : Side) :
    (s.fence y).att.port x = if x = y then { s.att.port y with fenced := true } else s.att.port x := by
  simp [State.fence]

theorem State.fence_handler (s : State) (y : Side) (j : Subject) :
    (s.fence y).handler j = if s.handler j = some y then none else s.handler j := by
  simp [State.fence]

end Sys2Proof.Machine
end

section
/-! SUPPORT. The law of the fence (R180) and the law of the Attention Queue (R173) over every effect: the shared operations only post,
and the rest of chapter 10 moves bindings. -/

namespace Sys2Proof.Machine

/-! ### What posts and nothing else -/

theorem State.coldStart_att (s : State) (cause : RestartCause) (tag : BitVec 8) : (s.coldStart cause tag).att = Attention.cold cause :=
  (State.takeOrder_frame _).2.2.2.2.2.2.2.2.1

theorem State.restartReg_posts {a : Attention} (s : State) (r : RegNo) (h : Posts a s.att) : Posts a (s.restartReg r).att := by
  have hfree : Posts a (s.restartFree r).att := by simpa [State.restartFree] using h
  have hrelease : Posts a (s.restartRelease r).att := by simp [State.restartRelease, h]
  unfold State.restartReg
  (repeat' split) <;> assumption

theorem State.regenerate_att (s : State) (r : RegNo) : (s.regenerate r).att = s.att := by
  unfold State.regenerate
  dsimp only
  (repeat' split) <;> simp

theorem State.restartTerminals_posts {a : Attention} (s : State) (h : Posts a s.att) : Posts a s.restartTerminals.att := by
  unfold State.restartTerminals
  dsimp only
  split
  · exact State.post_posts _ _ _ h
  · exact h

theorem State.silence_att (s : State) : s.silence.att = s.att := by
  unfold State.silence
  rw [foldl_same _ State.att fun _ _ => by simp, foldl_same _ State.att fun _ _ => by simp [State.silenceLine]]

/-- R187: after the Attention Unit is set as for a cold start, a warm restart posts and does nothing else to it. -/
theorem State.warmRestart_posts (s : State) (cause : RestartCause) :
    Posts { Attention.cold cause with lastTimeout := s.att.lastTimeout, lastRestart := (.warm, cause) } (s.warmRestart cause).att := by
  unfold State.warmRestart State.restartBlocks
  simp only [State.takeOrder_frame, State.settle_frame]
  refine State.post_posts _ _ _ ?_
  rw [State.silence_att, foldl_same _ State.att State.regenerate_att]
  exact State.restartTerminals_posts _ (foldl_posts _ (fun _ _ => State.restartReg_posts _ _) _ _ (.refl _))

/-- The rows that do more to the Attention Unit than post. -/
def movesBindings : Instr → Bool
  | .takeEvent _ | .done _ _ | .setAttention _ _ | .fenceOther _ | .admitOther _ | .initialise _ | .restart _ |
    .handlingLimitExpiry _ | .powerUp _ _ | .restartLineAsserted | .linkResetAsserted _ => true
  | _ => false

end Sys2Proof.Machine
end

section
/-! SUPPORT. What each effect does to the Attention Unit, and with it the law of the fence (R180) and the law of the Attention Queue
(R173) over every step. -/

namespace Sys2Proof.Machine

/-- An acting command does to the Attention Unit what its body does, or nothing. -/
theorem acting_posts {a : Attention} {x : Side} {b : Byte} {s : State} {body : RegNo → State × Response} (hs : Posts a s.att)
    (h : ∀ r, Posts a (body r).1.att) : Posts a (acting x b s body).1.att := by
  unfold acting
  split
  · exact hs
  · split
    · exact hs
    · split
      · exact h _
      · exact hs

theorem hunt_att (s : State) (r : RegNo) : (s.hunt r).1.att = s.att := by
  have houtcome (x : Except NoPath Found) (c : Option LineNo) (b : Bool) : (s.huntOutcome r x c b).1.att = s.att := by
    cases x with
    | ok f => cases c <;> cases b <;> simp [State.huntOutcome, State.takePath]
    | error e => rfl
  unfold State.hunt
  split
  · split
    · rfl
    · exact houtcome _ _ _
  · exact houtcome _ _ _
  · split
    · rfl
    · exact houtcome _ _ _
  · rfl

theorem State.takeOut_att (s : State) (t : Terminal) : (s.takeOut t).att = s.att := by
  cases t <;> rfl

/-- Every other effect posts and does nothing else to the Attention Unit. -/
theorem effect_posts {c : Instr} (hc : movesBindings c = false) (x : Side) (s : State) : Posts s.att (effect c x s).att := by
  have h0 : Posts s.att s.att := .refl _
  cases c <;> simp only [movesBindings, Bool.true_eq_false] at hc <;> simp only [effect]
  case giveTone =>
    unfold giveTone
    split
    · exact h0
    · refine acting_posts h0 fun r => ?_
      split <;> simp [doneWith, refuse, h0]
  case releaseCall =>
    unfold releaseCall
    refine acting_posts h0 fun r => ?_
    split <;> simp [doneWith, refuse, h0]
  case writeLine =>
    unfold writeLine State.putIntoService
    (repeat' split) <;> simp [doneWith, refuse, h0]
  case removeLine =>
    unfold removeLine
    (repeat' split) <;> simp [doneWith, refuse, h0, State.takeOut_att]
  case huntPath =>
    unfold huntPath
    refine acting_posts h0 fun r => ?_
    (repeat' split) <;> simp [refuse, h0, hunt_att]
  case ring =>
    unfold ringCall
    refine acting_posts h0 fun r => ?_
    (repeat' split) <;> simp [doneWith, refuse, h0]
  case send =>
    unfold sendCall
    refine acting_posts h0 fun r => ?_
    dsimp only
    (repeat' split) <;> simp [doneWith, refuse, h0, State.startSending]
  case adjustMeter =>
    unfold adjustMeter
    dsimp only
    (repeat' split) <;> simp [refuse, h0]
  case presetMeter =>
    unfold presetMeter
    (repeat' split) <;> simp [doneWith, refuse, h0, State.presetTo]
  case meteringStepBoundary => exact foldl_posts _ (fun _ _ => State.stepContext_posts _ _) _ _ h0
  case blockReceiver | unblockReceiver | writeNodeSlot | writeRoute | writeDirectory | clearTranslations | setIncomingRoot |
      seizeElement | returnElement | assignTrunkGroup | blockSender | unblockSender | writeTariffCell | applyTariffs | selectBand |
      setClock | takeSnapshot | releaseSnapshot | removeTicket | setDirectoryDigit | sweepReachesMeter | sweepCompletion =>
    simp only [blockReceiver, unblockReceiver, writeNodeSlot, writeRoute, writeDirectory, clearTranslations, setIncomingRoot,
      seizeElement, returnElement, assignTrunkGroup, blockSender, unblockSender, writeTariffCell, applyTariffs, selectBand, setClock,
      takeSnapshot, releaseSnapshot, removeTicket, setDirectoryDigit, State.sweepStep, State.sweepDone, State.sweepRest]
    (repeat' split) <;> simp [doneWith, refuse, h0]
  all_goals (repeat' split) <;> simp [h0]

end Sys2Proof.Machine
end

section
/-! SUPPORT. The law of the Attention Queue (R173) and the law of the fence (R180), kept by each operation of chapter 10. -/

namespace Sys2Proof.Machine

variable {s : State}

/-! ### The law of the Attention Queue -/

/-- The law speaks of the Attention Unit alone. -/
theorem AttentionLaw.congr {s t : State} (h : AttentionLaw s) (ha : t.att = s.att) : AttentionLaw t := by
  unfold AttentionLaw State.subject at *
  rwa [ha]

theorem AttentionLaw.withLinks (h : AttentionLaw s) (l : LinkPorts) : AttentionLaw { s with links := l } := h

theorem AttentionLaw.withLastTimeout (h : AttentionLaw s) (r : Option (Side × Subject)) :
    AttentionLaw { s with att := { s.att with lastTimeout := r } } := h

theorem AttentionLaw.takeLevels (h : AttentionLaw s) (l : LineLevels) : AttentionLaw (s.takeLevels l) := h

theorem AttentionLaw.unbound_of_mem (h : AttentionLaw s) {j : Subject} (hj : j ∈ s.att.queue) : (s.subject j).binding = none :=
  (h.2 j).2 ((h.2 j).1.2 hj)

theorem AttentionLaw.not_queued_of_bound (h : AttentionLaw s) {j : Subject} {x : Side} (hj : s.handler j = some x) :
    (s.subject j).queued = false := by
  refine eq_false_of_ne_true fun hq => ?_
  simp [State.handler, (h.2 j).2 hq] at hj

theorem AttentionLaw.not_mem_of_not_queued (h : AttentionLaw s) {j : Subject} (hj : ¬(s.subject j).queued = true) :
    j ∉ s.att.queue := fun hm => hj ((h.2 j).1.2 hm)

/-- The law when one subject's record changes: it stays in its place, or joins the tail, or leaves the head. -/
theorem AttentionLaw.of_one {s t : State} (x : Subject) (hs : AttentionLaw s) (hrest : ∀ j, j ≠ x → t.subject j = s.subject j)
    (hnodup : t.att.queue.Nodup) (hmem : ∀ j, j ≠ x → (j ∈ t.att.queue ↔ j ∈ s.att.queue))
    (hx : ((t.subject x).queued = true ↔ x ∈ t.att.queue) ∧ ((t.subject x).queued = true → (t.subject x).binding = none)) :
    AttentionLaw t := by
  refine ⟨hnodup, fun j => ?_⟩
  by_cases hj : j = x
  · exact hj ▸ hx
  · rw [hrest j hj, hmem j hj]
    exact hs.2 j

theorem AttentionLaw.post (h : AttentionLaw s) (x : Subject) (k : EventKind) : AttentionLaw (s.post x k) := by
  have hrest : ∀ j, j ≠ x → (s.post x k).subject j = s.subject j := fun j hj => by rw [State.post_subject, if_neg hj]
  obtain ⟨hmem, hbound⟩ := h.2 x
  by_cases hq : (s.subject x).queued || (s.subject x).binding.isSome
  · have hqueue : (s.post x k).att.queue = s.att.queue := by rw [State.post_queue, if_pos hq]
    refine h.of_one x hrest (hqueue ▸ h.1) (fun j _ => by rw [hqueue]) ?_
    rw [hqueue, State.post_subject, if_pos rfl]
    cases hb : (s.subject x).binding <;> simp_all
  · have hqueue : (s.post x k).att.queue = s.att.queue ++ [x] := by rw [State.post_queue, if_neg hq]
    simp only [Bool.or_eq_true, not_or] at hq
    obtain ⟨hnq, hnb⟩ := hq
    refine h.of_one x hrest ?_ (fun j hj => by rw [hqueue]; simp [hj]) ?_
    · rw [hqueue]
      exact h.1.append (List.nodup_singleton x) (List.disjoint_singleton.2 (h.not_mem_of_not_queued hnq))
    · rw [hqueue, State.post_subject, if_pos rfl]
      simp_all

/-- A subject whose record is replaced, unbound, in its place. -/
theorem AttentionLaw.modSubject (h : AttentionLaw s) (x : Subject) (f : SubjectRec → SubjectRec)
    (hf : ∀ j, (f j).binding = none ∧ (f j).queued = j.queued) : AttentionLaw (s.modSubject x f) := by
  obtain ⟨hbinding, hqueued⟩ := hf (s.subject x)
  refine h.of_one x (fun j hj => by rw [State.modSubject_subject, if_neg hj]) h.1 (fun _ _ => Iff.rfl) ?_
  rw [State.modSubject_subject, if_pos rfl, hqueued]
  exact ⟨(h.2 x).1, fun _ => hbinding⟩

theorem AttentionLaw.enqueue (h : AttentionLaw s) {x : Subject} (hx : (s.subject x).binding = none) : AttentionLaw (s.enqueue x) := by
  by_cases hq : (s.subject x).queued = true
  · rw [State.enqueue, if_pos hq]
    exact h
  · have hqueue : (s.enqueue x).att.queue = s.att.queue ++ [x] := by rw [State.enqueue_queue, if_neg hq]
    refine h.of_one x (fun j hj => by rw [State.enqueue_subject, if_neg hj]) ?_ (fun j hj => by rw [hqueue]; simp [hj]) ?_
    · rw [hqueue]
      exact h.1.append (List.nodup_singleton x) (List.disjoint_singleton.2 (h.not_mem_of_not_queued hq))
    · rw [hqueue, State.enqueue_subject, if_pos rfl]
      simp [hx]

theorem AttentionLaw.returnBinding (h : AttentionLaw s) (x : Subject) : AttentionLaw (s.returnBinding x) := by
  unfold State.returnBinding
  refine AttentionLaw.enqueue (h.modSubject x _ ?_) ?_
  · exact fun _ => ⟨rfl, rfl⟩
  rw [State.modSubject_subject, if_pos rfl]

theorem AttentionLaw.returnBindings (h : AttentionLaw s) (y : Side) : AttentionLaw (s.returnBindings y) :=
  foldl_keeps _ AttentionLaw (fun t x ht => by
    split
    · exact ht.returnBinding x
    · exact ht) _ _ h

theorem AttentionLaw.modPort (h : AttentionLaw s) (y : Side) (f : ControllerPort → ControllerPort) : AttentionLaw (s.modPort y f) := by
  unfold AttentionLaw at *
  simpa using h

theorem AttentionLaw.fence (h : AttentionLaw s) (y : Side) : AttentionLaw (s.fence y) := by
  unfold State.fence
  exact ((h.modPort y _).returnBindings y).post _ _

theorem AttentionLaw.strike (h : AttentionLaw s) (y : Side) : AttentionLaw (s.strike y) := by
  unfold State.strike
  dsimp only
  split
  · exact (h.modPort y _).fence y
  · exact h.modPort y _

theorem AttentionLaw.of_posts {t : State} (h : AttentionLaw s) (hp : Posts s.att t.att) : AttentionLaw t :=
  hp.keeps (P := fun a => ∀ u : State, u.att = a → AttentionLaw u)
    (fun u x k hu _ hv => (AttentionLaw.post (hu u rfl) x k).congr hv) (fun _ hu => h.congr hu) t rfl

/-- Take Event binds the head of the queue (R175). -/
theorem AttentionLaw.takeEvent (h : AttentionLaw s) (x : Side) : AttentionLaw (takeEvent x s).1 := by
  unfold Machine.takeEvent
  split
  · exact h
  · next j rest hqueue =>
    obtain ⟨hj, hrest⟩ := List.nodup_cons.1 (hqueue ▸ h.1)
    refine h.of_one j (fun i hi => ?_) hrest (fun i hi => ?_) ?_
    · rw [State.modSubject_subject, if_neg hi]
      rfl
    · rw [hqueue, List.mem_cons, or_iff_right hi]
      rfl
    · rw [State.modSubject_subject, if_pos rfl]
      exact ⟨iff_of_false Bool.false_ne_true hj, nofun⟩

theorem AttentionLaw.finish (h : AttentionLaw s) (x : Side) (j : Subject) : AttentionLaw (s.finish x j) := by
  have hu := (h.modSubject j (fun k => { k with binding := none }) fun _ => ⟨rfl, rfl⟩).modPort x fun p => { p with strikes := 0 }
  unfold State.finish
  dsimp only
  split
  · exact hu.enqueue (by rw [State.modPort_subject, State.modSubject_subject, if_pos rfl])
  · split
    · split
      · exact hu.congr (by simp only [State.settle_frame, State.freeReg_frame])
      · exact hu
    · exact hu

theorem AttentionLaw.cold (cause : RestartCause) (a : Option (Side × Subject)) (r : RestartKind × RestartCause) (t : State)
    (ht : t.att = { Attention.cold cause with lastTimeout := a, lastRestart := r }) : AttentionLaw t := by
  have hsubject : ∀ j, t.subject j = SubjectRec.clear := fun j => by
    rw [State.subject, ht]
    exact tget_replicate _ _
  refine ⟨by rw [ht]; exact List.nodup_nil, fun j => ?_⟩
  rw [hsubject, ht]
  exact ⟨iff_of_false Bool.false_ne_true List.not_mem_nil, nofun⟩

/-! ### The law of the fence -/

theorem FenceLaw.congr {s t : State} (h : FenceLaw s) (ha : t.att = s.att) : FenceLaw t := by
  unfold FenceLaw State.handler State.subject at *
  rwa [ha]

/-- The law where no port is fenced that was not, and no subject bound that was not. -/
theorem FenceLaw.of_less {s t : State} (h : FenceLaw s) (hport : ∀ x, (t.att.port x).fenced = true → (s.att.port x).fenced = true)
    (hbound : ∀ j x, t.handler j = some x → s.handler j = some x ∨ (t.att.port x).fenced = false) : FenceLaw t := by
  obtain ⟨hone, hfree⟩ := h
  refine ⟨fun ⟨ha, hb⟩ => hone ⟨hport _ ha, hport _ hb⟩, fun x j hx hj => ?_⟩
  rcases hbound j x hj with hs | hf
  · exact hfree x j (hport x hx) hs
  · simp [hf] at hx

theorem FenceLaw.of_same {s t : State} (h : FenceLaw s) (hport : ∀ x, (t.att.port x).fenced = (s.att.port x).fenced)
    (hbound : ∀ j x, t.handler j = some x → s.handler j = some x) : FenceLaw t :=
  h.of_less (fun x hx => hport x ▸ hx) fun j x hj => .inl (hbound j x hj)

theorem FenceLaw.withLinks (h : FenceLaw s) (l : LinkPorts) : FenceLaw { s with links := l } := h

theorem FenceLaw.withLastTimeout (h : FenceLaw s) (r : Option (Side × Subject)) :
    FenceLaw { s with att := { s.att with lastTimeout := r } } := by
  refine h.of_same (fun x => ?_) fun _ _ => id
  cases x <;> rfl

theorem FenceLaw.takeLevels (h : FenceLaw s) (l : LineLevels) : FenceLaw (s.takeLevels l) := h

theorem FenceLaw.post (h : FenceLaw s) (x : Subject) (k : EventKind) : FenceLaw (s.post x k) :=
  h.of_same (fun y => by rw [State.post_port]) fun j y hj => by rwa [State.post_handler] at hj

theorem FenceLaw.of_posts {t : State} (h : FenceLaw s) (hp : Posts s.att t.att) : FenceLaw t :=
  hp.keeps (P := fun a => ∀ u : State, u.att = a → FenceLaw u)
    (fun u x k hu _ hv => (FenceLaw.post (hu u rfl) x k).congr hv) (fun _ hu => h.congr hu) t rfl

/-- An operation that leaves the fences as they stand. -/
theorem FenceLaw.modPort (h : FenceLaw s) (y : Side) (f : ControllerPort → ControllerPort) (hf : ∀ p, (f p).fenced = true → p.fenced = true) :
    FenceLaw (s.modPort y f) := by
  refine h.of_less (fun x hx => ?_) fun j x hj => .inl ?_
  · rw [State.modPort_port] at hx
    split at hx
    · next he => exact he ▸ hf _ hx
    · exact hx
  · rwa [State.modPort_handler] at hj

/-- Fencing a port whose other is not fenced. -/
theorem FenceLaw.fence (h : FenceLaw s) {y : Side} (hy : (s.att.port y.other).fenced = false) : FenceLaw (s.fence y) := by
  obtain ⟨-, hfree⟩ := h
  have hother : ((s.fence y).att.port y.other).fenced = false := by
    rw [State.fence_port, if_neg (by cases y <;> decide)]
    exact hy
  refine ⟨fun ⟨ha, hb⟩ => ?_, fun x j hx => ?_⟩
  · cases y
    · exact Bool.false_ne_true (hother.symm.trans hb)
    · exact Bool.false_ne_true (hother.symm.trans ha)
  · rw [State.fence_handler]
    rw [State.fence_port] at hx
    split
    · nofun
    · next hj =>
      split at hx
      · next he => exact he ▸ hj
      · exact hfree x j hx

theorem FenceLaw.strike (h : FenceLaw s) (y : Side) : FenceLaw (s.strike y) := by
  have hu := h.modPort y (fun p => { p with strikes := min Config.maxStrikes (p.strikes + 1) }) fun _ => id
  unfold State.strike
  dsimp only
  split
  · next hfences => exact hu.fence (by simpa using hfences.2)
  · exact hu

theorem FenceLaw.returnBinding (h : FenceLaw s) (x : Subject) : FenceLaw (s.returnBinding x) :=
  h.of_same (fun y => by rw [(s.returnBinding_board x).port]) fun j y hj => by
    rw [State.returnBinding_handler] at hj
    split at hj
    · cases hj
    · exact hj

theorem FenceLaw.returnBindings (h : FenceLaw s) (y : Side) : FenceLaw (s.returnBindings y) :=
  h.of_same (fun x => by rw [State.returnBindings_port]) fun j x hj => by
    rw [State.returnBindings_handler] at hj
    split at hj
    · cases hj
    · exact hj

theorem FenceLaw.takeEvent (h : FenceLaw s) {x : Side} (hx : (s.att.port x).fenced = false) : FenceLaw (takeEvent x s).1 := by
  unfold Machine.takeEvent
  split
  · exact h
  · next j rest hqueue =>
    refine h.of_less (fun _ => id) fun i y hi => ?_
    by_cases hij : i = j
    · rw [State.handler, State.modSubject_subject, if_pos hij] at hi
      obtain rfl : x = y := Option.some.inj hi
      exact .inr hx
    · rw [State.handler, State.modSubject_subject, if_neg hij] at hi
      exact .inl hi

theorem FenceLaw.finish (h : FenceLaw s) (x : Side) (j : Subject) : FenceLaw (s.finish x j) := by
  have hu : FenceLaw (s.modSubject j fun k => { k with binding := none }) := by
    refine h.of_same (fun _ => rfl) fun i y hi => ?_
    rw [State.handler, State.modSubject_subject] at hi
    split at hi
    · cases hi
    · exact hi
  have hv := hu.modPort x (fun p => { p with strikes := 0 }) fun _ => id
  unfold State.finish
  dsimp only
  split
  · refine hv.of_same (fun y => by rw [(State.enqueue_board _ j).port]) fun i y hi => ?_
    rw [State.handler, State.enqueue_subject] at hi
    split at hi
    · next he => exact he ▸ hi
    · exact hi
  · split
    · split
      · exact hv.congr (by simp only [State.settle_frame, State.freeReg_frame])
      · exact hv
    · exact hv

theorem FenceLaw.cold (cause : RestartCause) (a : Option (Side × Subject)) (r : RestartKind × RestartCause) (t : State)
    (ht : t.att = { Attention.cold cause with lastTimeout := a, lastRestart := r }) : FenceLaw t := by
  have hport : ∀ x, (t.att.port x).fenced = false := fun x => by
    rw [ht]
    cases x <;> rfl
  exact ⟨fun ⟨ha, _⟩ => by simp [hport] at ha, fun x j hx => by simp [hport] at hx⟩

/-! ### Every step -/

/-- R193: the port reset of a controller port gives back its bindings, and clears its enable and its strikes. -/
theorem State.portReset_controller (s : State) (y : Side) : s.portReset (.controller y) =
    (({ s with links := s.links.put (.controller y) ⟨.heldInReset, true⟩ } : State).returnBindings y).modPort y
      fun p => { p with enabled := false, strikes := 0 } := rfl

theorem State.takeLevels_att (s : State) (l : LineLevels) : (s.takeLevels l).att = s.att := rfl

theorem attentionLaw_effect (c : Instr) (x : Side) (h : AttentionLaw s) : AttentionLaw (effect c x s) := by
  have hcold (cause : RestartCause) (tag : BitVec 8) : AttentionLaw (s.coldStart cause tag) :=
    .cold cause none (.cold, cause) _ (State.coldStart_att _ _ _)
  have hwarm (u : State) (cause : RestartCause) : AttentionLaw (u.warmRestart cause) :=
    (AttentionLaw.cold cause _ _ (u.clearAttention cause) rfl).of_posts (u.warmRestart_posts cause)
  by_cases hc : movesBindings c = false
  · exact h.of_posts (effect_posts hc x s)
  cases c <;> simp only [movesBindings, not_true] at hc <;> simp only [effect]
  case takeEvent => exact h.takeEvent x
  case done b =>
    unfold doneSubject
    split
    · exact h
    · split
      · exact h
      · split
        · exact h.finish x _
        · exact h
  case setAttention =>
    unfold setAttention
    split
    · exact h
    · exact h.modPort x _
  case fenceOther =>
    unfold fenceOther
    split
    · exact h
    · dsimp only [doneWith]
      exact h.fence _
  case admitOther =>
    unfold admitOther
    split
    · exact h.modPort _ _
    · exact h
  case initialise =>
    unfold initialise
    split
    · exact h
    · dsimp only [doneWith]
      exact hcold .initialise s.orders.tag
  case restart =>
    dsimp only [doneWith]
    exact hwarm s .restartCommand
  case handlingLimitExpiry j =>
    unfold State.handlingExpiry
    split
    · split
      · exact AttentionLaw.strike (AttentionLaw.post (AttentionLaw.withLastTimeout (h.returnBinding j) _) _ _) _
      · exact h
    · exact h
  case powerUp retained levels =>
    cases retained
    · exact AttentionLaw.takeLevels (hcold .powerUp 0) levels
    · rw [if_pos rfl]
      exact AttentionLaw.takeLevels (hwarm s .powerUp) levels
  case restartLineAsserted =>
    split
    · exact h
    · exact hwarm _ .restartLine
  case linkResetAsserted p =>
    split
    · exact h
    · cases p with
      | controller y =>
        rw [State.portReset_controller]
        exact AttentionLaw.modPort (AttentionLaw.returnBindings (h.withLinks _) y) y _
      | billing => exact h.withLinks _

theorem fenceLaw_effect (c : Instr) (x : Side) (ha : s.admits c x) (h : FenceLaw s) : FenceLaw (effect c x s) := by
  have hcold (cause : RestartCause) (tag : BitVec 8) : FenceLaw (s.coldStart cause tag) :=
    .cold cause none (.cold, cause) _ (State.coldStart_att _ _ _)
  have hwarm (u : State) (cause : RestartCause) : FenceLaw (u.warmRestart cause) :=
    (FenceLaw.cold cause _ _ (u.clearAttention cause) rfl).of_posts (u.warmRestart_posts cause)
  by_cases hc : movesBindings c = false
  · exact h.of_posts (effect_posts hc x s)
  cases c <;> simp only [movesBindings, not_true] at hc <;> simp only [effect]
  case takeEvent => exact h.takeEvent (ha _ _ _ rfl rfl)
  case done b =>
    unfold doneSubject
    split
    · exact h
    · split
      · exact h
      · split
        · exact h.finish x _
        · exact h
  case setAttention =>
    unfold setAttention
    split
    · exact h
    · exact h.modPort x _ fun _ => id
  case fenceOther =>
    unfold fenceOther
    split
    · exact h
    · dsimp only [doneWith]
      refine h.fence ?_
      rw [show x.other.other = x by cases x <;> rfl]
      exact ha _ _ _ rfl rfl
  case admitOther =>
    unfold admitOther
    split
    · exact h.modPort _ _ fun _ hp => absurd hp Bool.false_ne_true
    · exact h
  case initialise =>
    unfold initialise
    split
    · exact h
    · dsimp only [doneWith]
      exact hcold .initialise s.orders.tag
  case restart =>
    dsimp only [doneWith]
    exact hwarm s .restartCommand
  case handlingLimitExpiry j =>
    unfold State.handlingExpiry
    split
    · split
      · exact FenceLaw.strike (FenceLaw.post (FenceLaw.withLastTimeout (h.returnBinding j) _) _ _) _
      · exact h
    · exact h
  case powerUp retained levels =>
    cases retained
    · exact FenceLaw.takeLevels (hcold .powerUp 0) levels
    · rw [if_pos rfl]
      exact FenceLaw.takeLevels (hwarm s .powerUp) levels
  case restartLineAsserted =>
    split
    · exact h
    · exact hwarm _ .restartLine
  case linkResetAsserted p =>
    split
    · exact h
    · cases p with
      | controller y =>
        rw [State.portReset_controller]
        exact FenceLaw.modPort (FenceLaw.returnBindings (h.withLinks _) y) y _ fun _ => id
      | billing => exact h.withLinks _

/-- A millisecond takes an order and lets the binding times run up. -/
theorem millisecond_subject (s : State) (j : Subject) : s.takeOrder.passMillisecond.subject j = (s.subject j).pass := by
  simp [State.subject, State.passMillisecond]

theorem millisecond_queue (s : State) : s.takeOrder.passMillisecond.att.queue = s.att.queue := by
  simp [State.passMillisecond]

theorem millisecond_port (s : State) (x : Side) : s.takeOrder.passMillisecond.att.port x = s.att.port x := by
  cases x <;> simp [State.passMillisecond, Attention.port]

theorem attentionLaw_millisecond (h : AttentionLaw s) : AttentionLaw s.takeOrder.passMillisecond := by
  obtain ⟨hnodup, hsubject⟩ := h
  rw [← millisecond_queue] at hnodup
  refine ⟨hnodup, fun j => ?_⟩
  obtain ⟨hmem, hbound⟩ := hsubject j
  rw [millisecond_subject, millisecond_queue]
  exact ⟨hmem, fun hq => by rw [SubjectRec.pass, hbound hq]; rfl⟩

theorem fenceLaw_millisecond (h : FenceLaw s) : FenceLaw s.takeOrder.passMillisecond :=
  h.of_same (fun x => by rw [millisecond_port]) fun j x hj => by
    rw [State.handler, millisecond_subject] at hj
    rw [State.handler, ← hj, SubjectRec.pass, Option.map_map]
    rfl

/-- Settles O58: R173 over every effect and the millisecond. -/
theorem attentionLawIsKept : Obligations.AttentionLawIsKept := fun _ _ hs h =>
  step_keeps (fun _ l hs => hs.withLinks l) (fun _ _ hs => hs) (fun c x _ _ hs => attentionLaw_effect c x hs)
    (fun _ => attentionLaw_millisecond) hs h

/-- Settles O59: R180 over every effect, which a controller port has only while it is not fenced, and the millisecond. -/
theorem fenceLawIsKept : Obligations.FenceLawIsKept := fun _ _ hs h =>
  step_keeps (fun _ l hs => hs.withLinks l) (fun _ _ hs => hs) (fun c x _ ha hs => fenceLaw_effect c x ha hs)
    (fun _ => fenceLaw_millisecond) hs h

end Sys2Proof.Machine
end

section
/-! SUPPORT. What the operations of the chapters leave alone: one lemma per operation, a conjunction over the fields of the state that
it does not touch, in the manner of Laws/Ops.lean. -/

namespace Sys2Proof.Machine

@[simp] theorem State.giveUpCalled_frame (s : State) (r : RegNo) :
    (s.giveUpCalled r).tariff = s.tariff ∧ (s.giveUpCalled r).store = s.store ∧ (s.giveUpCalled r).links = s.links ∧
      (s.giveUpCalled r).restartLine = s.restartLine ∧ (s.giveUpCalled r).draws = s.draws ∧
      (s.giveUpCalled r).pending = s.pending := by
  unfold State.giveUpCalled
  (repeat' split) <;> simp

@[simp] theorem State.toneExpiry_frame (s : State) (r : RegNo) :
    (s.toneExpiry r).tariff = s.tariff ∧ (s.toneExpiry r).store = s.store ∧ (s.toneExpiry r).links = s.links ∧
      (s.toneExpiry r).restartLine = s.restartLine ∧ (s.toneExpiry r).draws = s.draws ∧
      (s.toneExpiry r).pending = s.pending := by
  unfold State.toneExpiry
  (repeat' split) <;> simp

@[simp] theorem State.waitExpiry_frame (s : State) (t : Terminal) :
    (s.waitExpiry t).tariff = s.tariff ∧ (s.waitExpiry t).store = s.store ∧ (s.waitExpiry t).links = s.links ∧
      (s.waitExpiry t).restartLine = s.restartLine ∧ (s.waitExpiry t).draws = s.draws ∧
      (s.waitExpiry t).pending = s.pending := by
  unfold State.waitExpiry
  (repeat' split) <;> simp

@[simp] theorem State.refuseString_frame (s : State) (r : RegNo) (x : Tone) (c : ToneCause) (k : EventKind) :
    (s.refuseString r x c k).tariff = s.tariff ∧ (s.refuseString r x c k).store = s.store ∧
      (s.refuseString r x c k).links = s.links ∧ (s.refuseString r x c k).restartLine = s.restartLine ∧
      (s.refuseString r x c k).draws = s.draws ∧ (s.refuseString r x c k).pending = s.pending := by
  simp [State.refuseString]

@[simp] theorem State.refuseVacant_frame (s : State) (r : RegNo) :
    (s.refuseVacant r).tariff = s.tariff ∧ (s.refuseVacant r).store = s.store ∧ (s.refuseVacant r).links = s.links ∧
      (s.refuseVacant r).restartLine = s.restartLine ∧ (s.refuseVacant r).draws = s.draws ∧
      (s.refuseVacant r).pending = s.pending := by
  simp [State.refuseVacant]

@[simp] theorem State.completeString_frame (s : State) (r : RegNo) :
    (s.completeString r).tariff = s.tariff ∧ (s.completeString r).store = s.store ∧
      (s.completeString r).links = s.links ∧ (s.completeString r).restartLine = s.restartLine ∧
      (s.completeString r).draws = s.draws ∧ (s.completeString r).pending = s.pending := by
  simp [State.completeString]

@[simp] theorem State.recordRoute_frame (s : State) (r : RegNo) (t : RouteNo) :
    (s.recordRoute r t).tariff = s.tariff ∧ (s.recordRoute r t).store = s.store ∧ (s.recordRoute r t).links = s.links ∧
      (s.recordRoute r t).restartLine = s.restartLine ∧ (s.recordRoute r t).draws = s.draws ∧
      (s.recordRoute r t).pending = s.pending := by
  unfold State.recordRoute
  dsimp only
  (repeat' split) <;> simp

@[simp] theorem State.routeResult_frame (s : State) (r : RegNo) (t : RouteNo) :
    (s.routeResult r t).tariff = s.tariff ∧ (s.routeResult r t).store = s.store ∧ (s.routeResult r t).links = s.links ∧
      (s.routeResult r t).restartLine = s.restartLine ∧ (s.routeResult r t).draws = s.draws ∧
      (s.routeResult r t).pending = s.pending := by
  unfold State.routeResult
  dsimp only
  (repeat' split) <;> simp

@[simp] theorem State.directoryDigit_frame (s : State) (r : RegNo) :
    (s.directoryDigit r).tariff = s.tariff ∧ (s.directoryDigit r).store = s.store ∧
      (s.directoryDigit r).links = s.links ∧ (s.directoryDigit r).restartLine = s.restartLine ∧
      (s.directoryDigit r).draws = s.draws ∧ (s.directoryDigit r).pending = s.pending := by
  unfold State.directoryDigit
  dsimp only
  (repeat' split) <;> simp

@[simp] theorem State.translate_frame (s : State) (r : RegNo) (d : Digit) :
    (s.translate r d).tariff = s.tariff ∧ (s.translate r d).store = s.store ∧ (s.translate r d).links = s.links ∧
      (s.translate r d).restartLine = s.restartLine ∧ (s.translate r d).draws = s.draws ∧
      (s.translate r d).pending = s.pending := by
  unfold State.translate
  dsimp only
  (repeat' split) <;> simp

@[simp] theorem State.endDigit_frame (s : State) (k : ReceiverNo) (a : Attachment) :
    (s.endDigit k a).tariff = s.tariff ∧ (s.endDigit k a).store = s.store ∧ (s.endDigit k a).links = s.links ∧
      (s.endDigit k a).restartLine = s.restartLine ∧ (s.endDigit k a).draws = s.draws ∧
      (s.endDigit k a).pending = s.pending := by
  unfold State.endDigit
  dsimp only
  (repeat' split) <;> simp

@[simp] theorem State.takeReceiver_frame (s : State) (k : ReceiverNo) :
    (s.takeReceiver k).tariff = s.tariff ∧ (s.takeReceiver k).store = s.store ∧ (s.takeReceiver k).links = s.links ∧
      (s.takeReceiver k).restartLine = s.restartLine ∧ (s.takeReceiver k).draws = s.draws ∧
      (s.takeReceiver k).pending = s.pending := by
  unfold State.takeReceiver
  (repeat' split) <;> simp

@[simp] theorem State.dialExpiry_frame (s : State) (r : RegNo) :
    (s.dialExpiry r).tariff = s.tariff ∧ (s.dialExpiry r).store = s.store ∧ (s.dialExpiry r).links = s.links ∧
      (s.dialExpiry r).restartLine = s.restartLine ∧ (s.dialExpiry r).draws = s.draws ∧
      (s.dialExpiry r).pending = s.pending := by
  unfold State.dialExpiry
  (repeat' split) <;> simp

@[simp] theorem State.endOfDialingExpiry_frame (s : State) (r : RegNo) :
    (s.endOfDialingExpiry r).tariff = s.tariff ∧ (s.endOfDialingExpiry r).store = s.store ∧
      (s.endOfDialingExpiry r).links = s.links ∧ (s.endOfDialingExpiry r).restartLine = s.restartLine ∧
      (s.endOfDialingExpiry r).draws = s.draws ∧ (s.endOfDialingExpiry r).pending = s.pending := by
  unfold State.endOfDialingExpiry
  (repeat' split) <;> simp

@[simp] theorem State.digitError_frame (s : State) (r : RegNo) :
    (s.digitError r).tariff = s.tariff ∧ (s.digitError r).store = s.store ∧ (s.digitError r).links = s.links ∧
      (s.digitError r).restartLine = s.restartLine ∧ (s.digitError r).draws = s.draws ∧
      (s.digitError r).pending = s.pending := by
  simp [State.digitError]

@[simp] theorem State.beginBreak_frame (s : State) (k : ReceiverNo) :
    (s.beginBreak k).tariff = s.tariff ∧ (s.beginBreak k).store = s.store ∧ (s.beginBreak k).links = s.links ∧
      (s.beginBreak k).restartLine = s.restartLine ∧ (s.beginBreak k).draws = s.draws ∧
      (s.beginBreak k).pending = s.pending := by
  unfold State.beginBreak
  (repeat' split) <;> simp

@[simp] theorem State.endBreak_frame (s : State) (k : ReceiverNo) :
    (s.endBreak k).tariff = s.tariff ∧ (s.endBreak k).store = s.store ∧ (s.endBreak k).links = s.links ∧
      (s.endBreak k).restartLine = s.restartLine ∧ (s.endBreak k).draws = s.draws ∧
      (s.endBreak k).pending = s.pending := by
  unfold State.endBreak
  dsimp only
  (repeat' split) <;> simp

@[simp] theorem State.takePath_frame (s : State) (r : RegNo) (f : Found) (c : Option LineNo) (b : Bool) :
    (s.takePath r f c b).tariff = s.tariff ∧ (s.takePath r f c b).store = s.store ∧
      (s.takePath r f c b).links = s.links ∧ (s.takePath r f c b).restartLine = s.restartLine ∧
      (s.takePath r f c b).draws = s.draws ∧ (s.takePath r f c b).pending = s.pending := by
  cases c <;> cases b <;> simp [State.takePath]

@[simp] theorem State.applyChecks_frame (s : State) (r : RegNo) (good bad : List ElemNo) (x : ElemState) :
    (s.applyChecks r good bad x).tariff = s.tariff ∧ (s.applyChecks r good bad x).store = s.store ∧
      (s.applyChecks r good bad x).links = s.links ∧ (s.applyChecks r good bad x).restartLine = s.restartLine ∧
      (s.applyChecks r good bad x).draws = s.draws ∧ (s.applyChecks r good bad x).pending = s.pending ∧
      (s.applyChecks r good bad x).scan = s.scan := by
  simp [State.applyChecks]

@[simp] theorem State.returnCalled_frame (s : State) (r : RegNo) :
    (s.returnCalled r).tariff = s.tariff ∧ (s.returnCalled r).store = s.store ∧ (s.returnCalled r).links = s.links ∧
      (s.returnCalled r).restartLine = s.restartLine ∧ (s.returnCalled r).draws = s.draws ∧
      (s.returnCalled r).pending = s.pending := by
  unfold State.returnCalled
  (repeat' split) <;> simp

@[simp] theorem State.postFault_frame (s : State) (bad : List ElemNo) :
    (s.postFault bad).tariff = s.tariff ∧ (s.postFault bad).store = s.store ∧ (s.postFault bad).links = s.links ∧
      (s.postFault bad).restartLine = s.restartLine ∧ (s.postFault bad).draws = s.draws ∧
      (s.postFault bad).pending = s.pending ∧ (s.postFault bad).scan = s.scan := by
  unfold State.postFault
  (repeat' split) <;> simp

@[simp] theorem State.operateGood_frame (s : State) (r : RegNo) (es : List ElemNo) :
    (s.operateGood r es).tariff = s.tariff ∧ (s.operateGood r es).store = s.store ∧
      (s.operateGood r es).links = s.links ∧ (s.operateGood r es).restartLine = s.restartLine ∧
      (s.operateGood r es).draws = s.draws ∧ (s.operateGood r es).pending = s.pending := by
  simp [State.operateGood]

@[simp] theorem State.operatePartly_frame (s : State) (r : RegNo) (good bad : List ElemNo) :
    (s.operatePartly r good bad).tariff = s.tariff ∧ (s.operatePartly r good bad).store = s.store ∧
      (s.operatePartly r good bad).links = s.links ∧ (s.operatePartly r good bad).restartLine = s.restartLine ∧
      (s.operatePartly r good bad).draws = s.draws ∧ (s.operatePartly r good bad).pending = s.pending := by
  simp [State.operatePartly]

@[simp] theorem State.operateBad_frame (s : State) (r : RegNo) (bad : List ElemNo) :
    (s.operateBad r bad).tariff = s.tariff ∧ (s.operateBad r bad).store = s.store ∧
      (s.operateBad r bad).links = s.links ∧ (s.operateBad r bad).restartLine = s.restartLine ∧
      (s.operateBad r bad).draws = s.draws ∧ (s.operateBad r bad).pending = s.pending := by
  simp [State.operateBad]

@[simp] theorem State.operateCancelled_frame (s : State) (r : RegNo) (good bad : List ElemNo) :
    (s.operateCancelled r good bad).tariff = s.tariff ∧ (s.operateCancelled r good bad).store = s.store ∧
      (s.operateCancelled r good bad).links = s.links ∧ (s.operateCancelled r good bad).restartLine = s.restartLine ∧
      (s.operateCancelled r good bad).draws = s.draws ∧ (s.operateCancelled r good bad).pending = s.pending := by
  unfold State.operateCancelled
  dsimp only
  (repeat' split) <;> simp

@[simp] theorem State.releaseDone_frame (s : State) (r : RegNo) (good bad : List ElemNo) :
    (s.releaseDone r good bad).tariff = s.tariff ∧ (s.releaseDone r good bad).store = s.store ∧
      (s.releaseDone r good bad).links = s.links ∧ (s.releaseDone r good bad).restartLine = s.restartLine ∧
      (s.releaseDone r good bad).draws = s.draws ∧ (s.releaseDone r good bad).pending = s.pending := by
  unfold State.releaseDone
  dsimp only
  (repeat' split) <;> simp

@[simp] theorem State.networkClearDone_frame (s : State) (bad : List ElemNo) :
    (s.networkClearDone bad).tariff = s.tariff ∧ (s.networkClearDone bad).store = s.store ∧
      (s.networkClearDone bad).links = s.links ∧ (s.networkClearDone bad).restartLine = s.restartLine ∧
      (s.networkClearDone bad).draws = s.draws ∧ (s.networkClearDone bad).pending = s.pending := by
  unfold State.networkClearDone
  (repeat' split) <;> simp

@[simp] theorem State.complete_frame (s : State) (f : InFlight) (good : ElemNo → Bool) :
    (s.complete f good).tariff = s.tariff ∧ (s.complete f good).store = s.store ∧ (s.complete f good).links = s.links ∧
      (s.complete f good).restartLine = s.restartLine ∧ (s.complete f good).draws = s.draws ∧
      (s.complete f good).pending = s.pending := by
  unfold State.complete
  dsimp only
  (repeat' split) <;> simp

@[simp] theorem State.awaitAnswer_frame (s : State) (r : RegNo) :
    (s.awaitAnswer r).tariff = s.tariff ∧ (s.awaitAnswer r).store = s.store ∧ (s.awaitAnswer r).links = s.links ∧
      (s.awaitAnswer r).restartLine = s.restartLine ∧ (s.awaitAnswer r).draws = s.draws ∧
      (s.awaitAnswer r).pending = s.pending ∧ (s.awaitAnswer r).scan = s.scan := by
  simp [State.awaitAnswer]

@[simp] theorem State.senderBreak_frame (s : State) (k : SenderNo) (b : Sending) (n : Nat) :
    (s.senderBreak k b n).tariff = s.tariff ∧ (s.senderBreak k b n).store = s.store ∧
      (s.senderBreak k b n).links = s.links ∧ (s.senderBreak k b n).restartLine = s.restartLine ∧
      (s.senderBreak k b n).draws = s.draws ∧ (s.senderBreak k b n).pending = s.pending ∧
      (s.senderBreak k b n).scan = s.scan := by
  simp [State.senderBreak]

@[simp] theorem State.senderPhase_frame (s : State) (k : SenderNo) :
    (s.senderPhase k).tariff = s.tariff ∧ (s.senderPhase k).store = s.store ∧ (s.senderPhase k).links = s.links ∧
      (s.senderPhase k).restartLine = s.restartLine ∧ (s.senderPhase k).draws = s.draws ∧
      (s.senderPhase k).pending = s.pending ∧ (s.senderPhase k).scan = s.scan := by
  unfold State.senderPhase
  (repeat' split) <;> simp

@[simp] theorem State.ringExpiry_frame (s : State) (r : RegNo) :
    (s.ringExpiry r).tariff = s.tariff ∧ (s.ringExpiry r).store = s.store ∧ (s.ringExpiry r).links = s.links ∧
      (s.ringExpiry r).restartLine = s.restartLine ∧ (s.ringExpiry r).draws = s.draws ∧
      (s.ringExpiry r).pending = s.pending := by
  unfold State.ringExpiry
  dsimp only
  (repeat' split) <;> simp

@[simp] theorem State.answerWaitExpiry_frame (s : State) (r : RegNo) :
    (s.answerWaitExpiry r).tariff = s.tariff ∧ (s.answerWaitExpiry r).store = s.store ∧
      (s.answerWaitExpiry r).links = s.links ∧ (s.answerWaitExpiry r).restartLine = s.restartLine ∧
      (s.answerWaitExpiry r).draws = s.draws ∧ (s.answerWaitExpiry r).pending = s.pending ∧
      (s.answerWaitExpiry r).scan = s.scan := by
  unfold State.answerWaitExpiry
  (repeat' split) <;> simp

@[simp] theorem State.calledReleaseExpiry_frame (s : State) (r : RegNo) :
    (s.calledReleaseExpiry r).tariff = s.tariff ∧ (s.calledReleaseExpiry r).store = s.store ∧
      (s.calledReleaseExpiry r).links = s.links ∧ (s.calledReleaseExpiry r).restartLine = s.restartLine ∧
      (s.calledReleaseExpiry r).draws = s.draws ∧ (s.calledReleaseExpiry r).pending = s.pending := by
  unfold State.calledReleaseExpiry
  (repeat' split) <;> simp

@[simp] theorem State.incomingClear_frame (s : State) (i : TrunkNo) :
    (s.incomingClear i).tariff = s.tariff ∧ (s.incomingClear i).store = s.store ∧ (s.incomingClear i).links = s.links ∧
      (s.incomingClear i).restartLine = s.restartLine ∧ (s.incomingClear i).draws = s.draws ∧
      (s.incomingClear i).pending = s.pending := by
  unfold State.incomingClear
  dsimp only
  (repeat' split) <;> simp

@[simp] theorem State.advanceTimes_frame (s : State) :
    (s.advanceTimes).tariff = s.tariff ∧ (s.advanceTimes).store = s.store ∧ (s.advanceTimes).links = s.links ∧
      (s.advanceTimes).restartLine = s.restartLine ∧ (s.advanceTimes).draws = s.draws ∧
      (s.advanceTimes).pending = s.pending := by
  simp [State.advanceTimes]

@[simp] theorem State.takeSamples_frame (s : State) (x : SampleSet) :
    (s.takeSamples x).tariff = s.tariff ∧ (s.takeSamples x).store = s.store ∧ (s.takeSamples x).links = s.links ∧
      (s.takeSamples x).restartLine = s.restartLine ∧ (s.takeSamples x).draws = s.draws ∧
      (s.takeSamples x).pending = s.pending := by
  simp [State.takeSamples]

@[simp] theorem State.acceptLoop_frame (s : State) (t : Terminal) :
    (s.acceptLoop t).tariff = s.tariff ∧ (s.acceptLoop t).store = s.store ∧ (s.acceptLoop t).links = s.links ∧
      (s.acceptLoop t).restartLine = s.restartLine ∧ (s.acceptLoop t).draws = s.draws ∧
      (s.acceptLoop t).pending = s.pending := by
  cases t <;> simp [State.acceptLoop]

@[simp] theorem State.toReceiver_frame (s : State) (r : RegNo) (x : Loop) :
    (s.toReceiver r x).tariff = s.tariff ∧ (s.toReceiver r x).store = s.store ∧ (s.toReceiver r x).links = s.links ∧
      (s.toReceiver r x).restartLine = s.restartLine ∧ (s.toReceiver r x).draws = s.draws ∧
      (s.toReceiver r x).pending = s.pending := by
  unfold State.toReceiver
  (repeat' split) <;> simp

@[simp] theorem State.callingLineChange_frame (s : State) (r : RegNo) (x : Loop) :
    (s.callingLineChange r x).tariff = s.tariff ∧ (s.callingLineChange r x).store = s.store ∧
      (s.callingLineChange r x).links = s.links ∧ (s.callingLineChange r x).restartLine = s.restartLine ∧
      (s.callingLineChange r x).draws = s.draws ∧ (s.callingLineChange r x).pending = s.pending := by
  unfold State.callingLineChange
  (repeat' split) <;> simp

@[simp] theorem State.calledLineChange_frame (s : State) (r : RegNo) (x : Loop) :
    (s.calledLineChange r x).tariff = s.tariff ∧ (s.calledLineChange r x).store = s.store ∧
      (s.calledLineChange r x).links = s.links ∧ (s.calledLineChange r x).restartLine = s.restartLine ∧
      (s.calledLineChange r x).draws = s.draws ∧ (s.calledLineChange r x).pending = s.pending := by
  cases x <;> simp [State.calledLineChange]

@[simp] theorem State.busyTrunkChange_frame (s : State) (i : TrunkNo) (r : RegNo) (x : Loop) :
    (s.busyTrunkChange i r x).tariff = s.tariff ∧ (s.busyTrunkChange i r x).store = s.store ∧
      (s.busyTrunkChange i r x).links = s.links ∧ (s.busyTrunkChange i r x).restartLine = s.restartLine ∧
      (s.busyTrunkChange i r x).draws = s.draws ∧ (s.busyTrunkChange i r x).pending = s.pending := by
  unfold State.busyTrunkChange
  (repeat' split) <;> simp

@[simp] theorem State.trunkChange_frame (s : State) (i : TrunkNo) (x : Loop) :
    (s.trunkChange i x).tariff = s.tariff ∧ (s.trunkChange i x).store = s.store ∧ (s.trunkChange i x).links = s.links ∧
      (s.trunkChange i x).restartLine = s.restartLine ∧ (s.trunkChange i x).draws = s.draws ∧
      (s.trunkChange i x).pending = s.pending := by
  unfold State.trunkChange
  (repeat' split) <;> simp

@[simp] theorem State.receiverFirst_frame (s : State) (t : Terminal) :
    (s.receiverFirst t).tariff = s.tariff ∧ (s.receiverFirst t).store = s.store ∧ (s.receiverFirst t).links = s.links ∧
      (s.receiverFirst t).restartLine = s.restartLine ∧ (s.receiverFirst t).draws = s.draws ∧
      (s.receiverFirst t).pending = s.pending := by
  unfold State.receiverFirst
  (repeat' split) <;> simp

end Sys2Proof.Machine
end

section
/-! SUPPORT. What the meters and the snapshot may do outside the commands of chapter 9: units are added, each meter copied first while
the snapshot is SWEEPING (R151, R158). `Charged a b` says that the Meter Store `b` is `a` after some additions. -/

namespace Sys2Proof.Machine

/-- What a store's snapshot shows for a meter (R155). -/
def MeterStore.view (a : MeterStore) (i : Fin 1024) : Meter := if tget a.marks i then tget a.values i else tget a.meters i

theorem State.snapshotView_eq (s : State) (i : Fin 1024) : s.snapshotView i = s.store.view i := rfl

/-- The snapshot is SWEEPING. -/
def SnapshotState.isSweeping : SnapshotState → Bool
  | .sweeping _ _ => true
  | _ => false

theorem State.sweeping_iff (s : State) : s.sweeping ↔ s.store.snapshot.isSweeping = true := by
  unfold State.sweeping SnapshotState.isSweeping
  cases s.store.snapshot <;> simp

/-- R150: every meter is in its range. -/
def MeterStore.InRange (a : MeterStore) : Prop := ∀ i, (tget a.meters i).value ≤ Config.maxMeter

/-- No meter of `b` is below that of `a`. -/
def MeterStore.Below (a b : MeterStore) : Prop := ∀ i, (tget a.meters i).value ≤ (tget b.meters i).value

/-- What additions keep of the Meter Store. -/
structure Charged (a b : MeterStore) : Prop where
  snapshot : b.snapshot = a.snapshot
  day : b.snapshotDay = a.snapshotDay
  minute : b.snapshotMinute = a.snapshotMinute
  view : a.snapshot.isSweeping = true → ∀ i, b.view i = a.view i
  values : a.snapshot.isSweeping = false → b.values = a.values
  rises : a.InRange → a.Below b
  inRange : a.InRange → b.InRange

theorem Charged.refl (a : MeterStore) : Charged a a :=
  ⟨rfl, rfl, rfl, fun _ _ => rfl, fun _ => rfl, fun _ _ => le_refl _, id⟩

theorem Charged.trans {a b c : MeterStore} (h : Charged a b) (k : Charged b c) : Charged a c where
  snapshot := k.snapshot.trans h.snapshot
  day := k.day.trans h.day
  minute := k.minute.trans h.minute
  view hs i := (k.view (h.snapshot ▸ hs) i).trans (h.view hs i)
  values hs := (k.values (h.snapshot ▸ hs)).trans (h.values hs)
  rises ha i := (h.rises ha i).trans (k.rises (h.inRange ha) i)
  inRange ha := k.inRange (h.inRange ha)

theorem Charged.of_eq {a b c : MeterStore} (h : Charged a b) (e : c = b) : Charged a c := e ▸ h

/-! ### One meter -/

/-- R158: the copy of a meter while the snapshot is SWEEPING. -/
theorem State.copyMeter_store (s : State) (i : Fin 1024) : (s.copyMeter i).store =
    if s.store.snapshot.isSweeping = true ∧ tget s.store.marks i = false then
      { s.store with values := tset s.store.values i (tget s.store.meters i), marks := tset s.store.marks i true }
    else s.store := by
  unfold State.copyMeter
  cases hs : s.store.snapshot <;> cases hm : tget s.store.marks i <;> simp [SnapshotState.isSweeping]

@[simp] theorem State.copyMeter_meters (s : State) (i : Fin 1024) : (s.copyMeter i).store.meters = s.store.meters := by
  rw [State.copyMeter_store]
  split <;> rfl

theorem State.copyMeter_charged (s : State) (i : Fin 1024) : Charged s.store (s.copyMeter i).store := by
  rw [State.copyMeter_store]
  split
  · next h =>
    refine ⟨rfl, rfl, rfl, fun _ j => ?_, fun hs => absurd h.1 (by simp [hs]), fun _ _ => le_refl _, id⟩
    by_cases hj : j = i
    · simp [MeterStore.view, hj, h.2]
    · simp [MeterStore.view, tget_tset, hj]
  · exact .refl _

/-- While the snapshot is SWEEPING a copied meter's mark is set. -/
theorem State.copyMeter_mark (s : State) (i : Fin 1024) (hs : s.store.snapshot.isSweeping = true) :
    tget (s.copyMeter i).store.marks i = true := by
  rw [State.copyMeter_store]
  split
  · exact tget_tset_same _ _ _
  · next h => simpa [hs] using h

theorem State.raiseMeter_meters (s : State) (i : Fin 1024) (v : Nat) :
    ∃ full, (s.raiseMeter i v).store.meters = tset s.store.meters i ⟨v, full⟩ := by
  unfold State.raiseMeter
  dsimp only
  split
  · exact ⟨true, by simp⟩
  · exact ⟨_, rfl⟩

theorem State.raiseMeter_snapshot (s : State) (i : Fin 1024) (v : Nat) :
    (s.raiseMeter i v).store.snapshot = s.store.snapshot ∧ (s.raiseMeter i v).store.values = s.store.values ∧
      (s.raiseMeter i v).store.marks = s.store.marks ∧ (s.raiseMeter i v).store.snapshotDay = s.store.snapshotDay ∧
      (s.raiseMeter i v).store.snapshotMinute = s.store.snapshotMinute := by
  unfold State.raiseMeter
  dsimp only
  split <;> simp

/-- A meter raised after the copy that R158 asks for. -/
theorem State.raiseMeter_charged (s : State) (i : Fin 1024) (v : Nat) (hmax : v ≤ Config.maxMeter)
    (hup : (tget s.store.meters i).value ≤ Config.maxMeter → (tget s.store.meters i).value ≤ v) :
    Charged s.store ((s.copyMeter i).raiseMeter i v).store := by
  obtain ⟨full, hmeters⟩ := (s.copyMeter i).raiseMeter_meters i v
  obtain ⟨hsnapshot, hvalues, hmarks, hday, hminute⟩ := (s.copyMeter i).raiseMeter_snapshot i v
  have hcopy := s.copyMeter_charged i
  rw [State.copyMeter_meters] at hmeters
  refine ⟨hsnapshot.trans hcopy.snapshot, hday.trans hcopy.day, hminute.trans hcopy.minute, fun hs j => ?_,
    fun hs => hvalues.trans (hcopy.values hs), fun ha j => ?_, fun ha j => ?_⟩
  · rw [← hcopy.view hs j, MeterStore.view, MeterStore.view, hvalues, hmarks, hmeters, State.copyMeter_meters]
    by_cases hj : j = i
    · rw [hj, s.copyMeter_mark i hs]
      rfl
    · rw [tget_tset_of_ne _ _ hj]
  · rw [hmeters, tget_tset]
    split
    · next hj => exact hj ▸ hup (ha i)
    · exact le_refl _
  · rw [hmeters, tget_tset]
    split
    · exact hmax
    · exact ha j

end Sys2Proof.Machine
end

section
/-! SUPPORT. Which operations add units: the answer of a call and the metering step, and with them the scan phase (R113, R142). -/

namespace Sys2Proof.Machine

@[simp] theorem State.addUnit_charged {a : MeterStore} (s : State) (i : Fin 1024) (h : Charged a s.store) :
    Charged a (s.addUnit i).store := by
  refine h.trans (s.raiseMeter_charged i _ (Nat.min_le_left _ _) fun hr => ?_)
  rw [State.copyMeter_meters]
  omega

@[simp] theorem State.chargeUnit_charged {a : MeterStore} (s : State) (r : RegNo) (h : Charged a s.store) :
    Charged a (s.chargeUnit r).store := by
  unfold State.chargeUnit
  (repeat' split) <;> simp [h]

@[simp] theorem State.chargeUnits_charged {a : MeterStore} (s : State) (r : RegNo) (n : Nat) (h : Charged a s.store) :
    Charged a (s.chargeUnits r n).store := by
  induction n generalizing s with
  | zero => exact h
  | succ n ih => exact ih _ (s.chargeUnit_charged r h)

@[simp] theorem State.startMetering_charged {a : MeterStore} (s : State) (r : RegNo) (h : Charged a s.store) :
    Charged a (s.startMetering r).store := by
  unfold State.startMetering
  split <;> simp [h]

@[simp] theorem State.answerCall_charged {a : MeterStore} (s : State) (r : RegNo) (h : Charged a s.store) :
    Charged a (s.answerCall r).store := by
  unfold State.answerCall
  dsimp only
  (repeat' split) <;> simp [h]

@[simp] theorem State.startRinging_charged {a : MeterStore} (s : State) (r : RegNo) (x : Subscriber) (h : Charged a s.store) :
    Charged a (s.startRinging r x).store := by
  unfold State.startRinging
  dsimp only
  (repeat' split) <;> simp [h]

@[simp] theorem State.expirePeriod_charged {a : MeterStore} (s : State) (r : RegNo) (h : Charged a s.store) :
    Charged a (s.expirePeriod r).store := by
  simp [State.expirePeriod, h]

@[simp] theorem State.stepContext_charged {a : MeterStore} (s : State) (r : RegNo) (h : Charged a s.store) :
    Charged a (s.stepContext r).store := by
  unfold State.stepContext
  dsimp only
  (repeat' split) <;> simp [h]

@[simp] theorem State.lineChange_charged {a : MeterStore} (s : State) (n : LineNo) (x : Loop) (h : Charged a s.store) :
    Charged a (s.lineChange n x).store := by
  unfold State.lineChange
  split <;> simp [h]

@[simp] theorem State.terminalChange_charged {a : MeterStore} (s : State) (t : Terminal) (x : Loop) (h : Charged a s.store) :
    Charged a (s.terminalChange t x).store := by
  cases t <;> simp [State.terminalChange, h]

@[simp] theorem State.takeChange_charged {a : MeterStore} (s : State) (t : Terminal) (h : Charged a s.store) :
    Charged a (s.takeChange t).store := by
  unfold State.takeChange
  dsimp only
  split <;> simp [h]

@[simp] theorem State.trunkAnswerChange_charged {a : MeterStore} (s : State) (o : OutNo) (b : Bool) (h : Charged a s.store) :
    Charged a (s.trunkAnswerChange o b).store := by
  unfold State.trunkAnswerChange
  (repeat' split) <;> simp [h]

@[simp] theorem State.takeAnswerChange_charged {a : MeterStore} (s : State) (o : OutNo) (h : Charged a s.store) :
    Charged a (s.takeAnswerChange o).store := by
  unfold State.takeAnswerChange
  dsimp only
  split <;> simp [h]

@[simp] theorem State.takeItem_charged {a : MeterStore} (s : State) (x : ScanItem) (h : Charged a s.store) :
    Charged a (s.takeItem x).store := by
  rcases x with (_ | _ | _ | _ | _ | _ | _ | _) | _ | _ | _ <;> simp [State.takeItem, State.takeExpiry, h]

theorem foldl_charged {ι : Type} {a : MeterStore} (f : State → ι → State) (hf : ∀ s i, Charged a s.store → Charged a (f s i).store)
    (l : List ι) (s : State) (h : Charged a s.store) : Charged a (l.foldl f s).store :=
  foldl_keeps f (fun t => Charged a t.store) hf l s h

@[simp] theorem State.scanPhase_charged {a : MeterStore} (s : State) (x : SampleSet) (l : List ScanItem) (h : Charged a s.store) :
    Charged a (s.scanPhase x l).store := by
  unfold State.scanPhase State.takeRest
  refine foldl_charged _ (fun _ _ => State.takeAnswerChange_charged _ _) _ _
    (foldl_charged _ (fun _ _ => State.takeChange_charged _ _) _ _ (foldl_charged _ (fun _ _ => State.takeChange_charged _ _) _ _
      (foldl_charged _ (fun _ _ h => by simp [h]) _ _ (foldl_charged _ (fun _ _ => State.takeItem_charged _ _) _ _ ?_))))
  simp [h]

theorem acting_charged {a : MeterStore} {x : Side} {b : Byte} {s : State} {body : RegNo → State × Response} (hs : Charged a s.store)
    (h : ∀ r, Charged a (body r).1.store) : Charged a (acting x b s body).1.store := by
  unfold acting
  split
  · exact hs
  · split
    · exact hs
    · split
      · exact h _
      · exact hs

theorem hunt_store (s : State) (r : RegNo) : (s.hunt r).1.store = s.store := by
  have houtcome (x : Except NoPath Found) (c : Option LineNo) (b : Bool) : (s.huntOutcome r x c b).1.store = s.store := by
    cases x with
    | ok f => simp [State.huntOutcome]
    | error e => rfl
  unfold State.hunt
  split
  · split
    · rfl
    · exact houtcome _ _ _
  · exact houtcome _ _ _
  · split
    · rfl
    · exact houtcome _ _ _
  · rfl

theorem State.takeOut_store (s : State) (t : Terminal) : (s.takeOut t).store = s.store := by
  cases t <;> rfl

theorem State.takeCompletion_store (s : State) (c : Completion) : (s.takeCompletion c).store = s.store := by
  unfold State.takeCompletion
  (repeat' split) <;> simp

theorem State.driveExpiry_store (s : State) : s.driveExpiry.store = s.store := by
  unfold State.driveExpiry
  dsimp only
  (repeat' split) <;> simp

theorem State.handlingExpiry_store (s : State) (j : Subject) : (s.handlingExpiry j).store = s.store := by
  unfold State.handlingExpiry
  dsimp only
  (repeat' split) <;> simp

theorem State.finish_store (s : State) (x : Side) (j : Subject) : (s.finish x j).store = s.store := by
  unfold State.finish
  dsimp only
  (repeat' split) <;> simp

/-- R153: Adjust Meter is an addition, and one of 0 copies alone. -/
theorem adjustMeter_charged (e : Half) (p : Byte) (n : Half) (x : Side) (s : State) : Charged s.store (adjustMeter e p n x s).1.store := by
  unfold adjustMeter
  dsimp only
  split
  · exact .refl _
  · split
    · exact s.copyMeter_charged _
    · exact s.raiseMeter_charged _ _ (Nat.min_le_left _ _) fun hr => by omega

/-- The rows that do more to the Meter Store than add units. -/
def setsMeters : Instr → Bool
  | .presetMeter _ _ _ _ | .takeSnapshot _ | .releaseSnapshot _ | .sweepReachesMeter | .sweepCompletion | .initialise _ | .restart _ |
    .powerUp _ _ | .restartLineAsserted => true
  | _ => false

theorem State.portReset_store (s : State) (p : Port) : (s.portReset p).store = s.store := by
  cases p <;> simp [State.portReset, State.resetController]

/-- Every other effect adds units and does nothing else to the Meter Store. -/
theorem effect_charged {c : Instr} (hc : setsMeters c = false) (x : Side) (s : State) : Charged s.store (effect c x s).store := by
  have h0 : Charged s.store s.store := .refl _
  cases c <;> simp only [setsMeters, Bool.true_eq_false] at hc <;> simp only [effect]
  case adjustMeter => exact adjustMeter_charged _ _ _ _ _
  case ring =>
    unfold ringCall
    refine acting_charged h0 fun r => ?_
    (repeat' split) <;> simp [doneWith, refuse, h0]
  case giveTone =>
    unfold giveTone
    split
    · exact h0
    · refine acting_charged h0 fun r => ?_
      split <;> simp [doneWith, refuse, h0]
  case releaseCall =>
    unfold releaseCall
    refine acting_charged h0 fun r => ?_
    split <;> simp [doneWith, refuse, h0]
  case huntPath =>
    unfold huntPath
    refine acting_charged h0 fun r => ?_
    (repeat' split) <;> simp [refuse, h0, hunt_store]
  case send =>
    unfold sendCall
    refine acting_charged h0 fun r => ?_
    dsimp only
    (repeat' split) <;> simp [doneWith, refuse, h0, State.startSending]
  case writeLine =>
    unfold writeLine State.putIntoService
    (repeat' split) <;> simp [doneWith, refuse, h0]
  case removeLine =>
    unfold removeLine
    (repeat' split) <;> simp [doneWith, refuse, h0, State.takeOut_store]
  case meteringStepBoundary => exact foldl_charged _ (fun _ _ => State.stepContext_charged _ _) _ _ h0
  case driveCompletion => exact h0.of_eq (s.takeCompletion_store _)
  case driveCompletionLimitExpiry => exact h0.of_eq s.driveExpiry_store
  case handlingLimitExpiry => exact h0.of_eq (s.handlingExpiry_store _)
  case linkResetAsserted =>
    split
    · exact h0
    · exact h0.of_eq (s.portReset_store _)
  case done =>
    unfold doneSubject
    (repeat' split) <;> simp [doneWith, refuse, h0, State.finish_store]
  case blockReceiver | unblockReceiver | writeNodeSlot | writeRoute | writeDirectory | clearTranslations | setIncomingRoot |
      seizeElement | returnElement | assignTrunkGroup | blockSender | unblockSender | writeTariffCell | applyTariffs | selectBand |
      setClock | removeTicket | setDirectoryDigit | takeEvent | setAttention | fenceOther | admitOther =>
    simp only [blockReceiver, unblockReceiver, writeNodeSlot, writeRoute, writeDirectory, clearTranslations, setIncomingRoot,
      seizeElement, returnElement, assignTrunkGroup, blockSender, unblockSender, writeTariffCell, applyTariffs, selectBand, setClock,
      removeTicket, setDirectoryDigit, takeEvent, setAttention, fenceOther, admitOther]
    (repeat' split) <;> simp [doneWith, refuse, h0]
  all_goals (repeat' split) <;> simp [h0]

end Sys2Proof.Machine
end

section
/-! SUPPORT. The Meter Store over every step: what the snapshot shows stays as it stood at Take Snapshot (R155, R157, R158), and no meter
falls but by Preset Meter and a cold start (R150, R154, R169). -/

namespace Sys2Proof.Machine

/-! ### Restarts -/

theorem State.restartReg_store (s : State) (r : RegNo) : (s.restartReg r).store = s.store := by
  have hfree : (s.restartFree r).store = s.store := by simp [State.restartFree]
  have hrelease : (s.restartRelease r).store = s.store := by simp [State.restartRelease]
  unfold State.restartReg
  (repeat' split) <;> simp [hfree, hrelease]

theorem State.regenerate_store (s : State) (r : RegNo) : (s.regenerate r).store = s.store := by
  unfold State.regenerate
  dsimp only
  (repeat' split) <;> simp

theorem State.restartTerminals_store (s : State) : s.restartTerminals.store = s.store := by
  unfold State.restartTerminals
  dsimp only
  split <;> simp

theorem State.silence_store (s : State) : s.silence.store = s.store := by
  unfold State.silence
  rw [foldl_same _ State.store fun _ _ => by simp, foldl_same _ State.store fun _ _ => by simp [State.silenceLine]]

theorem State.takeLevels_store (s : State) (l : LineLevels) : (s.takeLevels l).store = s.store := rfl

/-- R169: a warm restart makes the snapshot IDLE and keeps the rest of the Meter Store. -/
theorem State.warmRestart_store (s : State) (cause : RestartCause) :
    (s.warmRestart cause).store = { s.store with snapshot := .idle } := by
  unfold State.warmRestart State.restartBlocks
  simp only [State.takeOrder_frame, State.settle_frame, State.post_frame]
  rw [State.silence_store, foldl_same _ State.store State.regenerate_store, State.restartTerminals_store,
    foldl_same _ State.store State.restartReg_store]
  rfl

theorem State.coldStart_store (s : State) (cause : RestartCause) (tag : BitVec 8) : (s.coldStart cause tag).store = MeterStore.cold := by
  unfold State.coldStart
  simp only [State.takeOrder_frame]

/-! ### The sweep -/

theorem State.sweepStep_store (s : State) : s.sweepStep.store = s.store ∨ ∃ i position time,
    s.store.snapshot = .sweeping position time ∧ s.sweepStep.store = { (s.copyMeter i).store with snapshot := .sweeping (position + 1) time } := by
  unfold State.sweepStep
  split
  · next position time hs =>
    split
    · next i _ => exact .inr ⟨i, position, time, hs, rfl⟩
    · exact .inl rfl
  · exact .inl rfl

theorem State.sweepDone_store (s : State) : s.sweepDone.store = s.store ∨
    (s.store.snapshot.isSweeping = true ∧ s.sweepDone.store = { s.sweepRest.store with snapshot := .ready }) := by
  unfold State.sweepDone
  split
  · next hs =>
    split
    · exact .inr ⟨by rw [hs]; rfl, rfl⟩
    · exact .inl rfl
  · exact .inl rfl

theorem State.sweepRest_rest (s : State) : s.sweepRest.store.meters = s.store.meters ∧
    s.sweepRest.store.snapshotDay = s.store.snapshotDay ∧ s.sweepRest.store.snapshotMinute = s.store.snapshotMinute := by
  simp [State.sweepRest]

theorem State.sweepRest_value (s : State) (i : Fin 1024) : tget s.sweepRest.store.values i = s.store.view i := by
  simp [State.sweepRest, MeterStore.view]

theorem presetMeter_store (e : Half) (p : Byte) (v : Triple) (x : Side) (s : State) :
    (presetMeter e p v x s).1.store = s.store ∨
      ∃ i n, n ≤ Config.maxMeter ∧ (presetMeter e p v x s).1.store = ((s.copyMeter i).presetTo i n).store := by
  unfold presetMeter
  split
  · exact .inl rfl
  · split
    · exact .inl rfl
    · refine .inr ⟨_, v.toNat, ?_, rfl⟩
      have := v.isLt
      norm_num [Config.maxMeter]
      omega

/-! ### What a step may do to the snapshot -/

/-- R155 to R158, R160: what a step may do to the snapshot and its copies. -/
structure Instant (a b : MeterStore) : Prop where
  accepted : a.snapshot = .idle → b.snapshot.isSweeping = true → ∀ i, b.view i = tget a.meters i
  swept : a.snapshot.isSweeping = true → b.snapshot.isSweeping = true → ∀ i, b.view i = a.view i
  completed : a.snapshot.isSweeping = true → b.snapshot = .ready → ∀ i, tget b.values i = a.view i
  held : a.snapshot = .ready → b.snapshot = .ready → b.values = a.values
  fresh : a.snapshot = .idle → b.snapshot ≠ .ready
  taken : a.snapshot ≠ .idle → b.snapshot ≠ .idle → b.snapshotDay = a.snapshotDay ∧ b.snapshotMinute = a.snapshotMinute

theorem Charged.instant {a b : MeterStore} (h : Charged a b) : Instant a b where
  accepted ha hb := by simp [h.snapshot, ha, SnapshotState.isSweeping] at hb
  swept ha _ := h.view ha
  completed ha hb := by simp [← h.snapshot, hb, SnapshotState.isSweeping] at ha
  held ha _ := h.values (by rw [ha]; rfl)
  fresh ha := by simp [h.snapshot, ha]
  taken _ _ := ⟨h.day, h.minute⟩

theorem Instant.of_idle {a b : MeterStore} (hb : b.snapshot = .idle) : Instant a b where
  accepted _ h := by simp [hb, SnapshotState.isSweeping] at h
  swept _ h := by simp [hb, SnapshotState.isSweeping] at h
  completed _ h := by simp [hb] at h
  held _ h := by simp [hb] at h
  fresh _ := by simp [hb]
  taken _ h := absurd hb h

/-- A sweep goes on: the copies show what they did. -/
theorem Instant.of_view {a b : MeterStore} (ha : a.snapshot.isSweeping = true) (hb : b.snapshot.isSweeping = true)
    (hview : ∀ i, b.view i = a.view i) (htaken : b.snapshotDay = a.snapshotDay ∧ b.snapshotMinute = a.snapshotMinute) :
    Instant a b where
  accepted h _ := by simp [h, SnapshotState.isSweeping] at ha
  swept _ _ := hview
  completed _ h := by simp [h, SnapshotState.isSweeping] at hb
  held h _ := by simp [h, SnapshotState.isSweeping] at ha
  fresh h := by simp [h, SnapshotState.isSweeping] at ha
  taken _ _ := htaken

theorem presetTo_view (s : State) (i j : Fin 1024) (v : Nat) (hs : s.store.snapshot.isSweeping = true) :
    ((s.copyMeter i).presetTo i v).store.view j = s.store.view j := by
  rw [← (s.copyMeter_charged i).view hs j]
  by_cases hj : j = i
  · simp [MeterStore.view, State.presetTo, hj, s.copyMeter_mark i hs]
  · simp [MeterStore.view, State.presetTo, tget_tset, hj]

theorem presetTo_instant (s : State) (i : Fin 1024) (v : Nat) : Instant s.store ((s.copyMeter i).presetTo i v).store := by
  have hcopy := s.copyMeter_charged i
  cases hs : s.store.snapshot.isSweeping with
  | true => exact .of_view hs (hcopy.snapshot ▸ hs) (fun j => presetTo_view s i j v hs) ⟨hcopy.day, hcopy.minute⟩
  | false => exact ⟨fun _ hb => absurd (hcopy.snapshot ▸ (show (s.copyMeter i).store.snapshot.isSweeping = true from hb)) (by simp [hs]), fun ha => by simp [hs] at ha, fun ha => by simp [hs] at ha,
      fun ha => hcopy.instant.held ha, fun ha => hcopy.instant.fresh ha, fun ha => hcopy.instant.taken ha⟩

theorem takeSnapshot_instant (s : State) : Instant s.store (takeSnapshot s).1.store := by
  unfold takeSnapshot
  split
  · next hs =>
    exact ⟨fun _ _ i => by simp [doneWith, MeterStore.view], fun h => by simp [hs, SnapshotState.isSweeping] at h,
      fun h => by simp [hs, SnapshotState.isSweeping] at h, fun h => by simp [hs] at h, fun _ => nofun, fun h => absurd hs h⟩
  · exact (Charged.refl _).instant

theorem sweepDone_instant (s : State) : Instant s.store s.sweepDone.store := by
  obtain h | ⟨hs, h⟩ := s.sweepDone_store
  · rw [h]
    exact (Charged.refl _).instant
  · have hni : s.store.snapshot ≠ .idle := fun hi => by simp [hi, SnapshotState.isSweeping] at hs
    rw [h]
    refine ⟨fun hi => absurd hi hni, fun _ => nofun, fun _ _ => ?_, fun hr => ?_, fun hi => absurd hi hni, fun _ _ => ?_⟩
    · dsimp only
      exact s.sweepRest_value
    · simp [hr, SnapshotState.isSweeping] at hs
    · dsimp only
      exact s.sweepRest_rest.2

theorem sweepStep_instant (s : State) : Instant s.store s.sweepStep.store := by
  obtain h | ⟨i, position, time, hs, h⟩ := s.sweepStep_store
  · rw [h]
    exact (Charged.refl _).instant
  · have hsweeping : s.store.snapshot.isSweeping = true := by rw [hs]; rfl
    have hcopy := s.copyMeter_charged i
    rw [h]
    exact .of_view hsweeping rfl (hcopy.view hsweeping) ⟨hcopy.day, hcopy.minute⟩

theorem effect_instant (c : Instr) (x : Side) (s : State) : Instant s.store (effect c x s).store := by
  by_cases hc : setsMeters c = false
  · exact (effect_charged hc x s).instant
  have hwarm (u : State) (cause : RestartCause) : Instant s.store (u.warmRestart cause).store := .of_idle (by rw [State.warmRestart_store])
  have hcold (cause : RestartCause) (tag : BitVec 8) : Instant s.store (s.coldStart cause tag).store :=
    .of_idle (by rw [State.coldStart_store]; rfl)
  cases c <;> simp only [setsMeters, not_true] at hc <;> simp only [effect]
  case presetMeter e p v =>
    obtain h | ⟨i, n, -, h⟩ := presetMeter_store e p v x s
    · rw [h]
      exact (Charged.refl _).instant
    · rw [h]
      exact presetTo_instant s i n
  case takeSnapshot => exact takeSnapshot_instant s
  case releaseSnapshot => exact .of_idle rfl
  case sweepReachesMeter => exact sweepStep_instant s
  case sweepCompletion => exact sweepDone_instant s
  case initialise =>
    unfold initialise
    split
    · exact (Charged.refl _).instant
    · dsimp only [doneWith]
      exact hcold .initialise s.orders.tag
  case restart =>
    dsimp only [doneWith]
    exact hwarm s .restartCommand
  case powerUp retained levels =>
    rw [State.takeLevels_store]
    cases retained
    · exact hcold .powerUp 0
    · rw [if_pos rfl]
      exact hwarm s .powerUp
  case restartLineAsserted =>
    split
    · exact (Charged.refl _).instant
    · exact hwarm _ .restartLine

/-! ### Every step -/

theorem millisecond_store (s : State) :
    s.takeOrder.passMillisecond.store = { s.store with snapshot := s.store.snapshot.pass } := by
  simp [State.passMillisecond]

theorem millisecond_instant (s : State) : Instant s.store s.takeOrder.passMillisecond.store := by
  rw [millisecond_store]
  cases hs : s.store.snapshot with
  | sweeping position time => exact .of_view (by rw [hs]; rfl) rfl (fun _ => rfl) ⟨rfl, rfl⟩
  | idle => exact .of_idle rfl
  | ready => exact ⟨fun h => by simp [hs] at h, fun h => by simp [hs, SnapshotState.isSweeping] at h,
      fun h => by simp [hs, SnapshotState.isSweeping] at h, fun _ _ => rfl, fun h => by simp [hs] at h, fun _ _ => ⟨rfl, rfl⟩⟩

/-- What a step does to the Meter Store: a millisecond, or nothing, or the effect of the command in front. -/
theorem step_store {s t : State} (h : step s = .next t) : t.store = { s.store with snapshot := s.store.snapshot.pass } ∨
    ∃ c rest, s.pending = c :: rest ∧
      (t.store = s.store ∨ ∃ x, t.store = (effect c x { s with pending := rest }).store) := by
  unfold step at h
  split at h
  · obtain rfl := Host.Outcome.next.inj h
    exact .inl (millisecond_store s)
  · next c rest hp =>
    refine .inr ⟨c, rest, hp, ?_⟩
    obtain ⟨x, hsame | ⟨-, hsame⟩⟩ := exec_effect h
    · exact .inl (by rw [hsame])
    · exact .inr ⟨x, by rw [hsame]⟩

theorem step_instant {s t : State} (h : step s = .next t) : Instant s.store t.store := by
  obtain h | ⟨c, rest, -, h | ⟨x, h⟩⟩ := step_store h
  · rw [h, ← millisecond_store]
    exact millisecond_instant s
  · rw [h]
    exact (Charged.refl _).instant
  · rw [h]
    exact effect_instant c x { s with pending := rest }

/-- Settles O48: R155, R157 and R158 over every step. -/
theorem snapshotKeepsTheInstant : Obligations.SnapshotKeepsTheInstant := by
  intro s t h
  obtain ⟨haccepted, hswept, hcompleted, hheld, hfresh, htaken⟩ := step_instant h
  simp only [State.sweeping_iff, State.snapshotView_eq]
  exact ⟨haccepted, hswept, hcompleted, hheld, hfresh, htaken⟩

/-! ### The meters -/

theorem effect_inRange (c : Instr) (x : Side) (s : State) (hs : s.store.InRange) : (effect c x s).store.InRange := by
  by_cases hc : setsMeters c = false
  · exact (effect_charged hc x s).inRange hs
  have hwarm (u : State) (cause : RestartCause) (hu : u.store.InRange) : (u.warmRestart cause).store.InRange := by
    rw [State.warmRestart_store]
    exact hu
  have hcold (cause : RestartCause) (tag : BitVec 8) : (s.coldStart cause tag).store.InRange := by
    intro i
    simp [State.coldStart_store, MeterStore.cold]
  cases c <;> simp only [setsMeters, not_true] at hc <;> simp only [effect]
  case presetMeter e p v =>
    obtain h | ⟨i, n, hn, h⟩ := presetMeter_store e p v x s
    · rwa [h]
    · rw [h]
      intro j
      simp only [State.presetTo, State.copyMeter_meters, tget_tset]
      split
      · exact hn
      · exact hs j
  case takeSnapshot =>
    unfold takeSnapshot
    split <;> exact hs
  case releaseSnapshot => exact hs
  case sweepReachesMeter =>
    obtain h | ⟨i, position, time, -, h⟩ := s.sweepStep_store
    · rwa [h]
    · rw [h]
      exact (s.copyMeter_charged i).inRange hs
  case sweepCompletion =>
    obtain h | ⟨-, h⟩ := s.sweepDone_store
    · rwa [h]
    · rw [h]
      intro i
      rw [s.sweepRest_rest.1]
      exact hs i
  case initialise =>
    unfold initialise
    split
    · exact hs
    · dsimp only [doneWith]
      exact hcold .initialise s.orders.tag
  case restart =>
    dsimp only [doneWith]
    exact hwarm s .restartCommand hs
  case powerUp retained levels =>
    rw [State.takeLevels_store]
    cases retained
    · exact hcold .powerUp 0
    · rw [if_pos rfl]
      exact hwarm s .powerUp hs
  case restartLineAsserted =>
    split
    · exact hs
    · exact hwarm _ .restartLine hs

/-- The rows that may lower a meter (R154, R169). -/
def lowersMeters : Instr → Bool
  | .presetMeter _ _ _ _ | .initialise _ | .powerUp false _ => true
  | _ => false

theorem effect_below {c : Instr} (hlow : lowersMeters c = false) (x : Side) (s : State) (hs : s.store.InRange) :
    s.store.Below (effect c x s).store := by
  have h0 : s.store.Below s.store := fun _ => le_refl _
  by_cases hc : setsMeters c = false
  · exact (effect_charged hc x s).rises hs
  have hwarm (u : State) (cause : RestartCause) (hu : s.store.Below u.store) : s.store.Below (u.warmRestart cause).store := by
    rw [State.warmRestart_store]
    exact hu
  cases c <;> simp only [setsMeters, not_true] at hc <;> simp only [lowersMeters, Bool.true_eq_false] at hlow <;> simp only [effect]
  case takeSnapshot =>
    unfold takeSnapshot
    split <;> exact h0
  case releaseSnapshot => exact h0
  case sweepReachesMeter =>
    obtain h | ⟨i, position, time, -, h⟩ := s.sweepStep_store
    · rwa [h]
    · rw [h]
      exact (s.copyMeter_charged i).rises hs
  case sweepCompletion =>
    obtain h | ⟨-, h⟩ := s.sweepDone_store
    · rwa [h]
    · rw [h]
      intro i
      rw [s.sweepRest_rest.1]
  case restart =>
    dsimp only [doneWith]
    exact hwarm s .restartCommand h0
  case powerUp retained levels =>
    cases retained
    · cases hlow
    · rw [State.takeLevels_store, if_pos rfl]
      exact hwarm s .powerUp h0
  case restartLineAsserted =>
    split
    · exact h0
    · exact hwarm _ .restartLine h0

/-- Settles O49: R150, R154 and R169 over every step. -/
theorem metersNeverFall : Obligations.MetersNeverFall := by
  intro s t hs h
  have hrange : s.store.InRange := hs
  obtain h | ⟨c, rest, hp, h | ⟨x, h⟩⟩ := step_store h
  · refine ⟨?_, fun _ i => ?_⟩
    · unfold MeterRange
      rwa [h]
    · rw [h]
  · refine ⟨?_, fun _ i => ?_⟩
    · unfold MeterRange
      rwa [h]
    · rw [h]
  · refine ⟨?_, fun hfree => ?_⟩
    · unfold MeterRange
      rw [h]
      exact effect_inRange c x { s with pending := rest } hrange
    · have hlow : lowersMeters c = false := by
        obtain ⟨hpreset, hinitialise, hpower⟩ := hfree c rest hp
        cases c with
        | presetMeter p e y v => exact absurd rfl (hpreset p e y v)
        | initialise p => exact absurd rfl (hinitialise p)
        | powerUp retained l =>
          cases retained
          · exact absurd rfl (hpower l)
          · rfl
        | _ => rfl
      rw [h]
      exact effect_below hlow x { s with pending := rest } hrange

end Sys2Proof.Machine
end

section
/-! SUPPORT. The Originating Queue and the Deferred Set as lists (R30, R31): what joining, leaving and promotion do to them, and the law that
ties them to where each terminal stands. -/

namespace Sys2Proof.Machine

open List

/-! ### Joining the queue (R30) -/

/-- R30: a trunk joins after the last trunk. -/
theorem joinQueue_trunk {trunks lines : List Origin} {e : Origin} (he : e.isTrunk = true) (ht : ∀ x ∈ trunks, x.isTrunk = true)
    (hl : ∀ x ∈ lines, x.isTrunk = false) : joinQueue (trunks ++ lines) e = trunks ++ e :: lines := by
  have htake : lines.takeWhile Origin.isTrunk = [] := by
    cases lines with
    | nil => rfl
    | cons x l => simp [hl x]
  have hdrop : lines.dropWhile Origin.isTrunk = lines := by
    cases lines with
    | nil => rfl
    | cons x l => simp [hl x]
  rw [joinQueue, if_pos he, takeWhile_append_of_pos ht, dropWhile_append_of_pos ht, htake, hdrop, append_nil]

/-- R30: a line joins at the tail. -/
theorem joinQueue_line {q : List Origin} {e : Origin} (he : e.isTrunk = false) : joinQueue q e = q ++ [e] := by
  simp [joinQueue, he]

theorem joinQueue_perm (q : List Origin) (e : Origin) : joinQueue q e ~ e :: q := by
  unfold joinQueue
  split
  · exact perm_middle.trans (by rw [takeWhile_append_dropWhile])
  · exact perm_append_singleton e q

/-- The trunks stand ahead of the lines. -/
def TrunksFirst (q : List Origin) : Prop :=
  ∃ trunks lines, q = trunks ++ lines ∧ (∀ e ∈ trunks, e.isTrunk = true) ∧ ∀ e ∈ lines, e.isTrunk = false

theorem TrunksFirst.join {q : List Origin} (h : TrunksFirst q) (e : Origin) : TrunksFirst (joinQueue q e) := by
  obtain ⟨trunks, lines, rfl, ht, hl⟩ := h
  cases he : e.isTrunk with
  | true =>
    refine ⟨trunks ++ [e], lines, by simp [joinQueue_trunk he ht hl], fun x hx => ?_, hl⟩
    rcases mem_append.1 hx with hx | hx
    · exact ht x hx
    · exact mem_singleton.1 hx ▸ he
  | false =>
    refine ⟨trunks, lines ++ [e], by simp [joinQueue_line he], ht, fun x hx => ?_⟩
    rcases mem_append.1 hx with hx | hx
    · exact hl x hx
    · exact mem_singleton.1 hx ▸ he

theorem TrunksFirst.filter {q : List Origin} (h : TrunksFirst q) (p : Origin → Bool) : TrunksFirst (q.filter p) := by
  obtain ⟨trunks, lines, rfl, ht, hl⟩ := h
  exact ⟨trunks.filter p, lines.filter p, filter_append .., fun x hx => ht x (mem_of_mem_filter hx),
    fun x hx => hl x (mem_of_mem_filter hx)⟩

theorem TrunksFirst.tail {e : Origin} {q : List Origin} (h : TrunksFirst (e :: q)) : TrunksFirst q := by
  obtain ⟨_ | ⟨x, trunks⟩, lines, hq, ht, hl⟩ := h
  · exact ⟨[], q, rfl, nofun, fun x hx => hl x ((nil_append lines ▸ hq) ▸ mem_cons_of_mem e hx)⟩
  · obtain ⟨rfl, rfl⟩ := cons.inj hq
    exact ⟨trunks, lines, rfl, fun x hx => ht x (mem_cons_of_mem _ hx), hl⟩

/-! ### The order of promotion (R31) -/

/-- The place of a terminal in the order of promotion. -/
def Terminal.rank : Terminal → Nat
  | .trunk i => i.val
  | .line n => 16 + n.val

theorem Terminal.rank_injective {t u : Terminal} (h : Terminal.rank t = Terminal.rank u) : t = u := by
  cases t <;> cases u <;> simp only [Terminal.rank] at h
  · exact congrArg _ (Fin.ext (by omega))
  · omega
  · omega
  · exact congrArg _ (Fin.ext h)

theorem Origin.promotedBefore_iff (d e : Origin) :
    d.promotedBefore e = true ↔ Terminal.rank d.terminal < Terminal.rank e.terminal := by
  cases d <;> cases e <;> simp [Origin.promotedBefore, Origin.terminal, Terminal.rank] <;> omega

theorem Origin.promotedBefore_terminal {d e : Origin} (h : d.promotedBefore e = true) : d.terminal ≠ e.terminal := fun he =>
  absurd (he ▸ (Origin.promotedBefore_iff d e).1 h) (lt_irrefl _)

theorem Origin.promotedBefore_total {d e : Origin} (h : d.terminal ≠ e.terminal) (hn : ¬d.promotedBefore e = true) :
    e.promotedBefore d = true := by
  rw [Origin.promotedBefore_iff] at *
  exact lt_of_le_of_ne (not_lt.1 hn) fun he => h (Terminal.rank_injective he.symm)

theorem Origin.promotedBefore_trans {d e f : Origin} (h : d.promotedBefore e = true) (k : e.promotedBefore f = true) :
    d.promotedBefore f = true := by
  rw [Origin.promotedBefore_iff] at *
  exact h.trans k

/-- The Deferred Set stands in the order of promotion. -/
abbrev PromotionOrder (d : List Origin) : Prop := d.Pairwise fun x y => x.promotedBefore y = true

theorem PromotionOrder.nodup {d : List Origin} (h : PromotionOrder d) : (d.map Origin.terminal).Nodup :=
  pairwise_map.2 (h.imp Origin.promotedBefore_terminal)

theorem joinDeferred_perm (d : List Origin) (e : Origin) : joinDeferred d e ~ e :: d :=
  perm_middle.trans (by rw [takeWhile_append_dropWhile])

theorem joinDeferred_cons (x e : Origin) (d : List Origin) :
    joinDeferred (x :: d) e = if x.promotedBefore e then x :: joinDeferred d e else e :: x :: d := by
  unfold joinDeferred
  rw [takeWhile_cons, dropWhile_cons]
  split <;> rfl

theorem PromotionOrder.join {d : List Origin} {e : Origin} (h : PromotionOrder d) (he : e.terminal ∉ d.map Origin.terminal) :
    PromotionOrder (joinDeferred d e) := by
  induction d with
  | nil => exact pairwise_singleton _ _
  | cons x d ih =>
    obtain ⟨hx, hd⟩ := pairwise_cons.1 h
    rw [map_cons, mem_cons, not_or] at he
    obtain ⟨hne, he⟩ := he
    rw [joinDeferred_cons]
    split
    · next hxe =>
      refine pairwise_cons.2 ⟨fun y hy => ?_, ih hd he⟩
      rcases mem_cons.1 ((joinDeferred_perm d e).mem_iff.1 hy) with rfl | hy
      · exact hxe
      · exact hx y hy
    · next hxe =>
      have hex := Origin.promotedBefore_total (Ne.symm hne) hxe
      refine pairwise_cons.2 ⟨fun y hy => ?_, h⟩
      rcases mem_cons.1 hy with rfl | hy
      · exact hex
      · exact Origin.promotedBefore_trans hex (hx y hy)

/-! ### The law over the places of the terminals -/

/-- Where a terminal stands: in the Originating Queue, in the Deferred Set, or in neither. -/
inductive Place where
  | queued | deferred | elsewhere

/-- The law of the queue `q` and the set `d` where `p` says where each terminal stands. With `owed` a place of the queue has been given
up and not been filled yet. -/
structure Queued (owed : Bool) (p : Terminal → Place) (q d : List Origin) : Prop where
  places : q.length ≤ Config.queuePlaces
  nodup : (q.map Origin.terminal).Nodup
  trunksFirst : TrunksFirst q
  queued : ∀ t, p t = .queued ↔ t ∈ q.map Origin.terminal
  deferred : ∀ t, p t = .deferred ↔ t ∈ d.map Origin.terminal
  order : PromotionOrder d
  full : d ≠ [] → Config.queuePlaces ≤ q.length + owed.toNat

variable {w : Bool} {p : Terminal → Place} {q d : List Origin}

theorem Queued.owe (h : Queued w p q d) : Queued true p q d :=
  { h with full := fun hd => (h.full hd).trans (by have := Bool.toNat_le w; simp only [Bool.toNat_true]; omega) }

theorem Queued.congr {p' : Terminal → Place} (h : Queued w p q d) (hp : ∀ t, p' t = p t) : Queued w p' q d := by
  rwa [funext hp]

/-- The place of one terminal replaced. -/
def placeAt (p : Terminal → Place) (t : Terminal) (x : Place) : Terminal → Place := fun y => if y = t then x else p y

/-- R23: a terminal that stands elsewhere joins the queue while it has a place. -/
theorem Queued.join (h : Queued w p q d) {e : Origin} (he : p e.terminal = .elsewhere) (hq : q.length < Config.queuePlaces) :
    Queued w (placeAt p e.terminal .queued) (joinQueue q e) d := by
  have hperm := joinQueue_perm q e
  have hlength : (joinQueue q e).length = q.length + 1 := hperm.length_eq
  have hmap := hperm.map Origin.terminal
  have hnq : e.terminal ∉ q.map Origin.terminal := fun hm => by simp [(h.queued _).2 hm] at he
  have hnd : e.terminal ∉ d.map Origin.terminal := fun hm => by simp [(h.deferred _).2 hm] at he
  refine ⟨by omega, hmap.nodup_iff.2 (nodup_cons.2 ⟨hnq, h.nodup⟩), h.trunksFirst.join e, fun t => ?_, fun t => ?_, h.order,
    fun hd => ?_⟩
  · rw [hmap.mem_iff, map_cons, mem_cons, placeAt]
    split
    · next ht => simp [ht]
    · next ht => rw [h.queued, or_iff_right ht]
  · rw [placeAt]
    split
    · next ht => exact iff_of_false nofun (ht ▸ hnd)
    · exact h.deferred t
  · have := h.full hd
    omega

/-- R23: a terminal that stands elsewhere joins the Deferred Set when the queue is full. -/
theorem Queued.defer (h : Queued w p q d) {e : Origin} (he : p e.terminal = .elsewhere) (hq : Config.queuePlaces ≤ q.length) :
    Queued w (placeAt p e.terminal .deferred) q (joinDeferred d e) := by
  have hmap := (joinDeferred_perm d e).map Origin.terminal
  have hnq : e.terminal ∉ q.map Origin.terminal := fun hm => by simp [(h.queued _).2 hm] at he
  have hnd : e.terminal ∉ d.map Origin.terminal := fun hm => by simp [(h.deferred _).2 hm] at he
  refine ⟨h.places, h.nodup, h.trunksFirst, fun t => ?_, fun t => ?_, h.order.join hnd, fun _ => hq.trans (Nat.le_add_right _ _)⟩
  · rw [placeAt]
    split
    · next ht => exact iff_of_false nofun (ht ▸ hnq)
    · exact h.queued t
  · rw [hmap.mem_iff, map_cons, mem_cons, placeAt]
    split
    · next ht => simp [ht]
    · next ht => rw [h.deferred, or_iff_right ht]

/-- R31: the first terminal of the Deferred Set takes a free place of the queue. -/
theorem Queued.promote {e : Origin} (h : Queued w p q (e :: d)) (hq : q.length < Config.queuePlaces) :
    Queued false (placeAt p e.terminal .queued) (joinQueue q e) d := by
  obtain ⟨hed, hnodup⟩ := nodup_cons.1 h.order.nodup
  have hperm := joinQueue_perm q e
  have hlength : (joinQueue q e).length = q.length + 1 := hperm.length_eq
  have hmap := hperm.map Origin.terminal
  have he : p e.terminal = .deferred := (h.deferred _).2 (by simp)
  have hnq : e.terminal ∉ q.map Origin.terminal := fun hm => by simp [(h.queued _).2 hm] at he
  refine ⟨by omega, hmap.nodup_iff.2 (nodup_cons.2 ⟨hnq, h.nodup⟩), h.trunksFirst.join e, fun t => ?_, fun t => ?_, h.order.of_cons,
    fun _ => ?_⟩
  · rw [hmap.mem_iff, map_cons, mem_cons, placeAt]
    split
    · next ht => simp [ht]
    · next ht => rw [h.queued, or_iff_right ht]
  · rw [placeAt]
    split
    · next ht => exact iff_of_false nofun (ht ▸ hed)
    · next ht => rw [h.deferred, map_cons, mem_cons, or_iff_right ht]
  · have hfull := h.full (cons_ne_nil _ _)
    have := Bool.toNat_le w
    simp only [Bool.toNat_false]
    omega

/-- No place is owed where the set is empty or the queue full. -/
theorem Queued.settled (h : Queued w p q d) (hd : d = [] ∨ Config.queuePlaces ≤ q.length) : Queued false p q d :=
  { h with full := fun hne => (hd.resolve_left hne).trans (Nat.le_add_right _ _) }

theorem length_filter_terminal {q : List Origin} (h : (q.map Origin.terminal).Nodup) (t : Terminal) :
    q.length ≤ (q.filter fun e => e.terminal ≠ t).length + 1 := by
  induction q with
  | nil => simp
  | cons e q ih =>
    obtain ⟨he, hq⟩ := nodup_cons.1 h
    by_cases ht : e.terminal = t
    · have hall : (q.filter fun e => e.terminal ≠ t) = q :=
        filter_eq_self.2 fun x hx => by
          simpa using fun hxt : x.terminal = t => he (ht ▸ hxt ▸ mem_map_of_mem hx)
      rw [filter_cons_of_neg (by simpa using ht), hall, length_cons]
    · rw [filter_cons_of_pos (by simpa using ht), length_cons, length_cons]
      have := ih hq
      omega

theorem mem_map_filter_terminal (l : List Origin) (t y : Terminal) :
    y ∈ (l.filter fun e => e.terminal ≠ t).map Origin.terminal ↔ y ≠ t ∧ y ∈ l.map Origin.terminal := by
  simp only [mem_map, mem_filter, decide_eq_true_eq]
  constructor
  · rintro ⟨e, ⟨he, hne⟩, rfl⟩
    exact ⟨hne, e, he, rfl⟩
  · rintro ⟨hne, e, he, rfl⟩
    exact ⟨e, ⟨he, hne⟩, rfl⟩

/-- R24, R25, R35: a terminal leaves the queue or the set; where it was queued its place is owed. -/
theorem Queued.leave (h : Queued false p q d) (t : Terminal) : Queued true (placeAt p t .elsewhere)
    (q.filter fun e => e.terminal ≠ t) (d.filter fun e => e.terminal ≠ t) := by
  have hlength := length_filter_terminal h.nodup t
  refine ⟨(length_filter_le _ _).trans h.places, h.nodup.sublist (filter_sublist.map _), h.trunksFirst.filter _, fun y => ?_,
    fun y => ?_, h.order.filter _, fun hd => ?_⟩
  · rw [mem_map_filter_terminal, placeAt]
    split
    · next hy => simp [hy]
    · next hy => rw [h.queued, and_iff_right hy]
  · rw [mem_map_filter_terminal, placeAt]
    split
    · next hy => simp [hy]
    · next hy => rw [h.deferred, and_iff_right hy]
  · have := h.full fun hnil => hd (by simp [hnil])
    simp only [Bool.toNat_true, Bool.toNat_false] at *
    omega

/-- A terminal of the Deferred Set leaves no place. -/
theorem Queued.leaveDeferred (h : Queued false p q d) {t : Terminal} (ht : p t = .deferred) :
    Queued false (placeAt p t .elsewhere) (q.filter fun e => e.terminal ≠ t) (d.filter fun e => e.terminal ≠ t) := by
  have hall : (q.filter fun e => e.terminal ≠ t) = q := filter_eq_self.2 fun x hx => by
    have : x.terminal ≠ t := fun hxt => by
      simp [(h.queued t).2 (hxt ▸ mem_map_of_mem hx)] at ht
    simpa using this
  refine { h.leave t with full := fun hd => ?_ }
  rw [hall]
  exact h.full fun hnil => hd (by simp [hnil])

/-- R32: the head of the queue is served, and its place is owed. -/
theorem Queued.serve {e : Origin} (h : Queued false p (e :: q) d) : Queued true (placeAt p e.terminal .elsewhere) q d := by
  obtain ⟨heq, hnodup⟩ := nodup_cons.1 h.nodup
  have he : p e.terminal = .queued := (h.queued _).2 (by simp)
  have hplaces := h.places
  rw [length_cons] at hplaces
  refine ⟨by omega, hnodup, h.trunksFirst.tail, fun t => ?_, fun t => ?_, h.order, fun hd => ?_⟩
  · rw [placeAt]
    split
    · next ht => exact iff_of_false nofun (ht ▸ heq)
    · next ht => rw [h.queued, map_cons, mem_cons, or_iff_right ht]
  · rw [placeAt]
    split
    · next ht => exact iff_of_false nofun fun hm => by simp [ht ▸ (h.deferred t).2 hm] at he
    · exact h.deferred t
  · have := h.full hd
    simpa using this

end Sys2Proof.Machine
end

section
/-! SUPPORT. How terminals move outside the restarts and the sampling of a scan phase: `Moves a w c` says that the Line Scanner `c` is `a`
after changes of records outside the queue, originations, departures, promotions and services; with `w` a place of the queue has
been given up and not been filled yet. Such moves leave every filter as it stands and keep the law of the queue. -/

namespace Sys2Proof.Machine

/-! ### Where a terminal stands -/

def LineState.place : LineState → Place
  | .waiting => .queued
  | .deferred => .deferred
  | _ => .elsewhere

def TrunkState.place : TrunkState → Place
  | .waiting => .queued
  | .deferred => .deferred
  | _ => .elsewhere

/-- Where each terminal stands by its record. -/
def Scanner.place (c : Scanner) : Terminal → Place
  | .line n => (tget c.lines n).state.place
  | .trunk i => (tget c.trunks i).state.place

/-- The law of the queue, over the Line Scanner. -/
abbrev Scanner.Queued (w : Bool) (c : Scanner) : Prop := Machine.Queued w c.place c.queue c.deferred

theorem LineState.place_eq_queued {x : LineState} : x.place = .queued ↔ x = .waiting := by
  cases x <;> simp [LineState.place]

theorem LineState.place_eq_deferred {x : LineState} : x.place = .deferred ↔ x = .deferred := by
  cases x <;> simp [LineState.place]

theorem TrunkState.place_eq_queued {x : TrunkState} : x.place = .queued ↔ x = .waiting := by
  cases x <;> simp [TrunkState.place]

theorem TrunkState.place_eq_deferred {x : TrunkState} : x.place = .deferred ↔ x = .deferred := by
  cases x <;> simp [TrunkState.place]

theorem State.waits_iff (s : State) (t : Terminal) : s.waits t ↔ s.scan.place t = .queued := by
  cases t with
  | line n => exact LineState.place_eq_queued.symm
  | trunk i => exact TrunkState.place_eq_queued.symm

theorem State.isDeferred_iff (s : State) (t : Terminal) : s.isDeferred t ↔ s.scan.place t = .deferred := by
  cases t with
  | line n => exact LineState.place_eq_deferred.symm
  | trunk i => exact TrunkState.place_eq_deferred.symm

theorem queueLaw_iff (s : State) : QueueLaw s ↔ s.scan.Queued false := by
  unfold QueueLaw
  simp only [State.waits_iff, State.isDeferred_iff]
  constructor
  · rintro ⟨hplaces, hnodup, htrunks, hqueued, hdeferred, horder, hfull⟩
    exact ⟨hplaces, hnodup, htrunks, hqueued, hdeferred, horder, fun h => (hfull h).ge⟩
  · rintro ⟨hplaces, hnodup, htrunks, hqueued, hdeferred, horder, hfull⟩
    exact ⟨hplaces, hnodup, htrunks, hqueued, hdeferred, horder, fun h => le_antisymm hplaces (hfull h)⟩

/-- Two line records with the same class and filters. -/
def LineRec.SameFilter (l k : LineRec) : Prop :=
  k.cls = l.cls ∧ k.accepted = l.accepted ∧ k.samples = l.samples ∧ k.grounds = l.grounds

/-- Two trunk records with the same filter. -/
def TrunkRec.SameFilter (l k : TrunkRec) : Prop := k.accepted = l.accepted ∧ k.samples = l.samples

theorem LineRec.SameFilter.trans {l k m : LineRec} (h : l.SameFilter k) (h' : k.SameFilter m) : l.SameFilter m := by
  obtain ⟨hcls, haccepted, hsamples, hgrounds⟩ := h
  obtain ⟨kcls, kaccepted, ksamples, kgrounds⟩ := h'
  exact ⟨kcls.trans hcls, kaccepted.trans haccepted, ksamples.trans hsamples, kgrounds.trans hgrounds⟩

theorem TrunkRec.SameFilter.trans {l k m : TrunkRec} (h : l.SameFilter k) (h' : k.SameFilter m) : l.SameFilter m :=
  ⟨h'.1.trans h.1, h'.2.trans h.2⟩

/-- Two line scanners with the same filters. -/
structure Scanner.SameFilters (a b : Scanner) : Prop where
  lines : ∀ n, (tget a.lines n).SameFilter (tget b.lines n)
  trunks : ∀ i, (tget a.trunks i).SameFilter (tget b.trunks i)
  answers : b.answers = a.answers

theorem Scanner.SameFilters.refl (a : Scanner) : a.SameFilters a :=
  ⟨fun _ => ⟨rfl, rfl, rfl, rfl⟩, fun _ => ⟨rfl, rfl⟩, rfl⟩

theorem Scanner.SameFilters.trans {a b c : Scanner} (h : a.SameFilters b) (k : b.SameFilters c) : a.SameFilters c :=
  ⟨fun n => (h.lines n).trans (k.lines n), fun i => (h.trunks i).trans (k.trunks i), k.answers.trans h.answers⟩

/-! ### One record -/

theorem State.modLine_place (s : State) (n : LineNo) (f : LineRec → LineRec) :
    (s.modLine n f).scan.place = placeAt s.scan.place (.line n) (f (s.line n)).state.place := by
  funext t
  cases t with
  | line m =>
    simp only [Scanner.place, State.modLine, tget_tmod, placeAt, Terminal.line.injEq]
    split <;> rfl
  | trunk i => rfl

theorem State.modTrunk_place (s : State) (i : TrunkNo) (f : TrunkRec → TrunkRec) :
    (s.modTrunk i f).scan.place = placeAt s.scan.place (.trunk i) (f (s.trunk i)).state.place := by
  funext t
  cases t with
  | line n => rfl
  | trunk j =>
    simp only [Scanner.place, State.modTrunk, tget_tmod, placeAt, Terminal.trunk.injEq]
    split <;> rfl

theorem placeAt_same (p : Terminal → Place) {t : Terminal} {x : Place} (h : p t = x) : placeAt p t x = p := by
  funext y
  unfold placeAt
  split
  · next hy => rw [hy, h]
  · rfl

theorem State.modLine_filters (s : State) (n : LineNo) (f : LineRec → LineRec) (hf : (s.line n).SameFilter (f (s.line n))) :
    s.scan.SameFilters (s.modLine n f).scan := by
  refine ⟨fun m => ?_, fun _ => ⟨rfl, rfl⟩, rfl⟩
  show (s.line m).SameFilter ((s.modLine n f).line m)
  rw [State.modLine_line]
  split
  · next h => exact h ▸ hf
  · exact ⟨rfl, rfl, rfl, rfl⟩

theorem State.modTrunk_filters (s : State) (i : TrunkNo) (f : TrunkRec → TrunkRec) (hf : (s.trunk i).SameFilter (f (s.trunk i))) :
    s.scan.SameFilters (s.modTrunk i f).scan := by
  refine ⟨fun _ => ⟨rfl, rfl, rfl, rfl⟩, fun j => ?_, rfl⟩
  show (s.trunk j).SameFilter ((s.modTrunk i f).trunk j)
  rw [State.modTrunk_trunk]
  split
  · next h => exact h ▸ hf
  · exact ⟨rfl, rfl⟩

/-! ### Joining, promotion and service over the Line Scanner -/

theorem State.setWaiting_place (s : State) (t : Terminal) (d : Bool) (x : Option Nat) :
    (s.setWaiting t d x).scan.place = placeAt s.scan.place t (if d then .deferred else .queued) := by
  cases t with
  | line n => rw [State.setWaiting, State.modLine_place]; cases d <;> rfl
  | trunk i => rw [State.setWaiting, State.modTrunk_place]; cases d <;> rfl

theorem State.setWaiting_filters (s : State) (t : Terminal) (d : Bool) (x : Option Nat) :
    s.scan.SameFilters (s.setWaiting t d x).scan := by
  cases t with
  | line n => exact s.modLine_filters n _ ⟨rfl, rfl, rfl, rfl⟩
  | trunk i => exact s.modTrunk_filters i _ ⟨rfl, rfl⟩

@[simp] theorem State.originEntry_terminal (s : State) (t : Terminal) : (s.originEntry t).terminal = t := by cases t <;> rfl

/-- R23, with room in the queue. -/
theorem State.originate_room {s : State} (t : Terminal) (h : s.scan.queue.length < Config.queuePlaces) :
    (s.originate t).scan = { (s.setWaiting t false (some Config.waitTime)).scan with
      queue := joinQueue s.scan.queue (s.originEntry t), deferred := s.scan.deferred } := by
  simp [State.originate, h]

/-- R23, with the queue full. -/
theorem State.originate_full {s : State} (t : Terminal) (h : ¬s.scan.queue.length < Config.queuePlaces) :
    (s.originate t).scan = { (s.setWaiting t true (some Config.waitTime)).scan with
      queue := s.scan.queue, deferred := joinDeferred s.scan.deferred (s.originEntry t) } := by
  simp [State.originate, h]

theorem Scanner.place_lists (c : Scanner) (q d : List Origin) : Scanner.place { c with queue := q, deferred := d } = c.place := by
  funext t
  cases t <;> rfl

theorem Scanner.filters_lists {a : Scanner} (c : Scanner) (q d : List Origin) (h : a.SameFilters c) :
    a.SameFilters { c with queue := q, deferred := d } := ⟨h.lines, h.trunks, h.answers⟩

theorem State.originate_queued {w : Bool} {s : State} {t : Terminal} (h : s.scan.Queued w) (ht : s.scan.place t = .elsewhere) :
    (s.originate t).scan.Queued w := by
  have he : s.scan.place (s.originEntry t).terminal = .elsewhere := by rw [State.originEntry_terminal, ht]
  by_cases hq : s.scan.queue.length < Config.queuePlaces
  · rw [State.originate_room t hq]
    simpa [Scanner.Queued, Scanner.place_lists, State.setWaiting_place] using h.join he hq
  · rw [State.originate_full t hq]
    simpa [Scanner.Queued, Scanner.place_lists, State.setWaiting_place] using h.defer he (not_lt.1 hq)

theorem State.originate_filters (s : State) (t : Terminal) : s.scan.SameFilters (s.originate t).scan := by
  by_cases hq : s.scan.queue.length < Config.queuePlaces
  · rw [State.originate_room t hq]
    exact Scanner.filters_lists _ _ _ (s.setWaiting_filters t _ _)
  · rw [State.originate_full t hq]
    exact Scanner.filters_lists _ _ _ (s.setWaiting_filters t _ _)

theorem State.originate_place_of_ne (s : State) {t y : Terminal} (h : y ≠ t) : (s.originate t).scan.place y = s.scan.place y := by
  by_cases hq : s.scan.queue.length < Config.queuePlaces
  · rw [State.originate_room t hq, Scanner.place_lists, State.setWaiting_place, placeAt, if_neg h]
  · rw [State.originate_full t hq, Scanner.place_lists, State.setWaiting_place, placeAt, if_neg h]

/-- R31, with a terminal deferred and room in the queue. -/
theorem State.promote_room {s : State} {e : Origin} {rest : List Origin} (hd : s.scan.deferred = e :: rest)
    (hq : s.scan.queue.length < Config.queuePlaces) :
    s.promote = { s.setWaiting e.terminal false (s.waitTimer e.terminal) with
      scan := { (s.setWaiting e.terminal false (s.waitTimer e.terminal)).scan with
        queue := joinQueue s.scan.queue e, deferred := rest } } := by
  simp [State.promote, hd, hq]

/-- R31, with no terminal deferred or the queue full. -/
theorem State.promote_none {s : State} (h : s.scan.deferred = [] ∨ Config.queuePlaces ≤ s.scan.queue.length) : s.promote = s := by
  unfold State.promote
  split
  · rfl
  · next hd => exact if_neg (not_lt.2 (h.resolve_left (by simp [hd])))

/-- Either a terminal is promoted or nothing is. -/
theorem State.promote_cases (s : State) : (∃ e rest, s.scan.deferred = e :: rest ∧ s.scan.queue.length < Config.queuePlaces) ∨
    s.scan.deferred = [] ∨ Config.queuePlaces ≤ s.scan.queue.length := by
  cases hd : s.scan.deferred with
  | nil => exact .inr (.inl rfl)
  | cons e rest =>
    rcases lt_or_ge s.scan.queue.length Config.queuePlaces with hq | hq
    · exact .inl ⟨e, rest, rfl, hq⟩
    · exact .inr (.inr hq)

theorem State.promote_queued {w : Bool} {s : State} (h : s.scan.Queued w) : s.promote.scan.Queued false := by
  obtain ⟨e, rest, hd, hq⟩ | hnone := s.promote_cases
  · rw [State.promote_room hd hq]
    have h' : Machine.Queued w s.scan.place s.scan.queue (e :: rest) := hd ▸ h
    simpa [Scanner.Queued, Scanner.place_lists, State.setWaiting_place] using h'.promote hq
  · rw [State.promote_none hnone]
    exact h.settled hnone

theorem State.promote_filters (s : State) : s.scan.SameFilters s.promote.scan := by
  obtain ⟨e, rest, hd, hq⟩ | hnone := s.promote_cases
  · rw [State.promote_room hd hq]
    exact Scanner.filters_lists _ _ _ (s.setWaiting_filters _ _ _)
  · rw [State.promote_none hnone]
    exact .refl _

theorem State.seizeTerminal_place (s : State) (e : Origin) (r : RegNo) :
    (s.seizeTerminal e r).scan.place = placeAt s.scan.place e.terminal .elsewhere := by
  cases e with
  | line n p =>
    rw [State.seizeTerminal, (State.sendDialTone_frame _ _ _).2.1]
    exact s.modLine_place n _
  | trunk i => exact s.modTrunk_place i _

theorem State.seizeTerminal_filters (s : State) (e : Origin) (r : RegNo) : s.scan.SameFilters (s.seizeTerminal e r).scan := by
  cases e with
  | line n p =>
    rw [State.seizeTerminal, (State.sendDialTone_frame _ _ _).2.1]
    exact s.modLine_filters n _ ⟨rfl, rfl, rfl, rfl⟩
  | trunk i => exact s.modTrunk_filters i _ ⟨rfl, rfl⟩

theorem State.seizeTerminal_lists (s : State) (e : Origin) (r : RegNo) :
    (s.seizeTerminal e r).scan.queue = s.scan.queue ∧ (s.seizeTerminal e r).scan.deferred = s.scan.deferred := by
  cases e <;> simp [State.seizeTerminal]

/-- The record, the receiver and the terminal at the service of the head of the queue (R32, R41), before the freed place is filled. -/
def State.served (s : State) (e : Origin) (rest : List Origin) (r : RegNo) (k : ReceiverNo) : State :=
  (((({ s with scan := { s.scan with queue := rest } } : State).modReg r fun _ => CallRegister.served e s.trans.incomingRoot k).setReceiver k
    (.attached ⟨false, r, .make, 0, 0, !e.isTrunk⟩)).seizeTerminal e r)

theorem State.serveHead_served {s : State} {e : Origin} {rest : List Origin} {r : RegNo} {k : ReceiverNo}
    (hq : s.scan.queue = e :: rest) (hr : s.freeRegister = some r) (hk : s.freeReceiver = some k) :
    s.serveHead = (s.served e rest r k).promote := by
  rw [State.serveHead, hq, hr, hk]
  rfl

/-- Either the head of the queue is served or nothing is. -/
theorem State.serveHead_cases (s : State) : (∃ e rest r k, s.scan.queue = e :: rest ∧ s.freeRegister = some r ∧ s.freeReceiver = some k) ∨
    s.serveHead = s := by
  unfold State.serveHead
  split
  · next e rest r k hq hr hk => exact .inl ⟨e, rest, r, k, hq, hr, hk⟩
  · exact .inr rfl

theorem State.served_queued {s : State} {e : Origin} {rest : List Origin} {r : RegNo} {k : ReceiverNo} (hq : s.scan.queue = e :: rest)
    (h : s.scan.Queued false) : (s.served e rest r k).scan.Queued true := by
  have h' : Machine.Queued false s.scan.place (e :: rest) s.scan.deferred := hq ▸ h
  obtain ⟨hqueue, hdeferred⟩ := State.seizeTerminal_lists (((({ s with scan := { s.scan with queue := rest } } : State).modReg r fun _ =>
    CallRegister.served e s.trans.incomingRoot k).setReceiver k (.attached ⟨false, r, .make, 0, 0, !e.isTrunk⟩))) e r
  unfold State.served Scanner.Queued
  rw [hqueue, hdeferred, State.seizeTerminal_place]
  exact (h'.serve).congr fun _ => congrFun (congrArg (placeAt · _ _) (Scanner.place_lists s.scan rest s.scan.deferred)) _

theorem State.served_filters (s : State) (e : Origin) (rest : List Origin) (r : RegNo) (k : ReceiverNo) :
    s.scan.SameFilters (s.served e rest r k).scan := by
  unfold State.served
  refine Scanner.SameFilters.trans ?_ (State.seizeTerminal_filters _ e r)
  exact Scanner.filters_lists s.scan rest s.scan.deferred (.refl _)

theorem State.serveHead_queued {s : State} (h : s.scan.Queued false) : s.serveHead.scan.Queued false := by
  obtain ⟨e, rest, r, k, hq, hr, hk⟩ | hsame := s.serveHead_cases
  · rw [State.serveHead_served hq hr hk]
    exact State.promote_queued (State.served_queued hq h)
  · rwa [hsame]

theorem State.serveHead_filters (s : State) : s.scan.SameFilters s.serveHead.scan := by
  obtain ⟨e, rest, r, k, hq, hr, hk⟩ | hsame := s.serveHead_cases
  · rw [State.serveHead_served hq hr hk]
    exact (s.served_filters e rest r k).trans (State.promote_filters _)
  · rw [hsame]
    exact .refl _

/-! ### Moves -/

/-- `c` is the Line Scanner `a` after some moves of terminals; with `true` a place of the queue is owed. -/
inductive Moves (a : Scanner) : Bool → Scanner → Prop where
  | refl : Moves a false a
  | owe {c : Scanner} (h : Moves a false c) : Moves a true c
  | line {w : Bool} (s : State) (n : LineNo) (f : LineRec → LineRec) (h : Moves a w s.scan) (hs : s.scan.place (.line n) = .elsewhere)
      (hf : (f (s.line n)).state.place = .elsewhere) (hfilter : (s.line n).SameFilter (f (s.line n))) : Moves a w (s.modLine n f).scan
  | trunk {w : Bool} (s : State) (i : TrunkNo) (f : TrunkRec → TrunkRec) (h : Moves a w s.scan) (hs : s.scan.place (.trunk i) = .elsewhere)
      (hf : (f (s.trunk i)).state.place = .elsewhere) (hfilter : (s.trunk i).SameFilter (f (s.trunk i))) : Moves a w (s.modTrunk i f).scan
  | originate {w : Bool} (s : State) (t : Terminal) (h : Moves a w s.scan) (hs : s.scan.place t = .elsewhere) : Moves a w (s.originate t).scan
  | leaveLine (s : State) (n : LineNo) (x : LineState) (h : Moves a false s.scan) (hx : x.place = .elsewhere) :
      Moves a true ((s.leaveQueue (.line n)).modLine n fun l => l.outOfCall x).scan
  | leaveTrunk (s : State) (i : TrunkNo) (x : TrunkState) (h : Moves a false s.scan) (hx : x.place = .elsewhere) :
      Moves a true ((s.leaveQueue (.trunk i)).modTrunk i fun k => k.outOfCall x).scan
  | promote (s : State) (h : Moves a true s.scan) : Moves a false s.promote.scan
  | serve (s : State) (h : Moves a false s.scan) : Moves a false s.serveHead.scan

theorem Scanner.Queued.modLine {w : Bool} {s : State} {n : LineNo} {f : LineRec → LineRec} (h : s.scan.Queued w)
    (hf : (f (s.line n)).state.place = s.scan.place (.line n)) : (s.modLine n f).scan.Queued w := by
  rw [Scanner.Queued, State.modLine_place, placeAt_same _ hf.symm]
  exact h

theorem Scanner.Queued.modTrunk {w : Bool} {s : State} {i : TrunkNo} {f : TrunkRec → TrunkRec} (h : s.scan.Queued w)
    (hf : (f (s.trunk i)).state.place = s.scan.place (.trunk i)) : (s.modTrunk i f).scan.Queued w := by
  rw [Scanner.Queued, State.modTrunk_place, placeAt_same _ hf.symm]
  exact h

theorem State.leaveQueue_place (s : State) (t : Terminal) : (s.leaveQueue t).scan.place = s.scan.place := Scanner.place_lists _ _ _

/-- Moves keep the law of the queue. -/
theorem Moves.queued {a c : Scanner} {w : Bool} (h : Moves a w c) (ha : a.Queued false) : c.Queued w := by
  induction h with
  | refl => exact ha
  | owe _ ih => exact ih.owe
  | line s n f _ hs hf _ ih => exact ih.modLine (hf.trans hs.symm)
  | trunk s i f _ hs hf _ ih => exact ih.modTrunk (hf.trans hs.symm)
  | originate s t _ hs ih => exact State.originate_queued ih hs
  | leaveLine s n x _ hx ih =>
    rw [Scanner.Queued, State.modLine_place, State.leaveQueue_place]
    exact hx ▸ ih.leave (.line n)
  | leaveTrunk s i x _ hx ih =>
    rw [Scanner.Queued, State.modTrunk_place, State.leaveQueue_place]
    exact hx ▸ ih.leave (.trunk i)
  | promote s _ ih => exact State.promote_queued ih
  | serve s _ ih => exact State.serveHead_queued ih

/-- Moves leave the filters as they stand. -/
theorem Moves.filters {a c : Scanner} {w : Bool} (h : Moves a w c) : a.SameFilters c := by
  induction h with
  | refl => exact .refl a
  | owe _ ih => exact ih
  | line s n f _ _ _ hfilter ih => exact ih.trans (s.modLine_filters n f hfilter)
  | trunk s i f _ _ _ hfilter ih => exact ih.trans (s.modTrunk_filters i f hfilter)
  | originate s t _ _ ih => exact ih.trans (s.originate_filters t)
  | leaveLine s n x _ _ ih =>
    exact ih.trans ((Scanner.filters_lists _ _ _ (.refl _)).trans (State.modLine_filters (s.leaveQueue _) n _ ⟨rfl, rfl, rfl, rfl⟩))
  | leaveTrunk s i x _ _ ih =>
    exact ih.trans ((Scanner.filters_lists _ _ _ (.refl _)).trans (State.modTrunk_filters (s.leaveQueue _) i _ ⟨rfl, rfl⟩))
  | promote s _ ih => exact ih.trans s.promote_filters
  | serve s _ ih => exact ih.trans s.serveHead_filters

end Sys2Proof.Machine
end

section
/-! SUPPORT. Which operations move terminals, and how far they go without a place of the queue left owed: `State.<op>_moves` for each
operation, in the manner of Laws/Attention.lean. -/

namespace Sys2Proof.Machine

variable {a : Scanner} {w : Bool}

/-! ### Terminals leaving a call -/

theorem State.toLockout_scan (s : State) (t : Terminal) : (s.toLockout t).scan = (match t with
    | .line n => s.modLine n fun l => l.outOfCall .lockout
    | .trunk i => s.modTrunk i fun k => k.outOfCall .lockout).scan := by
  cases t <;> simp [State.toLockout]

theorem State.toLockout_moves {s : State} {t : Terminal} (ht : s.scan.place t = .elsewhere) (h : Moves a w s.scan) :
    Moves a w (s.toLockout t).scan := by
  rw [State.toLockout_scan]
  cases t with
  | line n => exact .line s n _ h ht rfl ⟨rfl, rfl, rfl, rfl⟩
  | trunk i => exact .trunk s i _ h ht rfl ⟨rfl, rfl⟩

/-- A terminal made IDLE, before an origination on a CLOSED loop (R33). -/
def State.idled (s : State) : Terminal → State
  | .line n => s.modLine n fun l => l.outOfCall .idle
  | .trunk i => (s.modTrunk i fun k => k.outOfCall .idle).setClearTimer i none

theorem State.toIdle_eq (s : State) (t : Terminal) : s.toIdle t = if s.accepted t = .closed then (s.idled t).originate t else s.idled t := by
  cases t <;> rfl

theorem State.idled_place (s : State) (t : Terminal) : (s.idled t).scan.place = placeAt s.scan.place t .elsewhere := by
  cases t with
  | line n => exact s.modLine_place n _
  | trunk i => exact s.modTrunk_place i _

theorem State.idled_moves {s : State} {t : Terminal} (ht : s.scan.place t = .elsewhere) (h : Moves a w s.scan) :
    Moves a w (s.idled t).scan := by
  cases t with
  | line n => exact .line s n _ h ht rfl ⟨rfl, rfl, rfl, rfl⟩
  | trunk i => exact .trunk s i _ h ht rfl ⟨rfl, rfl⟩

theorem State.idled_elsewhere (s : State) (t : Terminal) : (s.idled t).scan.place t = .elsewhere := by
  rw [State.idled_place]
  exact if_pos rfl

theorem State.toIdle_moves_of_idled {s : State} {t : Terminal} (h : Moves a w (s.idled t).scan) : Moves a w (s.toIdle t).scan := by
  rw [State.toIdle_eq]
  split
  · exact .originate _ t h (s.idled_elsewhere t)
  · exact h

theorem State.toIdle_moves {s : State} {t : Terminal} (ht : s.scan.place t = .elsewhere) (h : Moves a w s.scan) :
    Moves a w (s.toIdle t).scan := State.toIdle_moves_of_idled (State.idled_moves ht h)

theorem State.leaveCall_moves {s : State} {t : Terminal} (ht : s.scan.place t = .elsewhere) (h : Moves a w s.scan) :
    Moves a w (s.leaveCall t).scan := by
  unfold State.leaveCall
  split
  · exact State.toIdle_moves ht h
  · exact State.toLockout_moves ht h

theorem State.toIdle_place_of_ne (s : State) {t y : Terminal} (h : y ≠ t) : (s.toIdle t).scan.place y = s.scan.place y := by
  have hidled : (s.idled t).scan.place y = s.scan.place y := by rw [State.idled_place, placeAt, if_neg h]
  rw [State.toIdle_eq]
  split
  · rw [State.originate_place_of_ne _ h, hidled]
  · exact hidled

theorem State.toLockout_place_of_ne (s : State) {t y : Terminal} (h : y ≠ t) : (s.toLockout t).scan.place y = s.scan.place y := by
  rw [State.toLockout_scan]
  cases t with
  | line n => rw [State.modLine_place, placeAt, if_neg h]
  | trunk i => rw [State.modTrunk_place, placeAt, if_neg h]

theorem State.leaveCall_place_of_ne (s : State) {t y : Terminal} (h : y ≠ t) : (s.leaveCall t).scan.place y = s.scan.place y := by
  unfold State.leaveCall
  split
  · exact s.toIdle_place_of_ne h
  · exact s.toLockout_place_of_ne h

/-- A terminal that has left the queue and then stands IDLE or in LOCKOUT leaves a place owed. -/
theorem State.leaveQueue_toIdle_moves {s : State} (t : Terminal) (h : Moves a false s.scan) :
    Moves a true ((s.leaveQueue t).toIdle t).scan := by
  refine State.toIdle_moves_of_idled ?_
  cases t with
  | line n => exact .leaveLine s n _ h rfl
  | trunk i => exact .leaveTrunk s i _ h rfl

theorem State.leaveQueue_toLockout_moves {s : State} (t : Terminal) (h : Moves a false s.scan) :
    Moves a true ((s.leaveQueue t).toLockout t).scan := by
  rw [State.toLockout_scan]
  cases t with
  | line n => exact .leaveLine s n _ h rfl
  | trunk i => exact .leaveTrunk s i _ h rfl

/-! ### Roles -/

theorem State.callingRole_elsewhere {s : State} {r : RegNo} {t : Terminal} (h : s.callingRole r t = true) :
    s.scan.place t = .elsewhere := by
  cases t with
  | line n =>
    simp only [State.callingRole, Bool.and_eq_true, decide_eq_true_eq] at h
    show (s.line n).state.place = .elsewhere
    rw [h.1]
    rfl
  | trunk i =>
    simp only [State.callingRole, Bool.and_eq_true, decide_eq_true_eq] at h
    show (s.trunk i).state.place = .elsewhere
    rw [h.1]
    rfl

theorem State.calledRole_state {s : State} {r : RegNo} {n : LineNo} (h : s.calledRole r n = true) :
    (s.line n).state = .termReserved ∨ (s.line n).state = .termRinging ∨ (s.line n).state = .termBusy := by
  simp only [State.calledRole, Bool.and_eq_true, Bool.or_eq_true, decide_eq_true_eq] at h
  tauto

theorem State.calledRole_elsewhere {s : State} {r : RegNo} {n : LineNo} (h : s.calledRole r n = true) :
    s.scan.place (.line n) = .elsewhere := by
  show (s.line n).state.place = .elsewhere
  rcases State.calledRole_state h with h | h | h <;> rw [h] <;> rfl

/-- No line is named in both roles. -/
theorem State.called_ne_calling {s : State} {q r : RegNo} {n : LineNo} {t : Terminal} (hn : s.calledRole r n = true)
    (ht : s.callingRole q t = true) : Terminal.line n ≠ t := by
  rintro rfl
  simp only [State.callingRole, Bool.and_eq_true, decide_eq_true_eq] at ht
  rcases State.calledRole_state hn with h | h | h <;> simp [h] at ht

theorem State.place_of_line {s : State} {n : LineNo} {x : LineState} (h : (s.line n).state = x) : s.scan.place (.line n) = x.place :=
  congrArg LineState.place h

theorem State.place_of_trunk {s : State} {i : TrunkNo} {x : TrunkState} (h : (s.trunk i).state = x) :
    s.scan.place (.trunk i) = x.place := congrArg TrunkState.place h

/-! ### Calls -/

theorem State.promote_moves (s : State) (h : Moves a true s.scan) : Moves a false s.promote.scan := .promote s h

theorem State.serve_moves (n : Nat) (s : State) (h : Moves a false s.scan) : Moves a false (State.serve n s).scan := by
  induction n generalizing s with
  | zero => exact h
  | succ n ih => exact ih _ (.serve s h)

@[simp] theorem State.settle_moves (s : State) (h : Moves a true s.scan) : Moves a false s.settle.scan :=
  State.serve_moves _ _ (s.promote_moves h)

@[simp] theorem State.answerCall_moves (s : State) (r : RegNo) (h : Moves a w s.scan) : Moves a w (s.answerCall r).scan := by
  unfold State.answerCall
  dsimp only
  split
  · split
    · next x hx hrole =>
      simpa using Moves.line _ x.line (fun l => { l with state := .termBusy, earlyOffHook := none })
        (by simpa using h) (by simpa using State.calledRole_elsewhere hrole) rfl ⟨rfl, rfl, rfl, rfl⟩
    · simp [h]
  · simp [h]

@[simp] theorem State.endRoles_moves (s : State) (r : RegNo) (c : EndCause) (h : Moves a w s.scan) : Moves a w (s.endRoles r c).scan := by
  have hcalling {t : Terminal} (ht : s.callingRole r t = true) :
      Moves a w (if c = .callingClear then s.toIdle t else s.leaveCall t).scan := by
    split
    · exact State.toIdle_moves (State.callingRole_elsewhere ht) h
    · exact State.leaveCall_moves (State.callingRole_elsewhere ht) h
  have hplace {t : Terminal} (n : LineNo) (ht : s.callingRole r t = true) (hn : s.calledRole r n = true) :
      (if c = .callingClear then s.toIdle t else s.leaveCall t).scan.place (.line n) = .elsewhere := by
    have hne := State.called_ne_calling hn ht
    rw [← State.calledRole_elsewhere hn]
    split
    · exact s.toIdle_place_of_ne hne
    · exact s.leaveCall_place_of_ne hne
  unfold State.endRoles
  dsimp only
  split <;> split
  · next hrole =>
    split
    · split
      · next hcall => exact State.leaveCall_moves (hplace _ hcall hrole) (hcalling hcall)
      · exact State.leaveCall_moves (State.calledRole_elsewhere hrole) h
    · exact State.leaveCall_moves (State.calledRole_elsewhere hrole) h
  · split
    · split
      · next hcall => exact hcalling hcall
      · exact h
    · exact h
  · split
    · next hcall => exact hcalling hcall
    · exact h
  · exact h

@[simp] theorem State.release_moves (s : State) (r : RegNo) (c : EndCause) (h : Moves a w s.scan) : Moves a w (s.release r c).scan := by
  unfold State.release
  dsimp only
  split <;> simp [h]

@[simp] theorem State.endDialing_moves (s : State) (r : RegNo) (c : EndCause) (h : Moves a w s.scan) :
    Moves a w (s.endDialing r c).scan := by
  unfold State.endDialing
  simp only [State.enterEnded_frame, State.modReg_frame]
  split
  · split
    · next hrole =>
      exact State.leaveCall_moves (by simpa using State.callingRole_elsewhere hrole) (by simpa using h)
    · simpa using h
  · simpa using h

@[simp] theorem State.openAtDetachment_moves (s : State) (r : RegNo) (h : Moves a w s.scan) : Moves a w (s.openAtDetachment r).scan := by
  unfold State.openAtDetachment
  (repeat' split) <;> simp [h]

@[simp] theorem State.giveUpCalled_moves (s : State) (r : RegNo) (h : Moves a w s.scan) : Moves a w (s.giveUpCalled r).scan := by
  unfold State.giveUpCalled
  split
  · split
    · next hrole => exact State.leaveCall_moves (State.calledRole_elsewhere hrole) h
    · exact h
  · exact h

@[simp] theorem State.returnCalled_moves (s : State) (r : RegNo) (h : Moves a w s.scan) : Moves a w (s.returnCalled r).scan := by
  unfold State.returnCalled
  split
  · split
    · next hs => exact State.toIdle_moves (State.place_of_line hs.1) h
    · exact h
  · exact h

@[simp] theorem State.startRinging_moves (s : State) (r : RegNo) (x : Subscriber) (h : Moves a w s.scan) :
    Moves a w (s.startRinging r x).scan := by
  unfold State.startRinging
  dsimp only
  split
  · exact s.answerCall_moves r h
  · split
    · next hrole =>
      simpa using Moves.line _ x.line (fun l => { l with state := .termRinging, earlyOffHook := none })
        (by simpa using h) (by simpa using State.calledRole_elsewhere hrole) rfl ⟨rfl, rfl, rfl, rfl⟩
    · simpa using h

/-! ### Dialling -/

@[simp] theorem State.refuseString_moves (s : State) (r : RegNo) (x : Tone) (c : ToneCause) (k : EventKind) (h : Moves a w s.scan) :
    Moves a w (s.refuseString r x c k).scan := by
  simp [State.refuseString, h]

@[simp] theorem State.refuseVacant_moves (s : State) (r : RegNo) (h : Moves a w s.scan) : Moves a w (s.refuseVacant r).scan := by
  simp [State.refuseVacant, h]

@[simp] theorem State.completeString_moves (s : State) (r : RegNo) (h : Moves a w s.scan) : Moves a w (s.completeString r).scan := by
  simp [State.completeString, h]

@[simp] theorem State.recordRoute_scan (s : State) (r : RegNo) (t : RouteNo) : (s.recordRoute r t).scan = s.scan := by
  unfold State.recordRoute
  dsimp only
  split <;> simp

@[simp] theorem State.routeResult_moves (s : State) (r : RegNo) (t : RouteNo) (h : Moves a w s.scan) :
    Moves a w (s.routeResult r t).scan := by
  unfold State.routeResult
  dsimp only
  (repeat' split) <;> simp [h]

@[simp] theorem State.directoryDigit_moves (s : State) (r : RegNo) (h : Moves a w s.scan) : Moves a w (s.directoryDigit r).scan := by
  unfold State.directoryDigit
  dsimp only
  (repeat' split) <;> simp [h]

@[simp] theorem State.translate_moves (s : State) (r : RegNo) (d : Digit) (h : Moves a w s.scan) : Moves a w (s.translate r d).scan := by
  unfold State.translate
  dsimp only
  (repeat' split) <;> simp [h]

@[simp] theorem State.endDigit_moves (s : State) (k : ReceiverNo) (x : Attachment) (h : Moves a w s.scan) :
    Moves a w (s.endDigit k x).scan := by
  unfold State.endDigit
  dsimp only
  split <;> simp [h]

@[simp] theorem State.takeReceiver_moves (s : State) (k : ReceiverNo) (h : Moves a false s.scan) : Moves a false (s.takeReceiver k).scan := by
  unfold State.takeReceiver
  (repeat' split) <;> simp [h, h.owe]

@[simp] theorem State.digitError_scan (s : State) (r : RegNo) : (s.digitError r).scan = s.scan := by
  simp [State.digitError]

@[simp] theorem State.beginBreak_scan (s : State) (k : ReceiverNo) : (s.beginBreak k).scan = s.scan := by
  unfold State.beginBreak
  (repeat' split) <;> simp

@[simp] theorem State.endBreak_scan (s : State) (k : ReceiverNo) : (s.endBreak k).scan = s.scan := by
  unfold State.endBreak
  dsimp only
  (repeat' split) <;> simp

@[simp] theorem State.toReceiver_scan (s : State) (r : RegNo) (x : Loop) : (s.toReceiver r x).scan = s.scan := by
  unfold State.toReceiver
  split <;> simp

/-! ### Timers -/

@[simp] theorem State.dialExpiry_moves (s : State) (r : RegNo) (h : Moves a false s.scan) : Moves a false (s.dialExpiry r).scan := by
  unfold State.dialExpiry
  split <;> simp [h, h.owe]

@[simp] theorem State.endOfDialingExpiry_moves (s : State) (r : RegNo) (h : Moves a false s.scan) :
    Moves a false (s.endOfDialingExpiry r).scan := by
  unfold State.endOfDialingExpiry
  split <;> simp [h, h.owe]

@[simp] theorem State.waitExpiry_moves (s : State) (t : Terminal) (h : Moves a false s.scan) : Moves a false (s.waitExpiry t).scan := by
  unfold State.waitExpiry
  split
  · exact State.settle_moves _ (State.leaveQueue_toLockout_moves t h)
  · exact h

@[simp] theorem State.toneExpiry_moves (s : State) (r : RegNo) (h : Moves a false s.scan) : Moves a false (s.toneExpiry r).scan := by
  unfold State.toneExpiry
  split <;> simp [h, h.owe]

@[simp] theorem State.ringExpiry_moves (s : State) (r : RegNo) (h : Moves a false s.scan) : Moves a false (s.ringExpiry r).scan := by
  unfold State.ringExpiry
  split
  · refine State.settle_moves _ ?_
    simp only [State.post_frame, State.enterTone_frame]
    split
    · split
      · next hrole =>
        exact State.toIdle_moves (by simpa using State.calledRole_elsewhere hrole) (by simpa using h.owe)
      · simpa using h.owe
    · exact h.owe
  · exact h

@[simp] theorem State.calledReleaseExpiry_moves (s : State) (r : RegNo) (h : Moves a false s.scan) :
    Moves a false (s.calledReleaseExpiry r).scan := by
  unfold State.calledReleaseExpiry
  split <;> simp [h, h.owe]

@[simp] theorem State.incomingClear_moves (s : State) (i : TrunkNo) (h : Moves a false s.scan) : Moves a false (s.incomingClear i).scan := by
  unfold State.incomingClear
  dsimp only
  (repeat' split) <;> simp [h, h.owe]

@[simp] theorem State.takeExpiry_moves (s : State) (e : Expiry) (h : Moves a false s.scan) : Moves a false (s.takeExpiry e).scan := by
  cases e <;> simp [State.takeExpiry, h]

/-! ### Orders -/

@[simp] theorem State.complete_moves (s : State) (f : InFlight) (good : ElemNo → Bool) (h : Moves a w s.scan) :
    Moves a w (s.complete f good).scan := by
  unfold State.complete
  dsimp only
  split
  · (repeat' split)
    · unfold State.operateCancelled
      dsimp only
      split <;> simp [h]
    · simp [State.operateGood, h]
    · simp only [State.operateBad, State.postFault_frame, State.post_frame, State.modReg_frame]
      exact State.returnCalled_moves _ _ (by simpa using h)
    · simp only [State.operatePartly, State.postFault_frame]
      exact State.returnCalled_moves _ _ (by simpa using h)
  · unfold State.releaseDone
    dsimp only
    split <;> simp [h]
  · unfold State.networkClearDone
    split <;> simp [h]

@[simp] theorem State.takeCompletion_moves (s : State) (c : Completion) (h : Moves a false s.scan) : Moves a false (s.takeCompletion c).scan := by
  unfold State.takeCompletion
  split
  · split
    · rw [(State.takeOrder_frame _).2.1]
      exact State.settle_moves _ (State.complete_moves _ _ _ h.owe)
    · exact h
  · exact h

@[simp] theorem State.driveExpiry_moves (s : State) (h : Moves a false s.scan) : Moves a false s.driveExpiry.scan := by
  unfold State.driveExpiry
  split
  · split
    · rw [(State.takeOrder_frame _).2.1]
      refine State.settle_moves _ ?_
      rw [(State.post_frame _ _ _).2.1]
      exact State.complete_moves _ _ _ h.owe
    · exact h
  · exact h

/-! ### Accepted changes -/

@[simp] theorem State.callingLineChange_moves (s : State) (r : RegNo) (x : Loop) (h : Moves a w s.scan) :
    Moves a w (s.callingLineChange r x).scan := by
  unfold State.callingLineChange
  (repeat' split) <;> simp [h]

@[simp] theorem State.calledLineChange_scan (s : State) (r : RegNo) (x : Loop) : (s.calledLineChange r x).scan = s.scan := by
  cases x <;> simp [State.calledLineChange]

theorem State.lineChange_moves (s : State) (n : LineNo) (x : Loop) (h : Moves a false s.scan) : Moves a true (s.lineChange n x).scan := by
  unfold State.lineChange
  split
  · next hs => exact .originate _ _ h.owe (State.place_of_line hs)
  · exact State.leaveQueue_toIdle_moves _ h
  · exact State.leaveQueue_toIdle_moves _ h
  · next hs => exact State.toIdle_moves (State.place_of_line hs) h.owe
  · exact State.callingLineChange_moves _ _ _ h.owe
  · next hs => exact .line _ _ _ h.owe (State.place_of_line hs) (congrArg LineState.place hs) ⟨rfl, rfl, rfl, rfl⟩
  · exact State.answerCall_moves _ _ h.owe
  · rw [State.calledLineChange_scan]
    exact h.owe
  · exact h.owe

@[simp] theorem State.busyTrunkChange_scan (s : State) (i : TrunkNo) (r : RegNo) (x : Loop) :
    (s.busyTrunkChange i r x).scan = s.scan := by
  unfold State.busyTrunkChange
  (repeat' split) <;> simp

theorem State.trunkChange_moves (s : State) (i : TrunkNo) (x : Loop) (h : Moves a false s.scan) : Moves a true (s.trunkChange i x).scan := by
  unfold State.trunkChange
  split
  · next hs => exact .originate _ _ h.owe (State.place_of_trunk hs)
  · exact State.leaveQueue_toIdle_moves _ h
  · exact State.leaveQueue_toIdle_moves _ h
  · next hs => exact State.toIdle_moves (State.place_of_trunk hs) h.owe
  · rw [State.busyTrunkChange_scan]
    exact h.owe
  · exact h.owe

theorem State.terminalChange_moves (s : State) (t : Terminal) (x : Loop) (h : Moves a false s.scan) :
    Moves a true (s.terminalChange t x).scan := by
  cases t with
  | line n => exact s.lineChange_moves n x h
  | trunk i => exact s.trunkChange_moves i x h

theorem State.receiverFirst_moves (s : State) (t : Terminal) (h : Moves a false s.scan) : Moves a false (s.receiverFirst t).scan := by
  unfold State.receiverFirst
  split <;> simp [h]

@[simp] theorem State.trunkAnswerChange_moves (s : State) (o : OutNo) (b : Bool) (h : Moves a w s.scan) :
    Moves a w (s.trunkAnswerChange o b).scan := by
  unfold State.trunkAnswerChange
  (repeat' split) <;> simp [h]

end Sys2Proof.Machine
end

section
/-! SUPPORT. The law of the queue (R30, R31) over every effect and the millisecond. -/

namespace Sys2Proof.Machine

variable {s : State}

/-! ### Moves of a whole state -/

theorem Scanner.Queued.of_moves {t : State} {w : Bool} (h : s.scan.Queued false) (hm : Moves s.scan w t.scan) : t.scan.Queued w := hm.queued h

theorem Scanner.Queued.settle {w : Bool} (h : s.scan.Queued w) : s.settle.scan.Queued false :=
  (State.serve_moves 12 s.promote .refl).queued (State.promote_queued h)

theorem Scanner.Queued.of_scan {t : State} {w : Bool} (h : s.scan.Queued w) (hs : t.scan = s.scan) : t.scan.Queued w := hs ▸ h

/-! ### The scan phase -/

theorem State.advanceTimes_place (s : State) : s.advanceTimes.scan.place = s.scan.place := by
  funext t
  cases t <;> simp [State.advanceTimes, Scanner.place]

theorem State.takeSamples_place (s : State) (x : SampleSet) : (s.takeSamples x).scan.place = s.scan.place := by
  funext t
  cases t <;> simp [State.takeSamples, Scanner.place]

theorem State.advanceTimes_lists (s : State) :
    s.advanceTimes.scan.queue = s.scan.queue ∧ s.advanceTimes.scan.deferred = s.scan.deferred := by
  unfold State.advanceTimes
  exact ⟨rfl, rfl⟩

theorem State.takeSamples_lists (s : State) (x : SampleSet) :
    (s.takeSamples x).scan.queue = s.scan.queue ∧ (s.takeSamples x).scan.deferred = s.scan.deferred := by
  unfold State.takeSamples
  exact ⟨rfl, rfl⟩

theorem Scanner.Queued.sampled (h : s.scan.Queued false) (x : SampleSet) : (s.advanceTimes.takeSamples x).scan.Queued false := by
  obtain ⟨hqueue, hdeferred⟩ := s.advanceTimes.takeSamples_lists x
  obtain ⟨hqueue', hdeferred'⟩ := s.advanceTimes_lists
  unfold Scanner.Queued
  rwa [State.takeSamples_place, State.advanceTimes_place, hqueue, hdeferred, hqueue', hdeferred']

theorem Scanner.Queued.acceptLoop (h : s.scan.Queued false) (t : Terminal) : (s.acceptLoop t).scan.Queued false := by
  cases t with
  | line n => exact h.modLine rfl
  | trunk i => exact h.modTrunk rfl

theorem Scanner.Queued.takeChange (h : s.scan.Queued false) (t : Terminal) : (s.takeChange t).scan.Queued false := by
  unfold State.takeChange
  split
  · have hu := (s.receiverFirst_moves t .refl).queued h
    exact ((State.terminalChange_moves _ t _ .refl).queued (hu.acceptLoop t)).settle
  · exact h

theorem Scanner.Queued.takeAnswerChange (h : s.scan.Queued false) (o : OutNo) : (s.takeAnswerChange o).scan.Queued false := by
  unfold State.takeAnswerChange
  split
  · refine Scanner.Queued.settle (w := false) ((State.trunkAnswerChange_moves _ o _ .refl).queued ?_)
    exact h.congr fun t => by cases t <;> rfl
  · exact h

theorem Scanner.Queued.takeItem (h : s.scan.Queued false) (x : ScanItem) : (s.takeItem x).scan.Queued false := by
  cases x with
  | expiry e => exact (s.takeExpiry_moves e .refl).queued h
  | receiver k => exact (s.takeReceiver_moves k .refl).queued h
  | change t => exact h.takeChange t
  | answerChange o => exact h.takeAnswerChange o

theorem QueueLaw.takeRest (h : QueueLaw s) : QueueLaw s.takeRest := by
  have hreceiver (t : State) (k : ReceiverNo) (h : QueueLaw t) : QueueLaw (t.takeReceiver k) :=
    (queueLaw_iff _).2 (((queueLaw_iff t).1 h).of_moves (t.takeReceiver_moves k .refl))
  have hchange (t : State) (y : Terminal) (h : QueueLaw t) : QueueLaw (t.takeChange y) :=
    (queueLaw_iff _).2 (((queueLaw_iff t).1 h).takeChange y)
  have hanswer (t : State) (o : OutNo) (h : QueueLaw t) : QueueLaw (t.takeAnswerChange o) :=
    (queueLaw_iff _).2 (((queueLaw_iff t).1 h).takeAnswerChange o)
  unfold State.takeRest
  exact foldl_keeps _ QueueLaw hanswer _ _ (foldl_keeps _ QueueLaw (fun t i => hchange t (.trunk i)) _ _
    (foldl_keeps _ QueueLaw (fun t n => hchange t (.line n)) _ _ (foldl_keeps _ QueueLaw hreceiver _ _ h)))

theorem QueueLaw.scanPhase (h : QueueLaw s) (x : SampleSet) (l : List ScanItem) : QueueLaw (s.scanPhase x l) := by
  refine QueueLaw.takeRest (foldl_keeps _ QueueLaw (fun t i h => ?_) _ _ ?_)
  · exact (queueLaw_iff _).2 (((queueLaw_iff t).1 h).takeItem i)
  · exact (queueLaw_iff _).2 (((queueLaw_iff s).1 h).sampled x)

/-! ### Restarts -/

/-- No terminal waits and none is queued. -/
theorem Scanner.queued_empty {c : Scanner} (hq : c.queue = []) (hd : c.deferred = []) (hp : ∀ t, c.place t = .elsewhere) :
    c.Queued false := by
  refine ⟨by simp [hq], by simp [hq], ⟨[], [], hq, nofun, nofun⟩, fun t => ?_, fun t => ?_, hd ▸ List.Pairwise.nil, fun h => absurd hd h⟩
  · simp [hp, hq]
  · simp [hp, hd]

theorem State.coldStart_queued (s : State) (cause : RestartCause) (tag : BitVec 8) : (s.coldStart cause tag).scan.Queued false := by
  have hscan : (s.coldStart cause tag).scan = Scanner.cold := by
    unfold State.coldStart
    simp only [State.takeOrder_frame]
  rw [hscan]
  refine Scanner.queued_empty rfl rfl fun t => ?_
  cases t <;> simp [Scanner.place, Scanner.cold, LineRec.cold, TrunkRec.cold, LineState.place, TrunkState.place]

/-- A terminal of a call in TALK stands in no queue. -/
theorem State.inTalk_elsewhere {s : State} {t : Terminal} (h : s.inTalk t = true) : s.scan.place t = .elsewhere := by
  unfold State.inTalk at h
  split at h
  · cases h
  · rw [Bool.and_eq_true, Bool.or_eq_true] at h
    obtain ⟨-, hcalling | hcalled⟩ := h
    · exact State.callingRole_elsewhere hcalling
    · cases t with
      | line n => exact State.calledRole_elsewhere hcalled
      | trunk i => cases hcalled

theorem LineRec.restarted_place (l : LineRec) (kept : Bool) (h : kept = true → l.state.place = .elsewhere) :
    (l.restarted kept).state.place = .elsewhere := by
  unfold LineRec.restarted
  split
  · next hk =>
    rw [Bool.or_eq_true, decide_eq_true_eq] at hk
    rcases hk with hs | hk
    · rw [hs]
      rfl
    · exact h hk
  · cases l.accepted <;> rfl

theorem TrunkRec.restarted_place (k : TrunkRec) (kept : Bool) (h : kept = true → k.state.place = .elsewhere) :
    (k.restarted kept).state.place = .elsewhere := by
  unfold TrunkRec.restarted
  split
  · next hk =>
    rw [Bool.or_eq_true, decide_eq_true_eq] at hk
    rcases hk with hs | hk
    · rw [hs]
      rfl
    · exact h hk
  · cases k.accepted <;> rfl

/-- The terminals and the lists after a warm restart (R39). -/
theorem State.restartTerminals_scan (s : State) : s.restartTerminals.scan = { s.scan with
    lines := tmap (fun n l => l.restarted (s.inTalk (.line n))) s.scan.lines
    trunks := tmap (fun i k => k.restarted (s.inTalk (.trunk i))) s.scan.trunks
    queue := []
    deferred := [] } := by
  unfold State.restartTerminals
  dsimp only
  split <;> simp

theorem State.restartTerminals_queued (s : State) : s.restartTerminals.scan.Queued false := by
  rw [State.restartTerminals_scan]
  refine Scanner.queued_empty rfl rfl fun t => ?_
  cases t with
  | line n =>
    simp only [Scanner.place, tget_tmap]
    exact LineRec.restarted_place _ _ State.inTalk_elsewhere
  | trunk i =>
    simp only [Scanner.place, tget_tmap]
    exact TrunkRec.restarted_place _ _ State.inTalk_elsewhere

theorem State.regenerate_scan (s : State) (r : RegNo) : (s.regenerate r).scan = s.scan := by
  unfold State.regenerate
  dsimp only
  (repeat' split) <;> simp

theorem State.silence_scan (s : State) : s.silence.scan = s.scan := by
  unfold State.silence
  rw [foldl_same _ State.scan fun _ _ => by simp, foldl_same _ State.scan fun _ _ => by simp [State.silenceLine]]

theorem State.warmRestart_queued (s : State) (cause : RestartCause) : (s.warmRestart cause).scan.Queued false := by
  unfold State.warmRestart State.restartBlocks
  refine Scanner.Queued.of_scan (Scanner.Queued.settle (w := false) ?_) (State.takeOrder_frame _).2.1
  rw [(State.post_frame _ _ _).2.1, State.silence_scan, foldl_same _ State.scan State.regenerate_scan]
  exact State.restartTerminals_queued _

theorem State.takeLevels_scan (s : State) (l : LineLevels) : (s.takeLevels l).scan = s.scan := rfl

/-! ### Commands -/

theorem acting_moves {a : Scanner} {x : Side} {b : Byte} {s : State} {body : RegNo → State × Response} (hs : Moves a false s.scan)
    (h : ∀ r, Moves a false (body r).1.scan) : Moves a false (acting x b s body).1.scan := by
  unfold acting
  split
  · exact hs
  · split
    · exact hs
    · split
      · exact h _
      · exact hs

theorem State.takePath_moves {a : Scanner} {s : State} (r : RegNo) (f : Found) (fromLine : Bool) (h : Moves a false s.scan) :
    Moves a false (s.takePath r f none fromLine).scan ∧
      ∀ n, (s.line n).state = .idle → Moves a false (s.takePath r f (some n) fromLine).scan := by
  refine ⟨?_, fun n hn => ?_⟩
  · cases fromLine <;> simpa [State.takePath] using h
  · have hm : Moves a false ((s.setElems f.path.elements .reserved).modLine n fun l =>
        { l with state := .termReserved, register := some r, earlyOffHook := some false }).scan :=
      .line _ n _ (by simpa using h) (by simpa [LineState.place] using State.place_of_line hn) rfl ⟨rfl, rfl, rfl, rfl⟩
    cases fromLine <;> simpa [State.takePath] using hm

theorem hunt_moves {a : Scanner} {s : State} (r : RegNo) (h : Moves a false s.scan) : Moves a false (s.hunt r).1.scan := by
  have hnone (x : Except NoPath Found) (b : Bool) : Moves a false (s.huntOutcome r x none b).1.scan := by
    cases x with
    | ok f => exact (State.takePath_moves r f b h).1
    | error e => exact h
  have hsome (x : Except NoPath Found) (b : Bool) (n : LineNo) (hn : (s.line n).state = .idle) :
      Moves a false (s.huntOutcome r x (some n) b).1.scan := by
    cases x with
    | ok f => exact (State.takePath_moves r f b h).2 n hn
    | error e => exact h
  unfold State.hunt
  split
  · split
    · exact h
    · next hn => exact hsome _ _ _ (not_not.1 hn)
  · exact hnone _ _
  · split
    · exact h
    · next hn => exact hsome _ _ _ (not_not.1 hn)
  · exact h

/-- R34: Write Line changes the class of a line alone, or puts a terminal into service. -/
theorem writeLine_queued (k : Byte) (n : Half) (c : Byte) (x : Side) (h : s.scan.Queued false) : (writeLine k n c x s).1.scan.Queued false := by
  have hclass (n : LineNo) (c : LineClass) : (s.modLine n fun l => { l with cls := c }).scan.Queued false := h.modLine rfl
  unfold writeLine
  split
  · split
    · next hs =>
      split
      · exact h
      · refine Moves.queued (State.leaveCall_moves ?_ .refl) (hclass _ _)
        exact (congrFun (s.modLine_place _ _) _).trans ((if_pos rfl).trans (State.place_of_line (x := .outOfService) hs))
    · split
      · exact h
      · exact hclass _ _
    · split
      · exact h
      · exact hclass _ _
    · exact h
  · split
    · next hs => exact (State.leaveCall_moves (State.place_of_trunk (x := .outOfService) hs) .refl).queued h
    · exact h
    · exact h
    · exact h
  · exact h

theorem State.takeOut_moves {a : Scanner} {s : State} (t : Terminal) (ht : s.scan.place t = .elsewhere) (h : Moves a false s.scan) :
    Moves a false (s.takeOut t).scan := by
  cases t with
  | line n => exact .line _ _ _ h ht rfl ⟨rfl, rfl, rfl, rfl⟩
  | trunk i => exact .trunk _ _ _ h ht rfl ⟨rfl, rfl⟩

theorem State.leaveQueue_takeOut_moves {a : Scanner} {s : State} (t : Terminal) (h : Moves a false s.scan) :
    Moves a true ((s.leaveQueue t).takeOut t).scan := by
  cases t with
  | line n => exact .leaveLine s n _ h rfl
  | trunk i => exact .leaveTrunk s i _ h rfl

/-- R35: a deferred terminal that is taken out leaves no place of the queue. -/
theorem Scanner.Queued.takeOutDeferred (h : s.scan.Queued false) {t : Terminal} (ht : s.scan.place t = .deferred) :
    ((s.leaveQueue t).takeOut t).scan.Queued false := by
  have hplace : ((s.leaveQueue t).takeOut t).scan.place = placeAt s.scan.place t .elsewhere := by
    cases t with
    | line n => rw [State.takeOut, State.modLine_place, State.leaveQueue_place]; rfl
    | trunk i => rw [State.takeOut, State.modTrunk_place, State.leaveQueue_place]; rfl
  have hleave := h.leaveDeferred ht
  rw [Scanner.Queued, hplace]
  cases t <;> exact hleave

theorem removeLine_queued (k : Byte) (n : Half) (x : Side) (h : s.scan.Queued false) : (removeLine k n x s).1.scan.Queued false := by
  have hout (t : Terminal) (ht : s.scan.place t = .elsewhere) : (s.takeOut t).scan.Queued false := (State.takeOut_moves t ht .refl).queued h
  have hwaiting (t : Terminal) : ((s.leaveQueue t).takeOut t).settle.scan.Queued false :=
    (State.settle_moves _ (State.leaveQueue_takeOut_moves t .refl)).queued h
  unfold removeLine
  split
  · exact h
  · split
    · exact h
    · next hs => exact hout _ (State.place_of_line (x := .idle) hs)
    · next hs => exact hout _ (State.place_of_line (x := .lockout) hs)
    · exact hwaiting _
    · next hs => exact h.takeOutDeferred (State.place_of_line (x := .deferred) hs)
    · exact h
  · split
    · exact h
    · next hs => exact hout _ (State.place_of_trunk (x := .idle) hs)
    · next hs => exact hout _ (State.place_of_trunk (x := .lockout) hs)
    · exact hwaiting _
    · next hs => exact h.takeOutDeferred (State.place_of_trunk (x := .deferred) hs)
    · exact h

/-! ### Every step -/

/-- The rows that do more to the Line Scanner than move terminals. -/
def resetsTerminals : Instr → Bool
  | .writeLine _ _ _ _ | .removeLine _ _ _ | .scanSampleSet _ _ | .initialise _ | .restart _ | .powerUp _ _ | .restartLineAsserted => true
  | _ => false

theorem State.finish_moves {a : Scanner} (s : State) (x : Side) (j : Subject) (h : Moves a false s.scan) :
    Moves a false (s.finish x j).scan := by
  unfold State.finish
  dsimp only
  (repeat' split) <;> simp [h, h.owe]

theorem State.handlingExpiry_scan (s : State) (j : Subject) : (s.handlingExpiry j).scan = s.scan := by
  unfold State.handlingExpiry
  dsimp only
  (repeat' split) <;> simp

theorem State.portReset_scan (s : State) (p : Port) : (s.portReset p).scan = s.scan := by
  cases p <;> simp [State.portReset, State.resetController]

theorem State.stepContext_scan (s : State) (r : RegNo) : (s.stepContext r).scan = s.scan := by
  unfold State.stepContext
  dsimp only
  (repeat' split) <;> simp [State.expirePeriod]

/-- Every other effect moves terminals, with no place of the queue left owed. -/
theorem effect_moves {c : Instr} (hc : resetsTerminals c = false) (x : Side) (s : State) : Moves s.scan false (effect c x s).scan := by
  have h0 : Moves s.scan false s.scan := .refl
  have h1 := h0.owe
  cases c <;> simp only [resetsTerminals, Bool.true_eq_false] at hc <;> simp only [effect]
  case ring =>
    unfold ringCall
    refine acting_moves h0 fun r => ?_
    (repeat' split) <;> simp [doneWith, refuse, h0]
  case giveTone =>
    unfold giveTone
    split
    · exact h0
    · refine acting_moves h0 fun r => ?_
      split <;> simp [doneWith, refuse, h0]
  case releaseCall =>
    unfold releaseCall
    refine acting_moves h0 fun r => ?_
    split <;> simp [doneWith, refuse, h0, h1]
  case huntPath =>
    unfold huntPath
    refine acting_moves h0 fun r => ?_
    (repeat' split) <;> simp [refuse, h0, hunt_moves]
  case send =>
    unfold sendCall
    refine acting_moves h0 fun r => ?_
    dsimp only
    (repeat' split) <;> simp [doneWith, refuse, h0, State.startSending]
  case meteringStepBoundary =>
    show Moves s.scan false ((List.finRange 40).foldl State.stepContext s).scan
    rw [foldl_same _ State.scan State.stepContext_scan]
    exact h0
  case queueHeadService => exact .serve s h0
  case handlingLimitExpiry =>
    rw [State.handlingExpiry_scan]
    exact h0
  case linkResetAsserted =>
    split
    · exact h0
    · rw [State.portReset_scan]
      exact h0
  case done =>
    unfold doneSubject
    (repeat' split) <;> simp [doneWith, refuse, h0, State.finish_moves]
  case periodExpiry =>
    split
    · simpa [State.expirePeriod] using h0
    · exact h0
  case blockReceiver | unblockReceiver | writeNodeSlot | writeRoute | writeDirectory | clearTranslations | setIncomingRoot |
      seizeElement | returnElement | assignTrunkGroup | blockSender | unblockSender | writeTariffCell | applyTariffs | selectBand |
      setClock | removeTicket | setDirectoryDigit | takeEvent | setAttention | fenceOther | admitOther | adjustMeter | presetMeter |
      takeSnapshot | releaseSnapshot | sweepReachesMeter | sweepCompletion =>
    simp only [blockReceiver, unblockReceiver, writeNodeSlot, writeRoute, writeDirectory, clearTranslations, setIncomingRoot,
      seizeElement, returnElement, assignTrunkGroup, blockSender, unblockSender, writeTariffCell, applyTariffs, selectBand, setClock,
      removeTicket, setDirectoryDigit, takeEvent, setAttention, fenceOther, admitOther, adjustMeter, presetMeter, takeSnapshot,
      releaseSnapshot, State.sweepStep, State.sweepDone, State.sweepRest, State.presetTo]
    (repeat' split) <;> simp [doneWith, refuse, h0, h1]
  all_goals (repeat' split) <;> simp [h0, h1]

theorem queueLaw_effect (c : Instr) (x : Side) (h : s.scan.Queued false) : (effect c x s).scan.Queued false := by
  by_cases hc : resetsTerminals c = false
  · exact (effect_moves hc x s).queued h
  cases c <;> simp only [resetsTerminals, not_true] at hc <;> simp only [effect]
  case writeLine => exact writeLine_queued _ _ _ _ h
  case removeLine => exact removeLine_queued _ _ _ h
  case scanSampleSet => exact (queueLaw_iff _).1 (((queueLaw_iff s).2 h).scanPhase _ _)
  case initialise =>
    unfold initialise
    split
    · exact h
    · dsimp only [doneWith]
      exact State.coldStart_queued s .initialise s.orders.tag
  case restart =>
    dsimp only [doneWith]
    exact s.warmRestart_queued .restartCommand
  case powerUp retained levels =>
    rw [State.takeLevels_scan]
    cases retained
    · exact s.coldStart_queued .powerUp 0
    · rw [if_pos rfl]
      exact s.warmRestart_queued .powerUp
  case restartLineAsserted =>
    split
    · exact h
    · exact State.warmRestart_queued _ .restartLine

theorem millisecond_scan (s : State) : s.takeOrder.passMillisecond.scan = s.scan := by
  simp [State.passMillisecond]

/-- Settles O23: R30 and R31 over every effect and the millisecond. -/
theorem queueLawIsKept : Obligations.QueueLawIsKept := by
  intro s t hs h
  rw [queueLaw_iff] at hs ⊢
  refine step_keeps (P := fun u => u.scan.Queued false) (fun _ _ h => h) (fun _ _ h => h)
    (fun c x _ _ h => queueLaw_effect c x h) (fun u hu => ?_) hs h
  rwa [millisecond_scan]

end Sys2Proof.Machine
end

section
/-! SUPPORT. The laws at the reset state and the step itself (R186; log entries 2 and 3). -/

namespace Sys2Proof.Machine

/-- Settles O60: at reset nothing is queued, bound or fenced, every meter is 0 and so is the clock. -/
theorem lawsHoldAfterReset : Obligations.LawsHoldAfterReset := by
  refine ⟨.cold .powerUp none (.cold, .powerUp) _ rfl, .cold .powerUp none (.cold, .powerUp) _ rfl, (queueLaw_iff _).2 ?_, fun i => ?_,
    ⟨by decide, by decide⟩, rfl⟩
  · refine Scanner.queued_empty rfl rfl fun t => ?_
    cases t <;> simp [Scanner.place, State.reset, Scanner.cold, LineRec.cold, TrunkRec.cold, LineState.place, TrunkState.place]
  · simp [State.reset, MeterStore.cold]

/-! ### The millisecond -/

theorem millisecond_sender (s : State) (k : SenderNo) : s.takeOrder.passMillisecond.sender k = (s.sender k).pass := by
  simp [State.sender, State.passMillisecond]

theorem millisecond_orders (s : State) :
    s.takeOrder.passMillisecond.orders = { s.takeOrder.orders with inFlight := s.takeOrder.orders.inFlight.map InFlight.pass } := rfl

theorem millisecond_frame (s : State) : s.takeOrder.passMillisecond = { s.takeOrder with
    sig := { s.sig with senders := s.takeOrder.passMillisecond.sig.senders }
    att := { s.att with subjects := s.takeOrder.passMillisecond.att.subjects }
    orders := s.takeOrder.passMillisecond.orders
    store := { s.store with snapshot := s.takeOrder.passMillisecond.store.snapshot } } := by
  simp [State.passMillisecond]

theorem step_of_no_command {s : State} (h : s.pending = []) : step s = .next s.takeOrder.passMillisecond := by
  unfold step
  rw [h]

/-- Settles O1: the front command is taken by `exec`; with none waiting the four kinds of time pass. -/
theorem stepTakesTheFrontCommand : Obligations.StepTakesTheFrontCommand := by
  refine ⟨fun c rest s => rfl, fun s hs => ⟨s.takeOrder, s.takeOrder.passMillisecond, rfl, step_of_no_command hs, fun k b hk => ?_,
    fun k hk => ?_, millisecond_subject s, millisecond_orders s, fun position time hp => ?_, fun hp => ?_, millisecond_frame s⟩⟩
  · rw [millisecond_sender, hk]
    rfl
  · rw [millisecond_sender]
    rcases hk with hk | hk <;> rw [hk] <;> rfl
  · rw [millisecond_store, hp]
    rfl
  · rw [millisecond_store]
    cases hsnap : s.store.snapshot with
    | sweeping position time => exact absurd ⟨position, time, hsnap⟩ hp
    | idle => exact congrArg (fun x => { s.store with snapshot := x }) hsnap.symm
    | ready => exact congrArg (fun x => { s.store with snapshot := x }) hsnap.symm

end Sys2Proof.Machine
end

section
/-! SUPPORT. Frames and commands (R191, 11.5, 11.6): the two-byte and three-byte operands, the check byte, and the command summary read in
both directions. -/

namespace Sys2Proof.Machine

/-! ### Operands of two and three bytes (11.6) -/

@[simp] theorem halfOf_bytes (h : Half) : halfOf (hiByte h) (loByte h) = h := by
  unfold halfOf hiByte loByte
  rw [BitVec.extractLsb'_append_extractLsb'_eq_extractLsb' (by norm_num)]
  simp

/-- The bits of a two-byte operand. -/
theorem halfOf_getLsbD (a b : Byte) (i : Nat) : (halfOf a b).getLsbD i = if i < 8 then b.getLsbD i else a.getLsbD (i - 8) :=
  BitVec.getLsbD_append

@[simp] theorem halfBytes_halfOf (a b : Byte) : halfBytes (halfOf a b) = [a, b] := by
  have hhi : hiByte (halfOf a b) = a := by
    ext i hi
    simp [hiByte, halfOf_getLsbD, BitVec.getLsbD_eq_getElem hi]
  have hlo : loByte (halfOf a b) = b := by
    ext i hi
    simp [loByte, halfOf_getLsbD, hi]
  rw [halfBytes, hhi, hlo]

/-- The bits of a three-byte operand. -/
theorem tripleOf_getLsbD (a b c : Byte) (i : Nat) :
    (tripleOf a b c).getLsbD i = if i < 8 then c.getLsbD i else if i - 8 < 8 then b.getLsbD (i - 8) else a.getLsbD (i - 8 - 8) :=
  BitVec.getLsbD_append.trans (congrArg (ite (i < 8) (c.getLsbD i)) BitVec.getLsbD_append)

@[simp] theorem tripleOf_bytes (t : Triple) :
    tripleOf (t.extractLsb' 16 8) (t.extractLsb' 8 8) (t.extractLsb' 0 8) = t := by
  unfold tripleOf
  rw [BitVec.extractLsb'_append_extractLsb'_eq_extractLsb' (by norm_num),
    BitVec.extractLsb'_append_extractLsb'_eq_extractLsb' (by norm_num)]
  simp

@[simp] theorem tripleBytes_tripleOf (a b c : Byte) : tripleBytes (tripleOf a b c) = [a, b, c] := by
  have hhi : (tripleOf a b c).extractLsb' 16 8 = a := by
    ext i hi
    rw [BitVec.getElem_extractLsb', tripleOf_getLsbD, if_neg (by omega), if_neg (by omega), BitVec.getLsbD_eq_getElem (by omega)]
    congr 1
    omega
  have hmid : (tripleOf a b c).extractLsb' 8 8 = b := by
    ext i hi
    rw [BitVec.getElem_extractLsb', tripleOf_getLsbD, if_neg (by omega), if_pos (by omega), BitVec.getLsbD_eq_getElem (by omega)]
    congr 1
    omega
  have hlo : (tripleOf a b c).extractLsb' 0 8 = c := by
    ext i hi
    rw [BitVec.getElem_extractLsb', tripleOf_getLsbD, if_pos (by omega), BitVec.getLsbD_eq_getElem (by omega)]
    congr 1
    omega
  rw [tripleBytes, hhi, hmid, hlo]

/-! ### The check byte (R191, R192) -/

theorem checkByte_eq (bs : List Byte) : checkByte bs = 255 - byteSum bs := rfl

/-- A run of bytes with its check byte sums to 255. -/
theorem byteSum_concat (bs : List Byte) (x : Byte) : byteSum (bs ++ [x]) = byteSum bs + x := by
  simp [byteSum]

theorem byteSum_checked (bs : List Byte) : byteSum (bs ++ [checkByte bs]) = 255 := by
  rw [byteSum_concat, checkByte_eq]
  generalize byteSum bs = n
  bv_omega

/-- A run of bytes that sums to 255 ends in its check byte. -/
theorem byteSum_eq_iff (bs : List Byte) (x : Byte) : byteSum (bs ++ [x]) = 255 ↔ x = checkByte bs := by
  rw [byteSum_concat, checkByte_eq]
  generalize byteSum bs = n
  constructor <;> intro h <;> bv_omega

/-! ### The command summary (11.5) -/

/-- Each command's code is that of the summary, and its code and operand bytes name it. -/
theorem commandOf_commandParts {c : Instr} {p : Port} {code : Nat} {operands : List Byte}
    (h : commandParts c = some (p, code, operands)) :
    commandOf p code operands = some c ∧ 1 ≤ code ∧ code ≤ 54 ∧ operands.length ≤ 14 := by
  cases c <;> simp only [commandParts, Option.some.injEq, Prod.mk.injEq, reduceCtorEq] at h <;>
    obtain ⟨rfl, rfl, rfl⟩ := h <;>
    simp [commandOf, command0, command1, command2, command3, command4, command5, command6, halfBytes, tripleBytes, RouteBytes.bytes]

/-- A code and operand bytes that name a command are its own. -/
theorem commandParts_commandOf {c : Instr} {p : Port} {code : Nat} {operands : List Byte} (h : commandOf p code operands = some c) :
    commandParts c = some (p, code, operands) := by
  unfold commandOf at h
  split at h
  case h_8 =>
    split at h
    · next hcode =>
      obtain rfl := Option.some.inj h
      rw [hcode]
      rfl
    · cases h
  case h_9 => cases h
  case h_6 =>
    unfold command5 at h
    split at h
    · next hcode =>
      obtain rfl := Option.some.inj h
      simp [commandParts, hcode]
    · cases h
  all_goals
    simp only [command0, command1, command2, command3, command4, command6] at h
    split at h <;> simp only [Option.some.injEq, reduceCtorEq] at h <;> subst h <;> simp [commandParts]

/-! ### Frames (R191) -/

/-- A frame of whole length with the right check byte is judged by its code and operands. -/
theorem decodeFrame_checked (p : Port) (code : Byte) (operands : List Byte) (h : operands.length ≤ 14) :
    decodeFrame p (code :: operands ++ [checkByte (code :: operands)]) = judgeCode p code operands := by
  have hlength : ¬((code :: operands ++ [checkByte (code :: operands)]).length < 2 ∨
      16 < (code :: operands ++ [checkByte (code :: operands)]).length) := by
    simp only [List.length_append, List.length_cons, List.length_nil]
    omega
  unfold decodeFrame
  rw [if_neg hlength, List.dropLast_concat, List.getLast?_concat, if_neg (not_not.2 rfl)]

/-- A code within the summary is judged by the command summary. -/
theorem judgeCode_known {p : Port} {code : Byte} (operands : List Byte) (h : 1 ≤ code.toNat ∧ code.toNat ≤ 54) :
    judgeCode p code operands = (commandOf p code.toNat operands).getD (.badFrame p) :=
  if_neg (by omega)

/-- The frame of a command is its code, its operand bytes and the check byte. -/
theorem frameOf_eq_some {c : Instr} {p : Port} {bytes : List Byte} (h : frameOf c = some (p, bytes)) :
    ∃ code operands, commandParts c = some (p, code, operands) ∧ bytes = frameBytes code operands := by
  unfold frameOf at h
  obtain ⟨⟨q, code, operands⟩, hparts, heq⟩ := Option.map_eq_some_iff.1 h
  obtain ⟨rfl, rfl⟩ := Prod.mk.inj heq
  exact ⟨code, operands, hparts, rfl⟩

/-- Settles O2. -/
theorem everyCommandFrameReadsBack : Obligations.EveryCommandFrameReadsBack := by
  intro c p bytes h
  obtain ⟨code, operands, hparts, rfl⟩ := frameOf_eq_some h
  obtain ⟨hcommand, hmin, hmax, hlength⟩ := commandOf_commandParts hparts
  have hcode : (BitVec.ofNat 8 code).toNat = code := by
    rw [BitVec.toNat_ofNat]
    omega
  refine ⟨?_, ?_, ?_, byteSum_checked _⟩
  · rw [frameBytes, decodeFrame_checked p _ operands hlength, judgeCode_known operands (by omega), hcode, hcommand]
    rfl
  · simp [frameBytes]
  · simp only [frameBytes, List.length_append, List.length_cons, List.length_nil]
    omega

theorem getLast_eq_check_iff (bytes : List Byte) (h : bytes ≠ []) :
    bytes.getLast? = some (checkByte bytes.dropLast) ↔ byteSum bytes = 255 := by
  obtain ⟨bs, x, rfl⟩ := List.eq_nil_or_concat bytes |>.resolve_left h
  rw [List.concat_eq_append, List.getLast?_concat, List.dropLast_concat, Option.some.injEq, byteSum_eq_iff]

/-- Settles O3: the checks in their order, and the summary read back. -/
theorem framesAreJudgedInOrder : Obligations.FramesAreJudgedInOrder := by
  intro p bytes
  refine ⟨fun h => if_pos h, fun h => ?_, fun code operands check hbytes hlength hsum => ?_⟩
  · unfold decodeFrame
    split
    · rfl
    · next hlength =>
      have hne : bytes ≠ [] := fun hnil => hlength (by simp [hnil])
      rw [if_pos fun hlast => h ((getLast_eq_check_iff bytes hne).1 hlast)]
  · subst hbytes
    obtain rfl := (byteSum_eq_iff (code :: operands) check).1 hsum
    have hoperands : operands.length ≤ 14 := by
      simp only [List.length_append, List.length_cons, List.length_nil] at hlength
      omega
    rw [decodeFrame_checked p code operands hoperands]
    refine ⟨fun h => if_pos h, fun h => ?_⟩
    rw [judgeCode_known operands h]
    cases hc : commandOf p code.toNat operands with
    | none => exact .inl rfl
    | some c =>
      refine .inr ?_
      rw [Option.getD_some, frameOf, commandParts_commandOf hc]
      simp [frameBytes]

end Sys2Proof.Machine
end

section
/-! SUPPORT. The rows of a link port: an end mark that is not heard (R189, log entry 10), the gate (R191), the marks and the port reset
(R188, R193). -/

namespace Sys2Proof.Machine

/-- Two states with the same fields are equal. -/
theorem State.eq_of_fields {s t : State} (regs : t.regs = s.regs) (scan : t.scan = s.scan) (receivers : t.receivers = s.receivers)
    (trans : t.trans = s.trans) (net : t.net = s.net) (orders : t.orders = s.orders) (sig : t.sig = s.sig)
    (tariff : t.tariff = s.tariff) (store : t.store = s.store) (tickets : t.tickets = s.tickets) (att : t.att = s.att)
    (links : t.links = s.links) (restartLine : t.restartLine = s.restartLine) (draws : t.draws = s.draws)
    (pending : t.pending = s.pending) : t = s := by
  cases s
  cases t
  simp_all only

/-! ### End marks that are not heard -/

/-- R189: a frame that ends while a response is being sent is dropped. -/
theorem State.unheard_answering {s : State} {p : Port} {c : Instr} {bytes : List Byte} {f : Frame}
    (h : (s.link p).phase = .answering bytes (some f)) (hc : f.judged p = c) :
    s.listens p c = false ∧ s.unheard p c = s.setPhase p (.answering bytes none) := by
  simp [State.listens, State.unheard, State.dropFrame, h, hc]

/-- Log entry 10: outside its own frame a row is nothing. -/
theorem State.unheard_same {s : State} {p : Port} {c : Instr}
    (h : ∀ bytes f, (s.link p).phase = .answering bytes (some f) → f.judged p ≠ c) : s.unheard p c = s := by
  unfold State.unheard
  split
  · next hp => exact if_neg (h _ _ hp)
  · rfl

theorem State.refuseFrame_listens {s : State} {p : Port} {c : Instr} {x : Status} (h : s.listens p c = true) :
    s.refuseFrame c p x = s.answer p (.of x) := if_pos h

theorem State.refuseFrame_unheard {s : State} {p : Port} {c : Instr} {x : Status} (h : s.listens p c = false) :
    s.refuseFrame c p x = s.unheard p c := if_neg (Bool.eq_false_iff.1 h)

theorem State.command_unheard {s : State} {p : Port} {c : Instr} {m : Permission} {body : State → State × Response}
    (h : s.listens p c = false) : s.command c p m body = s.unheard p c := if_neg (Bool.eq_false_iff.1 h)

/-! ### Responses (R192) -/

theorem State.answer_responseOn (s : State) (p : Port) (r : Response) : (s.answer p r).responseOn p = some r.bytes := by
  simp [State.responseOn]

/-- Settles O4. -/
theorem illFormedFramesAndResponsesAreSent : Obligations.IllFormedFramesAndResponsesAreSent := by
  have hjudged (p : Port) (s : State) (c : Instr) (x : Status) (hexec : exec c s = .next (s.refuseFrame c p x)) :
      (s.listens p c = true → exec c s = .next (s.answer p ⟨x, []⟩)) ∧
      (∀ bytes f, (s.link p).phase = .answering bytes (some f) → f.judged p = c →
        exec c s = .next (s.setPhase p (.answering bytes none))) ∧
      (s.listens p c = false → (∀ bytes f, (s.link p).phase = .answering bytes (some f) → f.judged p ≠ c) →
        exec c s = .next s) := by
    refine ⟨fun hl => ?_, fun bytes f hp hf => ?_, fun hl hf => ?_⟩
    · rw [hexec, State.refuseFrame_listens hl]
      rfl
    · obtain ⟨hl, hdrop⟩ := State.unheard_answering hp hf
      rw [hexec, State.refuseFrame_unheard hl, hdrop]
    · rw [hexec, State.refuseFrame_unheard hl, State.unheard_same hf]
  refine ⟨fun p s => ⟨hjudged p s _ _ rfl, hjudged p s _ _ rfl⟩, fun s p r => ⟨s.answer_responseOn p r, byteSum_checked _, fun q hq => ?_, ?_, rfl⟩⟩
  · rw [State.answer_link, if_neg hq]
  · rw [State.answer_link, if_pos rfl]

/-! ### The gate (R191, checks 5 and 6) -/

theorem State.controllerCommand_command (s : State) (c : Instr) (p : Port) (body : Side → State → State × Response) :
    ∃ body', s.controllerCommand c p body = s.command c p .controllers body' := by
  cases p with
  | controller x => exact ⟨body x, rfl⟩
  | billing => exact ⟨fun t => (t, .of .notPermitted), rfl⟩

/-- Every command but Read Port Status passes the gate that the ports column of the summary gives it. -/
theorem exec_command {c : Instr} {p : Port} {code : Nat} {operands : List Byte} (h : commandParts c = some (p, code, operands))
    (hcode : code ≠ 52) (s : State) : ∃ body, exec c s = .next (s.command c p (permissionOf code) body) := by
  cases c <;> simp only [commandParts, Option.some.injEq, Prod.mk.injEq, reduceCtorEq] at h <;> obtain ⟨rfl, rfl, -⟩ := h
  case readPortStatus => exact absurd rfl hcode
  case takeSnapshot | releaseSnapshot | removeTicket | readRegister | readLine | readReceiver | probeAccess | readNode | readRoute |
      readDirectory | readElement | readOrders | readSender | readTariffCell | readTariffStatus | readMeterContext | readMeter |
      readSnapshot | readTicket | readTicketStatus => exact ⟨_, rfl⟩
  all_goals
    obtain ⟨body, hbody⟩ := s.controllerCommand_command _ _ _
    exact ⟨body, congrArg Host.Outcome.next hbody⟩

/-- A command whose frame the port does not judge now is not heard. -/
theorem exec_unheard {c : Instr} {p : Port} {code : Nat} {operands : List Byte} (h : commandParts c = some (p, code, operands))
    {s : State} (hl : s.listens p c = false) : exec c s = .next (s.unheard p c) := by
  by_cases hcode : code = 52
  · subst hcode
    cases c <;> simp only [commandParts, Option.some.injEq, Prod.mk.injEq, reduceCtorEq, Nat.reduceEqDiff, false_and, and_false] at h
    obtain ⟨rfl, -⟩ := h
    exact congrArg Host.Outcome.next (if_neg (Bool.eq_false_iff.1 hl))
  · obtain ⟨body, hexec⟩ := exec_command h hcode s
    rw [hexec, State.command_unheard hl]

/-- A command that the gate refuses is answered with the gate's status. -/
theorem State.command_refused {s : State} {c : Instr} {p : Port} {m : Permission} {x : Status} {body : State → State × Response}
    (hl : s.listens p c = true) (hg : s.gate p m = some x) : s.command c p m body = s.answer p ⟨x, []⟩ := by
  rw [State.command, if_pos hl, hg]
  rfl

theorem State.gate_fenced {s : State} {x : Side} (h : (s.att.port x).fenced = true) (m : Permission) :
    s.gate (.controller x) m = some .fenced := by
  cases m <;> simp [State.gate, h]

theorem State.gate_billing_controllers (s : State) : s.gate .billing .controllers = some .notPermitted := rfl

theorem State.gate_controller_billing {s : State} {x : Side} (h : (s.att.port x).fenced = false) :
    s.gate (.controller x) .billing = some .notPermitted := by
  simp [State.gate, h]

/-- Settles O5: the gate of R191 for every command of the summary. -/
theorem commandsPassTheGateOrAreDropped : Obligations.CommandsPassTheGateOrAreDropped := by
  intro c p code operands s hparts
  have hrefused {x : Status} (hcode : code ≠ 52) (hl : s.listens p c = true) (hg : s.gate p (permissionOf code) = some x) :
      exec c s = .next (s.answer p ⟨x, []⟩) := by
    obtain ⟨body, hexec⟩ := exec_command hparts hcode s
    rw [hexec, State.command_refused hl hg]
  refine ⟨fun hl => ⟨?_, ?_, ?_⟩, fun bytes f hp hf => ?_, fun hl hf => ?_⟩
  · rintro x rfl hx hcode
    exact hrefused hcode hl (State.gate_fenced hx _)
  · rintro rfl hm
    refine hrefused (fun hcode => ?_) hl (hm ▸ s.gate_billing_controllers)
    rw [hcode] at hm
    exact absurd hm (by decide)
  · rintro x rfl hx hm
    refine hrefused (fun hcode => ?_) hl (hm ▸ State.gate_controller_billing hx)
    rw [hcode] at hm
    exact absurd hm (by decide)
  · obtain ⟨hl, hdrop⟩ := State.unheard_answering hp hf
    rw [exec_unheard hparts hl, hdrop]
  · rw [exec_unheard hparts hl, State.unheard_same hf]

/-! ### Reads -/

theorem State.sameButLinks_answer (s : State) (p : Port) (r : Response) :
    s.answer p r = { s with links := (s.answer p r).links } ∧ ∀ q, q ≠ p → (s.answer p r).link q = s.link q :=
  ⟨rfl, fun q hq => by rw [State.answer_link, if_neg hq]⟩

/-- A row that is not heard moves its own link port at most. -/
theorem State.unheard_port (s : State) (p : Port) (c : Instr) :
    s.unheard p c = { s with links := (s.unheard p c).links } ∧ ∀ q, q ≠ p → (s.unheard p c).link q = s.link q := by
  refine ⟨s.unheard_sameButLinks p c, fun q hq => ?_⟩
  unfold State.unheard State.dropFrame
  (repeat' split) <;> simp [hq]

/-- A read moves its own link port alone. -/
theorem State.readCommand_port (s : State) (c : Instr) (p : Port) (m : Permission) (body : State → Response) :
    s.readCommand c p m body = { s with links := (s.readCommand c p m body).links } ∧
      ∀ q, q ≠ p → (s.readCommand c p m body).link q = s.link q := by
  unfold State.readCommand State.command
  split
  · split
    · exact s.sameButLinks_answer p _
    · exact s.sameButLinks_answer p _
  · exact s.unheard_port p c

/-- Settles O7: every read goes through the port logic with a body that changes nothing. -/
theorem readsChangeNothing : Obligations.ReadsChangeNothing := by
  intro c p code operands s t hparts hcode h
  cases c <;> simp only [commandParts, Option.some.injEq, Prod.mk.injEq, reduceCtorEq] at hparts <;> obtain ⟨rfl, rfl, -⟩ := hparts
  case readPortStatus =>
    obtain rfl := Host.Outcome.next.inj h
    split
    · exact s.sameButLinks_answer _ _
    · exact s.unheard_port _ _
  case readRegister | readLine | readReceiver | probeAccess | readNode | readRoute | readDirectory | readElement | readOrders |
      readSender | readTariffCell | readTariffStatus | readMeterContext | readMeter | readSnapshot | readTicket | readTicketStatus =>
    obtain rfl := Host.Outcome.next.inj h
    exact s.readCommand_port _ _ _ _
  all_goals exact absurd hcode (by decide)

/-! ### The marks and the link-reset line (R189, R190, R193) -/

theorem execFrameStartMark_eq (s : State) (p : Port) (bytes : List Byte) :
    exec (.frameStartMark ⟨p, bytes⟩) s = .next (s.startMark p bytes) := rfl

theorem execFrameCutOff_eq (s : State) (p : Port) (bytes : List Byte) :
    exec (.frameDiscarded p (.cutOff bytes)) s = .next (if s.gathers p then s.startMark p bytes else s) := rfl

theorem execFrameEnded_eq (s : State) (p : Port) : exec (.frameDiscarded p .endedWhileAnswering) s = .next (s.dropFrame p) := rfl

theorem execResponseSent_eq (s : State) (p : Port) : exec (.responseSent p) s = .next (s.endResponse p) := rfl

/-- Setting the phase in which a port stands changes nothing. -/
theorem State.setPhase_same {s : State} {p : Port} {x : LinkPhase} (h : (s.link p).phase = x) : s.setPhase p x = s := by
  subst h
  rcases p with (_ | _) | _ <;> rfl

/-- R193: the port reset holds its port alone and does to the Attention Unit what R188 says. -/
theorem State.portReset_link (s : State) (p q : Port) : (s.portReset p).link q = if q = p then ⟨.heldInReset, true⟩ else s.link q := by
  have hput : (s.portReset p).links = s.links.put p ⟨.heldInReset, true⟩ := by
    cases p <;> simp [State.portReset, State.resetController]
  rw [State.link, hput, LinkPorts.get_put]
  rfl

theorem State.portReset_frame (s : State) (p : Port) :
    s.portReset p = { s with links := (s.portReset p).links, att := (s.portReset p).att } := by
  cases p <;> apply State.eq_of_fields <;> simp [State.portReset, State.resetController]

theorem State.portReset_board {s : State} (h : AttentionLaw s) (y : Side) :
    (s.portReset (.controller y)).att.port y = ⟨(s.att.port y).fenced, 0, false⟩ ∧
      (s.portReset (.controller y)).att.port y.other = s.att.port y.other ∧
      (s.portReset (.controller y)).att.queue = s.att.queue ++ allSubjects.filter (fun j => s.handler j = some y) := by
  rw [State.portReset_controller]
  refine ⟨?_, ?_, ?_⟩
  · rw [State.modPort_port, if_pos rfl, State.returnBindings_port]
  · rw [State.modPort_port, if_neg (by cases y <;> decide), State.returnBindings_port]
  · rw [State.modPort_queue]
    exact State.returnBindings_queue _ y fun j hj => (h.withLinks _).not_queued_of_bound hj

theorem State.portReset_subject (s : State) (y : Side) (j : Subject) : (s.portReset (.controller y)).subject j =
    if s.handler j = some y then (s.subject j).returned else s.subject j := by
  rw [State.portReset_controller, State.modPort_subject, State.returnBindings_subject]
  rfl

theorem SubjectRec.returned_pending (j : SubjectRec) : j.returned.pending.getLsbD EventKind.handlerReturned.code = true := by
  rw [SubjectRec.returned, BitVec.getLsbD_or, EventKind.bit_getLsbD]
  simp

/-- Settles O6. -/
theorem linkPortsMoveAndAreReset : Obligations.LinkPortsMoveAndAreReset := by
  refine ⟨fun s p bytes => ⟨fun c hp => ?_, fun hp => ⟨?_, ?_, ?_⟩, fun g hp => ⟨?_, ?_, ?_⟩, fun response g hp => ⟨?_, fun hg => ?_, ?_,
    fun hg => ?_, fun f hg => ?_⟩, fun hp => ⟨?_, ?_, ?_⟩, fun hp => ?_⟩, fun s p hlaw hp => ⟨s.portReset p, ?_, ?_, fun q hq => ?_, ?_,
    s.portReset_frame p, ?_⟩⟩
  · rw [State.listens, hp]
    exact congrArg (fun i => decide (i = c)) (Frame.gather_judged bytes p)
  · rw [execFrameStartMark_eq, State.startMark, hp]
    rfl
  · rw [execFrameCutOff_eq, State.gathers, hp]
    rfl
  · rw [execResponseSent_eq, State.endResponse, hp]
  · rw [execFrameStartMark_eq, State.startMark, hp]
    rfl
  · rw [execFrameCutOff_eq, State.gathers, State.startMark, hp]
    rfl
  · rw [execResponseSent_eq, State.endResponse, hp]
  · rw [execFrameStartMark_eq, State.startMark, hp]
    rfl
  · rw [execFrameCutOff_eq, State.gathers, State.startMark, hp]
    exact congrArg Host.Outcome.next (if_pos (Option.isSome_iff_ne_none.2 hg))
  · rw [execFrameEnded_eq, State.dropFrame, hp]
    cases g with
    | none => exact congrArg Host.Outcome.next (State.setPhase_same hp).symm
    | some f => rfl
  · rw [execResponseSent_eq, State.endResponse, hp, hg]
  · rw [execResponseSent_eq, State.endResponse, hp, hg]
  · rw [execFrameStartMark_eq, State.startMark, hp]
  · rw [execFrameCutOff_eq, State.gathers, hp]
    rfl
  · rw [execResponseSent_eq, State.endResponse, hp]
  · exact congrArg Host.Outcome.next (if_pos hp)
  · exact congrArg Host.Outcome.next (if_neg (Bool.eq_false_iff.1 hp))
  · rw [State.portReset_link, if_pos rfl]
  · rw [State.portReset_link, if_neg hq]
  · rintro rfl
    rfl
  · rintro y rfl
    obtain ⟨hport, hother, hqueue⟩ := State.portReset_board hlaw y
    refine ⟨hport, hother, fun j hj => ?_, hqueue, fun j hj => ?_⟩
    · rw [State.handler, State.isPending, State.portReset_subject, if_pos hj]
      exact ⟨rfl, SubjectRec.returned_pending _⟩
    · rw [State.portReset_subject, if_neg hj]

end Sys2Proof.Machine
end

section
/-! SUPPORT. The commands whose effect is one field: tariffs, band and clock (R131 to R136), the blocking of receivers and senders (R53,
R54, R127, R128), tickets (R161, R165, R167) and the ports (R174, R180 to R183). -/

namespace Sys2Proof.Machine

variable {s : State} {x : Side}

/-! ### Commands that run -/

/-- Where the command's body ends in the state `t` with a response, the command runs to `t` with that response. -/
theorem State.runs_of_body {t : State} {r : Response} {c : Instr} {body : Side → State → State × Response}
    (he : exec c s = .next (s.controllerCommand c (.controller x) body)) (hb : body x s = (t, r)) :
    s.runs (.controller x) c (t.answer (.controller x) r) :=
  State.runs_controllerCommand he (by rw [hb])

/-- A command of the billing link runs as its body. -/
theorem State.runs_billing {t : State} {r : Response} {c : Instr} {m : Permission} {body : State → State × Response}
    (he : exec c s = .next (s.command c .billing m body)) (hm : m ≠ .controllers) (hb : body s = (t, r)) :
    s.runs .billing c (t.answer .billing r) := fun hl _ => by
  rw [he, State.command_billing hl hm, hb]

/-! ### Tariffs, band and clock -/

theorem bandOperand_eq_some_iff {b : Byte} {y : Band} : bandOperand b = some y ↔ b.toNat = y.code := by
  unfold bandOperand
  cases y <;> split <;> simp_all [Band.code]

theorem bandOperand_eq_none {b : Byte} (h : 3 ≤ b.toNat) : bandOperand b = none := by
  refine Option.eq_none_iff_forall_ne_some.2 fun y hy => ?_
  rw [bandOperand_eq_some_iff] at hy
  cases y <;> simp only [Band.code] at hy <;> omega

theorem writeTariffCell_bad {zone band u0 fraction : Byte} (period : Half)
    (h : 8 ≤ zone.toNat ∨ 3 ≤ band.toNat ∨ 16 ≤ u0.toNat ∨ 16 ≤ fraction.toNat) :
    s.refusesWith x (.writeTariffCell (.controller x) zone band u0 period fraction) .badOperand := by
  refine State.refusesWith_of_refuse rfl ?_
  have hnone : numbered 8 zone.toNat = none ∨ bandOperand band = none ∨ numbered 16 u0.toNat = none ∨ numbered 16 fraction.toNat = none :=
    h.imp numbered_none (.imp bandOperand_eq_none (.imp numbered_none numbered_none))
  unfold writeTariffCell
  split
  · simp_all
  · rfl

/-- Settles O42. -/
theorem tariffsBandAndClockAreSet : Obligations.TariffsBandAndClockAreSet := by
  refine fun x s => ⟨fun zone band u0 period fraction => ⟨writeTariffCell_bad period, fun z y u f hz hy hu hf => ?_⟩, ?_,
    fun band => ⟨fun hband => ?_, fun y hy => ?_⟩, fun day minute => ⟨fun hm => ?_, fun hm => ?_⟩⟩
  · refine State.runs_of_doneWith rfl ?_
    rw [writeTariffCell, numbered_val z hz, bandOperand_eq_some_iff.2 hy, numbered_val u hu, numbered_val f hf]
  · exact State.runs_of_doneWith rfl rfl
  · exact State.refusesWith_of_refuse rfl (by rw [selectBand, bandOperand_eq_none hband])
  · exact State.runs_of_doneWith rfl (by rw [selectBand, bandOperand_eq_some_iff.2 hy])
  · exact State.refusesWith_of_refuse rfl (if_pos hm)
  · exact State.runs_of_doneWith rfl (if_neg (not_le.2 hm))

/-! ### Receivers and senders -/

/-- Settles O29. -/
theorem unitsAreBlockedAndUnblocked : Obligations.UnitsAreBlockedAndUnblocked := by
  refine fun x s b => ⟨fun hb => ⟨?_, ?_⟩, fun hb => ⟨?_, ?_⟩, fun k hk => ⟨fun hs => ⟨?_, ?_⟩, fun hs => ⟨?_, ?_⟩, fun a hs => ⟨?_, ?_⟩⟩,
    fun k hk => ⟨fun hs => ⟨?_, ?_⟩, fun hs => ⟨?_, ?_⟩, fun a hs => ⟨?_, ?_⟩⟩⟩
  · exact State.refusesWith_of_refuse rfl (by rw [blockReceiver, numbered_none hb])
  · exact State.refusesWith_of_refuse rfl (by rw [unblockReceiver, numbered_none hb])
  · exact State.refusesWith_of_refuse rfl (by rw [blockSender, numbered_none hb])
  · exact State.refusesWith_of_refuse rfl (by rw [unblockSender, numbered_none hb])
  · exact State.runs_of_doneWith rfl (by simp only [blockReceiver, numbered_val k hk, hs])
  · exact State.runs_of_doneWith rfl (by simp only [unblockReceiver, numbered_val k hk, hs])
  · exact State.runs_of_doneWith rfl (by simp only [blockReceiver, numbered_val k hk, hs])
  · exact State.runs_of_doneWith rfl (by simp only [unblockReceiver, numbered_val k hk, hs])
  · exact State.runs_of_body rfl (by simp only [blockReceiver, numbered_val k hk, hs, Response.of])
  · exact State.runs_of_doneWith rfl (by simp only [unblockReceiver, numbered_val k hk, hs])
  · exact State.runs_of_doneWith rfl (by simp only [blockSender, numbered_val k hk, hs])
  · exact State.runs_of_doneWith rfl (by simp only [unblockSender, numbered_val k hk, hs])
  · exact State.runs_of_doneWith rfl (by simp only [blockSender, numbered_val k hk, hs])
  · exact State.runs_of_doneWith rfl (by simp only [unblockSender, numbered_val k hk, hs])
  · exact State.runs_of_body rfl (by simp only [blockSender, numbered_val k hk, hs, Response.of])
  · exact State.runs_of_doneWith rfl (by simp only [unblockSender, numbered_val k hk, hs])

/-! ### Tickets -/

/-- Settles O50. -/
theorem ticketsAreRemovedByNumber : Obligations.TicketsAreRemovedByNumber := by
  refine ⟨fun s n => ⟨fun hs => ?_, fun k rest hs => ⟨fun hk => ?_, fun hk => ?_⟩⟩, fun s => ?_, fun x s b => ⟨fun hb => ?_, fun d hd => ?_⟩⟩
  · exact State.runs_billing rfl (by decide) (by simp only [removeTicket, hs, refuse, Response.of])
  · exact State.runs_billing rfl (by decide) (by simp only [removeTicket, hs, if_pos hk, doneWith, Response.of])
  · exact State.runs_billing rfl (by decide) (by simp only [removeTicket, hs, if_neg hk, refuse, Response.of])
  · rw [State.ticketsWaiting, Bool.not_eq_true', List.isEmpty_eq_false_iff]
  · exact State.refusesWith_of_refuse rfl (by rw [setDirectoryDigit, digitOperand_eq_none hb])
  · exact State.runs_of_doneWith rfl (by rw [setDirectoryDigit, digitOperand_eq_some_iff.2 hd.symm])

/-! ### Fence, admission and attention -/

theorem flagOperand_eq_none {b : Byte} (h : 2 ≤ b.toNat) : flagOperand b = none := by
  refine Option.eq_none_iff_forall_ne_some.2 fun y hy => ?_
  rw [flagOperand_eq_some_iff] at hy
  have := Bool.toNat_le y
  omega

/-- R180: a subject of the fenced port is given back. -/
theorem State.fence_subject (s : State) (y : Side) {j : Subject} (hj : j ≠ .maintenance) :
    (s.fence y).subject j = if s.handler j = some y then (s.subject j).returned else s.subject j := by
  simp [State.fence, hj]

theorem State.fence_handlerReturned {s : State} {y : Side} {j : Subject} (h : s.handler j = some y) :
    (s.fence y).isPending j .handlerReturned = true := by
  have hreturned : (((s.modPort y fun p => { p with fenced := true }).returnBindings y)).isPending j .handlerReturned = true := by
    rw [State.isPending, State.returnBindings_subject, State.modPort_handler, if_pos h]
    exact SubjectRec.returned_pending _
  rw [State.fence, State.post_isPending, hreturned]
  rfl

theorem State.fence_peerFenced (s : State) (y : Side) : (s.fence y).isPending .maintenance .peerFenced = true := by
  simp [State.fence]

/-- A posting appends its subject or leaves the queue as it stands. -/
theorem State.post_queue_append (s : State) (j : Subject) (k : EventKind) :
    ∃ rest, rest ⊆ [j] ∧ (s.post j k).att.queue = s.att.queue ++ rest := by
  rw [State.post_queue]
  split
  · exact ⟨[], List.nil_subset _, (List.append_nil _).symm⟩
  · exact ⟨[j], List.Subset.refl _, rfl⟩

theorem State.fence_queue {s : State} (h : AttentionLaw s) (y : Side) : ∃ rest, rest ⊆ [Subject.maintenance] ∧
    (s.fence y).att.queue = s.att.queue ++ allSubjects.filter (fun j => s.handler j = some y) ++ rest := by
  have hreturn := State.returnBindings_queue (s.modPort y fun p => { p with fenced := true }) y
    fun j hj => (h.modPort y _).not_queued_of_bound hj
  simp only [State.modPort_queue, State.modPort_handler] at hreturn
  rw [State.fence, ← hreturn]
  exact State.post_queue_append _ _ _

theorem State.fence_att (s : State) (y : Side) : s.fence y = { s with att := (s.fence y).att } := by
  apply State.eq_of_fields <;> simp

theorem ne_other (x : Side) : x ≠ x.other := by cases x <;> decide

/-- Settles O53. -/
theorem portsAreFencedAndAdmitted : Obligations.PortsAreFencedAndAdmitted := by
  refine fun x s hlaw => ⟨?_, fun hf => ⟨?_, ?_⟩, fun hf => ⟨?_, s.fence x.other, ?_, ?_, ?_, fun j hj => ⟨?_, ?_⟩, s.fence_peerFenced _,
    fun j hj hn => ?_, State.fence_queue hlaw _, s.fence_att _⟩, fun b => ⟨fun hb => ?_, fun on hb => ?_⟩⟩
  · simp [State.attentionLine, and_assoc]
  · exact State.refusesWith_of_refuse rfl (if_pos hf)
  · exact State.runs_of_doneWith rfl (if_pos hf)
  · exact State.refusesWith_of_refuse rfl (if_neg (Bool.eq_false_iff.1 hf))
  · exact State.runs_of_doneWith rfl (if_neg (Bool.eq_false_iff.1 hf))
  · rw [State.fence_port, if_pos rfl]
  · rw [State.fence_port, if_neg (ne_other x)]
  · rw [State.fence_handler, if_pos hj]
  · exact State.fence_handlerReturned hj
  · rw [State.fence_subject _ _ hj, if_neg hn]
  · exact State.refusesWith_of_refuse rfl (by rw [setAttention, flagOperand_eq_none hb])
  · exact State.runs_of_doneWith rfl (by rw [setAttention, flagOperand_eq_some_iff.2 hb])

/-! ### The acting commands (R177) -/

/-- An acting command is refused a register number out of range, an unbound register, and one bound to the other port. -/
theorem acting_badOperand {b : Byte} (hb : 40 ≤ b.toNat) (body : RegNo → State × Response) : acting x b s body = refuse s .badOperand := by
  rw [acting, numbered_none hb]

theorem acting_notBound {b : Byte} {r : RegNo} (hb : b.toNat = r.val) (hr : s.handler (.register r) = none)
    (body : RegNo → State × Response) : acting x b s body = refuse s .notBound := by
  simp only [acting, numbered_val r hb, hr]

theorem acting_heldByOther {b : Byte} {r : RegNo} (hb : b.toNat = r.val) (hr : s.handler (.register r) = some x.other)
    (body : RegNo → State × Response) : acting x b s body = refuse s .heldByOther := by
  simp only [acting, numbered_val r hb, hr, if_neg (ne_other x).symm]

theorem toneOperand_eq_none {b : Byte} (h : 3 ≤ b.toNat) : toneOperand b = none := by
  unfold toneOperand
  split
  · omega
  · omega
  · omega
  · rfl

theorem toneOperand_isSome {b : Byte} (h : b.toNat < 3) : ∃ y, toneOperand b = some y := by
  obtain h0 | h1 | h2 : b.toNat = 0 ∨ b.toNat = 1 ∨ b.toNat = 2 := by omega
  · exact ⟨.busy, toneOperand_code _ h0⟩
  · exact ⟨.congestion, toneOperand_code _ h1⟩
  · exact ⟨.nu, toneOperand_code _ h2⟩

/-- Give Tone with a tone that exists is an acting command. -/
theorem giveTone_acting {b c : Byte} {y : Tone} (hy : toneOperand c = some y) : giveTone b c x s = acting x b s fun r =>
    match (s.reg r).state with
    | .translated => doneWith (s.enterTone r y .ordered)
    | .set => doneWith ((s.giveUpCalled r).enterTone r y .ordered)
    | _ => refuse s .wrongState := by
  rw [giveTone, hy] <;> rfl

/-- Where the checks of R177 refuse, all five acting commands are refused. -/
theorem acting_all_refused {b c : Byte} {z : Status} (hc : c.toNat < 3) (h : ∀ body, acting x b s body = refuse s z) {i : Instr}
    (hi : i ∈ [.giveTone (.controller x) b c, .releaseCall (.controller x) b, .huntPath (.controller x) b, .ring (.controller x) b,
      .send (.controller x) b]) : s.refusesWith x i z := by
  obtain ⟨y, hy⟩ := toneOperand_isSome hc
  simp only [List.mem_cons, List.not_mem_nil, or_false] at hi
  rcases hi with rfl | rfl | rfl | rfl | rfl
  · exact State.refusesWith_of_refuse rfl ((giveTone_acting hy).trans (h _))
  · exact State.refusesWith_of_refuse rfl (h _)
  · exact State.refusesWith_of_refuse rfl (h _)
  · exact State.refusesWith_of_refuse rfl (h _)
  · exact State.refusesWith_of_refuse rfl (h _)

theorem State.initialising_iff : s.initialising = true ↔ ∃ e, s.elem e = .initialising := by
  rw [State.initialising, Bool.not_eq_true', tfind_isEmpty_eq_false_iff]
  simp only [decide_eq_true_eq, State.elem]

/-- Settles O52: the checks of R177, and the states that each command acts on. -/
theorem actingCommandsNeedTheBinder : Obligations.ActingCommandsNeedTheBinder := by
  refine fun x s b c => ⟨fun hc => ?_, fun hc => ⟨fun hb i hi => ?_, fun r hb => ⟨fun hr i hi => ?_, fun hr i hi => ?_, fun hr => ⟨fun hs => ?_,
    fun hs => ?_, fun hs => ?_, fun hs => ⟨?_, ?_⟩⟩⟩⟩⟩
  · exact State.refusesWith_of_refuse rfl (by rw [giveTone, toneOperand_eq_none hc])
  · exact acting_all_refused hc (acting_badOperand hb) hi
  · exact acting_all_refused hc (acting_notBound hb hr) hi
  · exact acting_all_refused hc (acting_heldByOther hb hr) hi
  · obtain ⟨y, hy⟩ := toneOperand_isSome hc
    refine State.refusesWith_of_refuse rfl ((giveTone_acting hy).trans ((acting_bound hb hr _).trans ?_))
    cases hstate : (s.reg r).state <;> simp_all
  · refine State.refusesWith_of_refuse rfl ((acting_bound hb hr _).trans ?_)
    simp only [List.mem_cons, List.not_mem_nil, or_false] at hs
    rcases hs with hs | hs | hs <;> rw [hs]
  · refine State.refusesWith_of_refuse rfl ((acting_bound hb hr _).trans ?_)
    by_cases ht : (s.reg r).state = .translated
    · rw [if_neg (not_not.2 ht), if_pos (State.initialising_iff.2 (hs.resolve_left (not_not.2 ht)))]
    · exact if_pos ht
  · exact State.refusesWith_of_refuse rfl ((acting_bound hb hr _).trans (if_pos hs))
  · exact State.refusesWith_of_refuse rfl ((acting_bound hb hr _).trans (if_pos hs))

end Sys2Proof.Machine
end

section
/-! SUPPORT. Postings, Take Event and Done (R172, R175, R176), and the handling limit with its strike (R178, R179). -/

namespace Sys2Proof.Machine

variable {s : State} {x : Side}

/-! ### Postings -/

theorem Attention.SameBoard.eq {a b : Attention} (h : a.SameBoard b) : b = { a with queue := b.queue, subjects := b.subjects } := by
  obtain ⟨hA, hB, htimeout, hrestart⟩ := h
  cases b
  simp_all

theorem State.post_att (s : State) (j : Subject) (k : EventKind) : s.post j k = { s with att := (s.post j k).att } := by
  apply State.eq_of_fields <;> simp

theorem State.post_lists (s : State) (j : Subject) (k : EventKind) :
    s.post j k = { s with att := { s.att with queue := (s.post j k).att.queue, subjects := (s.post j k).att.subjects } } := by
  apply State.eq_of_fields <;> simp only [State.post_frame]
  exact (s.post_board j k).eq

/-! ### Take Event and Done -/

theorem subjectOperand_index {b : Byte} {j : Subject} (h : b.toNat = (subjectIndex j).val) : subjectOperand b = some j := by
  cases j with
  | register r =>
    have hr : b.toNat = r.val := h
    rw [subjectOperand, if_neg (by omega), numbered_val r hr]
    rfl
  | maintenance => exact if_pos h

theorem subjectOperand_eq_none {b : Byte} (h : 41 ≤ b.toNat) : subjectOperand b = none := by
  rw [subjectOperand, if_neg (by omega), numbered_none (by omega)]
  rfl

/-- A subject unbound by Done, and the strikes of its port cleared (R176). -/
def State.released (s : State) (x : Side) (j : Subject) : State :=
  (s.modSubject j fun k => { k with binding := none }).modPort x fun p => { p with strikes := 0 }

theorem State.released_subject (s : State) (x : Side) (i j : Subject) :
    (s.released x j).subject i = if i = j then { s.subject j with binding := none } else s.subject i := by
  simp [State.released]

theorem State.released_port (s : State) (x y : Side) (j : Subject) :
    (s.released x j).att.port y = if y = x then { s.att.port x with strikes := 0 } else s.att.port y := by
  rw [State.released, State.modPort_port]
  cases x <;> cases y <;> rfl

theorem State.released_queue (s : State) (x : Side) (j : Subject) : (s.released x j).att.queue = s.att.queue := by
  simp [State.released]

theorem State.released_att (s : State) (x : Side) (j : Subject) : s.released x j = { s with att := (s.released x j).att } := rfl

/-- What Done leaves of the Attention Unit, whatever else it does. -/
structure Released (s u : State) (x : Side) (j : Subject) : Prop where
  own : u.att.port x = { s.att.port x with strikes := 0 }
  other : u.att.port x.other = s.att.port x.other
  binding : (u.subject j).binding = none
  pending : (u.subject j).pending = (s.subject j).pending
  rest : ∀ i, i ≠ j → u.subject i = s.subject i

theorem State.released_released (s : State) (x : Side) (j : Subject) : Released s (s.released x j) x j where
  own := by rw [State.released_port, if_pos rfl]
  other := by rw [State.released_port, if_neg (ne_other x).symm]
  binding := by rw [State.released_subject, if_pos rfl]
  pending := by rw [State.released_subject, if_pos rfl]
  rest i hi := by rw [State.released_subject, if_neg hi]

theorem Released.enqueue {u : State} {j : Subject} (h : Released s u x j) : Released s (u.enqueue j) x j where
  own := by rw [(u.enqueue_board j).port, h.own]
  other := by rw [(u.enqueue_board j).port, h.other]
  binding := by rw [State.enqueue_subject, if_pos rfl, h.binding]
  pending := by rw [State.enqueue_subject, if_pos rfl, h.pending]
  rest i hi := by rw [State.enqueue_subject, if_neg hi, h.rest i hi]

theorem Released.of_att {u v : State} {j : Subject} (h : Released s u x j) (hv : v.att = u.att) : Released s v x j where
  own := by rw [hv, h.own]
  other := by rw [hv, h.other]
  binding := by rw [State.subject, hv, ← State.subject, h.binding]
  pending := by rw [State.subject, hv, ← State.subject, h.pending]
  rest i hi := by rw [State.subject, hv, ← State.subject, h.rest i hi]

theorem doneSubject_released {b : Byte} {j : Subject} (hb : b.toNat = (subjectIndex j).val) (hj : s.handler j = some x) :
    doneSubject b x s = doneWith (s.finish x j) := by
  simp only [doneSubject, subjectOperand_index hb, hj, if_true]

theorem State.finish_pending {j : Subject} (h : (s.subject j).pending ≠ 0) : s.finish x j = (s.released x j).enqueue j := if_pos h

theorem State.finish_ended {r : RegNo} (h : (s.subject (.register r)).pending = 0) (hr : (s.reg r).state = .ended) :
    s.finish x (.register r) = ((s.released x (.register r)).freeReg r).settle :=
  (if_neg (not_not.2 h)).trans (if_pos hr)

theorem State.finish_quiet {j : Subject} (h : (s.subject j).pending = 0) (hr : ∀ r, j = .register r → (s.reg r).state ≠ .ended) :
    s.finish x j = s.released x j := by
  refine (if_neg (not_not.2 h)).trans ?_
  cases j with
  | register r => exact if_neg (hr r rfl)
  | maintenance => rfl

/-! ### A register made free (R15, R64) -/

theorem State.freeReg_reg (s : State) (r q : RegNo) : (s.freeReg r).reg q = if q = r then CallRegister.free else s.reg q := by
  unfold State.freeReg
  rw [State.modReg_reg]
  split
  · rfl
  · split <;> rfl

theorem State.freeReg_route (s : State) (r : RegNo) (t : RouteNo) : (s.freeReg r).route t =
    { s.route t with refCount := if (s.reg r).route = some t then (s.route t).refCount - 1 else (s.route t).refCount } := by
  unfold State.freeReg
  split
  · next u hu =>
    have hroute : ((s.modRefCount u (· - 1)).modReg r fun _ => CallRegister.free).route t = (s.modRefCount u (· - 1)).route t := rfl
    rw [hroute, State.route, State.modRefCount, tget_tmod, hu]
    by_cases ht : t = u
    · simp [ht, State.route]
    · simp [ht, Ne.symm ht, State.route]
  · next hu => simp [hu, State.route]

theorem State.freeReg_routes (s : State) (r : RegNo) :
    s.freeReg r = { s with regs := (s.freeReg r).regs, trans := { s.trans with routes := (s.freeReg r).trans.routes } } := by
  unfold State.freeReg
  split <;> rfl

/-- Settles O51. -/
theorem eventsArePostedTakenAndFinished : Obligations.EventsArePostedTakenAndFinished := by
  refine ⟨fun s j k => ⟨?_, ?_, fun h => ⟨?_, ?_⟩, fun hq hb => ⟨?_, ?_⟩, fun i hi => ?_, s.post_lists j k⟩, fun x s => ⟨fun h => ?_,
    fun j rest h => ⟨({ s with att := { s.att with queue := rest } } : State).modSubject j fun _ => ⟨some ⟨x, 0⟩, 0, false⟩, ?_, ?_,
      fun i hi => ?_, rfl⟩, fun b => ⟨fun hb => ?_, fun j hb => ⟨fun hj => ?_, fun hj => ?_, fun hj => ?_⟩⟩⟩⟩
  · rw [State.post_subject, if_pos rfl]
    rfl
  · rw [State.post_subject, if_pos rfl]
  · rw [State.post_queue, if_pos (by simpa [Option.isSome_iff_ne_none] using h)]
  · rw [State.post_subject, if_pos rfl]
    rcases h with h | h
    · simp [h]
    · simp [Option.isNone_eq_false_iff.2 (Option.isSome_iff_ne_none.2 h)]
  · rw [State.post_queue, if_neg (by simp [hq, hb])]
  · rw [State.post_subject, if_pos rfl]
    simp [hb]
  · rw [State.post_subject, if_neg hi]
  · exact State.refusesWith_of_refuse rfl (by simp only [takeEvent, h])
  · refine State.runs_of_body rfl ?_
    simp only [takeEvent, h]
    cases j <;> rfl
  · rw [State.modSubject_subject, if_pos rfl]
  · rw [State.modSubject_subject, if_neg hi]
    rfl
  · exact State.refusesWith_of_refuse rfl (by rw [doneSubject, subjectOperand_eq_none hb])
  · exact State.refusesWith_of_refuse rfl (by simp only [doneSubject, subjectOperand_index hb, hj])
  · exact State.refusesWith_of_refuse rfl (by simp only [doneSubject, subjectOperand_index hb, hj, if_neg (ne_other x).symm])
  · have hruns := State.runs_of_doneWith (c := .done (.controller x) b) rfl (doneSubject_released hb hj)
    have hrel := s.released_released x j
    by_cases hp : (s.subject j).pending = 0
    · by_cases hended : ∃ r, j = .register r ∧ (s.reg r).state = .ended
      · obtain ⟨r, rfl, hr⟩ := hended
        have hfree := hrel.of_att (v := (s.released x (.register r)).freeReg r) (by simp)
        rw [State.finish_ended hp hr] at hruns
        refine ⟨_, hfree.own, hfree.other, hfree.binding, hfree.pending, hfree.rest, fun h => absurd hp h, fun q _ hq _ => ?_,
          fun _ h => absurd hr (h r rfl)⟩
        obtain rfl := Subject.register.inj hq
        refine ⟨hruns, ?_, ?_, fun q hq => ?_, fun t => ?_, ?_⟩
        · rw [(State.freeReg_frame _ _).2.2.2.2.2.2.2.2.1, State.released_queue]
        · rw [State.freeReg_reg, if_pos rfl]
        · rw [State.freeReg_reg, if_neg hq]
          rfl
        · rw [State.freeReg_route]
          exact ⟨rfl, rfl⟩
        · rw [State.freeReg_routes]
          rfl
      · have hquiet : ∀ r, j = .register r → (s.reg r).state ≠ .ended := fun r hr hs => hended ⟨r, hr, hs⟩
        rw [State.finish_quiet hp hquiet] at hruns
        exact ⟨_, hrel.own, hrel.other, hrel.binding, hrel.pending, hrel.rest, fun h => absurd hp h, fun r _ hr hs => absurd hs (hquiet r hr),
          fun _ _ => ⟨hruns, s.released_queue x j, s.released_att x j⟩⟩
    · have hqueued := hrel.enqueue
      rw [State.finish_pending hp] at hruns
      refine ⟨_, hqueued.own, hqueued.other, hqueued.binding, hqueued.pending, hqueued.rest, fun _ hq => ⟨hruns, ?_, ?_, ?_⟩,
        fun _ h => absurd h hp, fun h => absurd h hp⟩
      · rw [State.enqueue_queue, State.released_subject, if_pos rfl, if_neg (by simp [hq]), State.released_queue]
      · rw [State.enqueue_subject, if_pos rfl]
      · apply State.eq_of_fields <;> simp [State.released]

end Sys2Proof.Machine
end

section
/-! SUPPORT. The handling limit of a binding and the strike it brings (R178, R179). -/

namespace Sys2Proof.Machine

variable {s : State}

theorem State.fence_isPending {y : Side} {j : Subject} {k : EventKind} (h : s.isPending j k = true) :
    (s.fence y).isPending j k = true := by
  have hreturn : ((s.modPort y fun p => { p with fenced := true }).returnBindings y).isPending j k = true := by
    rw [State.isPending] at h ⊢
    rw [State.returnBindings_subject, State.modPort_subject]
    split
    · simp [SubjectRec.returned, BitVec.getLsbD_or, h]
    · exact h
  rw [State.fence, State.post_isPending, hreturn]
  rfl

theorem State.fence_lastTimeout (s : State) (y : Side) : (s.fence y).att.lastTimeout = s.att.lastTimeout := by
  have hboard := (State.returnBindings_board (s.modPort y fun p => { p with fenced := true }) y).trans
    (State.post_board _ .maintenance .peerFenced)
  obtain ⟨-, -, htimeout, -⟩ := hboard
  rw [State.fence, htimeout]
  simp [State.modPort]

/-- A strike counted against a port, before it fences. -/
def State.struck (s : State) (y : Side) : State := s.modPort y fun p => { p with strikes := min 255 (p.strikes + 1) }

/-- R179: the strike fences its port. -/
abbrev State.strikeFences (s : State) (y : Side) : Prop :=
  3 ≤ min 255 ((s.att.port y).strikes + 1) ∧ (s.att.port y.other).fenced = false

theorem State.strike_fences {y : Side} (h : s.strikeFences y) : s.strike y = (s.struck y).fence y := by
  obtain ⟨hcount, hother⟩ := h
  refine if_pos ⟨?_, ?_⟩
  · rw [State.modPort_port, if_pos rfl]
    exact hcount
  · rw [State.modPort_port, if_neg (ne_other y).symm, hother]
    rfl

theorem State.strike_counts {y : Side} (h : ¬s.strikeFences y) : s.strike y = s.struck y := by
  refine if_neg fun hc => h ?_
  obtain ⟨hcount, hother⟩ := hc
  rw [State.modPort_port, if_pos rfl] at hcount
  rw [State.modPort_port, if_neg (ne_other y).symm] at hother
  exact ⟨hcount, by simpa using hother⟩

/-- A binding given back at its limit: the record names it and M is told (R178). -/
def State.lapsed (s : State) (b : Binding) (j : Subject) : State :=
  let u := s.returnBinding j
  ({ u with att := { u.att with lastTimeout := some (b.port, j) } } : State).post .maintenance .handlerTimeout

theorem State.handlingExpiry_lapsed {j : Subject} {b : Binding} (hb : (s.subject j).binding = some b) (ht : 3000 ≤ b.time) :
    s.handlingExpiry j = (s.lapsed b j).strike b.port := by
  rw [State.handlingExpiry, hb]
  exact if_pos ht

theorem State.lapsed_port (s : State) (b : Binding) (j : Subject) (y : Side) : (s.lapsed b j).att.port y = s.att.port y :=
  (State.post_port _ _ _ _).trans ((s.returnBinding_board j).port y)

theorem State.lapsed_handler (s : State) (b : Binding) (i j : Subject) :
    (s.lapsed b j).handler i = if i = j then none else s.handler i :=
  (State.post_handler _ _ _ _).trans (s.returnBinding_handler j i)

theorem State.lapsed_isPending (s : State) (b : Binding) (j : Subject) : (s.lapsed b j).isPending j .handlerReturned = true := by
  have h : (s.returnBinding j).isPending j .handlerReturned = true := by
    rw [State.isPending, State.returnBinding_subject, if_pos rfl]
    exact SubjectRec.returned_pending _
  rw [State.lapsed, State.post_isPending]
  exact Bool.or_eq_true_iff.2 (.inl h)

theorem State.lapsed_notice (s : State) (b : Binding) (j : Subject) :
    (s.lapsed b j).isPending .maintenance .handlerTimeout = true := by
  rw [State.lapsed, State.post_isPending]
  simp

theorem State.lapsed_lastTimeout (s : State) (b : Binding) (j : Subject) :
    (s.lapsed b j).att.lastTimeout = some (b.port, j) := by
  obtain ⟨-, -, h, -⟩ := State.post_board ({ s.returnBinding j with
    att := { (s.returnBinding j).att with lastTimeout := some (b.port, j) } } : State) .maintenance .handlerTimeout
  exact h

theorem State.lapsed_subject (s : State) (b : Binding) {i j : Subject} (hij : i ≠ j) (hi : i ≠ .maintenance) :
    (s.lapsed b j).subject i = s.subject i := by
  rw [State.lapsed, State.post_subject, if_neg hi]
  exact (State.returnBinding_subject s j i).trans (if_neg hij)

theorem State.lapsed_queue (b : Binding) {j : Subject} (hq : (s.subject j).queued = false) :
    ∃ rest, rest ⊆ [Subject.maintenance] ∧ (s.lapsed b j).att.queue = s.att.queue ++ j :: rest := by
  obtain ⟨rest, hrest, hqueue⟩ := State.post_queue_append ({ s.returnBinding j with
    att := { (s.returnBinding j).att with lastTimeout := some (b.port, j) } } : State) .maintenance .handlerTimeout
  refine ⟨rest, hrest, hqueue.trans ?_⟩
  have hreturn := s.returnBinding_queue j
  rw [hq] at hreturn
  calc (s.returnBinding j).att.queue ++ rest = s.att.queue ++ [j] ++ rest := by rw [hreturn]; rfl
    _ = s.att.queue ++ j :: rest := by simp

theorem AttentionLaw.lapsed (h : AttentionLaw s) (b : Binding) (j : Subject) : AttentionLaw (s.lapsed b j) :=
  AttentionLaw.post (AttentionLaw.withLastTimeout (h.returnBinding j) _) _ _

theorem State.lapsed_att (s : State) (b : Binding) (j : Subject) : s.lapsed b j = { s with att := (s.lapsed b j).att } := by
  apply State.eq_of_fields <;> simp [State.lapsed]

theorem State.struck_isPending (s : State) (y : Side) (j : Subject) (k : EventKind) :
    (s.struck y).isPending j k = s.isPending j k := by
  rw [State.isPending, State.struck, State.modPort_subject]
  rfl

theorem State.struck_port (s : State) (x y : Side) : (s.struck y).att.port x =
    if x = y then { s.att.port y with strikes := min 255 ((s.att.port y).strikes + 1) } else s.att.port x :=
  State.modPort_port _ _ _ _

/-- What stands of the Attention Unit after a lapse and its strike, whether or not the strike fences. -/
structure Lapsed (s t : State) (b : Binding) (j : Subject) : Prop where
  unbound : t.handler j = none
  returned : t.isPending j .handlerReturned = true
  timeout : t.att.lastTimeout = some (b.port, j)
  notice : t.isPending .maintenance .handlerTimeout = true
  frame : t = { s with att := t.att }

theorem State.struck_lapsed (s : State) (b : Binding) (j : Subject) : Lapsed s ((s.lapsed b j).struck b.port) b j where
  unbound := by rw [State.struck, State.modPort_handler, State.lapsed_handler, if_pos rfl]
  returned := by rw [State.struck_isPending, State.lapsed_isPending]
  timeout := by rw [State.struck, State.modPort, Attention.setPort_rest .. |>.2.2.1, State.lapsed_lastTimeout]
  notice := by rw [State.struck_isPending, State.lapsed_notice]
  frame := by apply State.eq_of_fields <;> simp [State.struck, State.lapsed]

theorem Lapsed.fence {t : State} {b : Binding} {j : Subject} (h : Lapsed s t b j) : Lapsed s (t.fence b.port) b j where
  unbound := by rw [State.fence_handler, h.unbound, ite_self]
  returned := State.fence_isPending h.returned
  timeout := by rw [State.fence_lastTimeout, h.timeout]
  notice := State.fence_isPending h.notice
  frame := by rw [State.fence_att, h.frame]

/-- Settles O54: the strike after the lapse fences its port or counts alone. -/
theorem handlingLimitReturnsAndStrikes : Obligations.HandlingLimitReturnsAndStrikes := by
  refine fun s j hlaw => ⟨fun hb => ?_, fun b hb => ⟨fun ht => ?_, fun ht => ⟨_, rfl, ?_⟩⟩⟩
  · exact congrArg Host.Outcome.next (by rw [State.handlingExpiry, hb])
  · refine congrArg Host.Outcome.next ?_
    rw [State.handlingExpiry, hb]
    exact if_neg (not_le.2 ht)
  have hhandler : s.handler j = some b.port := by rw [State.handler, hb]; rfl
  have hq := hlaw.not_queued_of_bound hhandler
  obtain ⟨rest, hrest, hqueue⟩ := State.lapsed_queue b hq
  have hbase := s.struck_lapsed b j
  have hlaw' : AttentionLaw ((s.lapsed b j).struck b.port) := (hlaw.lapsed b j).modPort _ _
  have hfences : (s.lapsed b j).strikeFences b.port ↔ s.strikeFences b.port := by
    simp only [State.strikeFences, State.lapsed_port]
  have hqueue' : ((s.lapsed b j).struck b.port).att.queue = s.att.queue ++ j :: rest := by
    rw [State.struck, State.modPort_queue, hqueue]
  have hsubject : ∀ i, i ≠ j → i ≠ .maintenance → ((s.lapsed b j).struck b.port).subject i = s.subject i := fun i hi hm => by
    rw [State.struck, State.modPort_subject, State.lapsed_subject s b hi hm]
  rw [State.handlingExpiry_lapsed hb ht]
  by_cases hf : s.strikeFences b.port
  · obtain ⟨more, hmore⟩ : ∃ more, (((s.lapsed b j).struck b.port).fence b.port).att.queue = s.att.queue ++ j :: more := by
      obtain ⟨notice, -, hfence⟩ := State.fence_queue hlaw' b.port
      rw [hfence, hqueue']
      exact ⟨_, by simp only [List.append_assoc, List.cons_append]; rfl⟩
    have hend := hbase.fence
    rw [State.strike_fences (hfences.2 hf)]
    refine ⟨hend.unbound, hend.returned, ?_, hend.timeout, hend.notice, ?_, ?_, ⟨more, hmore, fun h => absurd hf h⟩,
      fun _ => ⟨State.fence_peerFenced _ _, fun i => ?_⟩, fun i hi hm hn => ?_, hend.frame⟩
    · rw [hmore]; simp
    · rw [State.fence_port, if_pos rfl, State.struck_port, if_pos rfl, State.lapsed_port, decide_eq_true hf, Bool.or_true]
    · rw [State.fence_port, if_neg (ne_other _).symm, State.struck_port, if_neg (ne_other _).symm, State.lapsed_port]
    · rw [State.fence_handler]
      split
      · simp
      · assumption
    · have hother := hn.resolve_left (not_not.2 hf)
      rw [State.fence_subject _ _ hm, State.handler, hsubject i hi hm, ← State.handler, if_neg hother]
  · rw [State.strike_counts (mt hfences.1 hf)]
    refine ⟨hbase.unbound, hbase.returned, ?_, hbase.timeout, hbase.notice, ?_, ?_, ⟨rest, hqueue', fun _ => hrest⟩,
      fun h => absurd h hf, fun i hi hm _ => hsubject i hi hm, hbase.frame⟩
    · rw [hqueue']; simp
    · rw [State.struck_port, if_pos rfl, State.lapsed_port, decide_eq_false hf, Bool.or_false]
    · rw [State.struck_port, if_neg (ne_other _).symm, State.lapsed_port]

end Sys2Proof.Machine
end

section
/-! SUPPORT. What a cold start leaves (R186, R187, R194). -/

namespace Sys2Proof.Machine

variable {s : State}

theorem State.someBusyRegister_iff : s.someBusyRegister = true ↔ ∃ r, (s.reg r).state ≠ .free := by
  rw [State.someBusyRegister, Bool.not_eq_true', tfind_isEmpty_eq_false_iff]
  simp only [Bool.not_eq_true', decide_eq_false_iff_not, State.reg, ne_eq]

/-- R98 with NETWORK_CLEAR at the head of the order queue. -/
theorem State.takeOrder_networkClear {rest : List Order} (hf : s.orders.inFlight = none)
    (hq : s.orders.queue = .networkClear :: rest) : s.takeOrder = { s with orders := { s.orders with
      queue := rest, tag := s.orders.tag + 1,
      inFlight := some ⟨.networkClear, s.orders.tag + 1, List.finRange 352, 0, false⟩ } } := by
  rw [State.takeOrder, hf, hq]

/-- The state that a cold start leaves, apart from what it keeps. -/
theorem State.coldStart_eq (s : State) (cause : RestartCause) (tag : BitVec 8) : s.coldStart cause tag = { State.reset with
    orders := ⟨[], some ⟨.networkClear, tag + 1, List.finRange 352, 0, false⟩, tag + 1, none⟩
    att := Attention.cold cause
    links := s.links
    restartLine := s.restartLine
    draws := s.draws
    pending := s.pending } := by
  rw [State.coldStart, State.takeOrder_networkClear (rest := []) rfl rfl]
  rfl

/-- What runs on a controller port acts where it is taken. -/
theorem State.exec_of_takes {t : State} {x : Side} {c : Instr} (h : s.takes x c) (hr : s.runs (.controller x) c t) :
    exec c s = .next t := by
  obtain ⟨hlistens, hfence⟩ := h
  exact hr hlistens fun y hy => Port.controller.inj hy ▸ hfence

theorem coldStart_powerUp (s : State) (l : LineLevels) : (s.coldStart .powerUp 0).takeLevels l = { State.reset with
    links := ⟨LinkPort.atPowerUp l.linkResetA, LinkPort.atPowerUp l.linkResetB, LinkPort.atPowerUp l.linkResetBilling⟩
    restartLine := l.restart
    draws := s.draws
    pending := s.pending } := by
  rw [State.coldStart_eq]
  rfl

theorem powerUp_retained (s : State) (l : LineLevels) :
    (if true = true then s.warmRestart .powerUp else s.coldStart .powerUp 0).takeLevels l = { s.warmRestart .powerUp with
      links := ⟨LinkPort.atPowerUp l.linkResetA, LinkPort.atPowerUp l.linkResetB, LinkPort.atPowerUp l.linkResetBilling⟩
      restartLine := l.restart } := by
  rw [if_pos rfl]
  generalize s.warmRestart .powerUp = t
  rfl

/-- Settles O55. -/
theorem restartsAreStarted : Obligations.RestartsAreStarted := by
  refine ⟨⟨fun x s htakes => ⟨fun hbusy => ?_, fun hfree => ?_⟩, fun s l => ?_⟩, fun x s htakes => ?_,
    fun s => ⟨fun hl => ?_, fun hl => ?_, rfl⟩, fun s l => ?_⟩
  · exact State.exec_of_takes htakes (State.refusesWith_of_refuse rfl (if_pos (State.someBusyRegister_iff.2 hbusy)))
  · have hidle : ¬s.someBusyRegister = true := fun h => by
      obtain ⟨r, hr⟩ := State.someBusyRegister_iff.1 h
      exact hr (hfree r)
    refine State.exec_of_takes htakes (State.runs_of_doneWith rfl ?_)
    rw [initialise, if_neg hidle, State.coldStart_eq]
    rfl
  · exact congrArg Host.Outcome.next (coldStart_powerUp s l)
  · exact State.exec_of_takes htakes (State.runs_of_doneWith (t := s.warmRestart .restartCommand) rfl rfl)
  · exact congrArg Host.Outcome.next (if_pos hl)
  · exact congrArg Host.Outcome.next (if_neg (Bool.eq_false_iff.1 hl))
  · exact congrArg Host.Outcome.next (powerUp_retained s l)

end Sys2Proof.Machine
end

section
/-! SUPPORT. The meters and the snapshot in full: a unit added after its copy (R151, R153, R158), a preset (R154) and the sweep (R155 to
R157, R160). -/

namespace Sys2Proof.Machine

variable {s : State}

/-! ### The copy -/

theorem MeterStore.eq_of_fields {a b : MeterStore} (hmeters : a.meters = b.meters) (hfull : a.fullCount = b.fullCount)
    (hsnapshot : a.snapshot = b.snapshot) (hmarks : a.marks = b.marks) (hvalues : a.values = b.values)
    (hday : a.snapshotDay = b.snapshotDay) (hminute : a.snapshotMinute = b.snapshotMinute) : a = b := by
  cases a
  cases b
  simp_all

/-- R158: what a change of meter `i` leaves of the copies and of the rest of the state. -/
abbrev Copied (s t : State) (i : Fin 1024) : Prop :=
  (s.sweeping → tget s.store.marks i = false → tget t.store.values i = tget s.store.meters i ∧ tget t.store.marks i = true ∧
    ∀ j, j ≠ i → tget t.store.values j = tget s.store.values j ∧ tget t.store.marks j = tget s.store.marks j) ∧
  (¬s.sweeping ∨ tget s.store.marks i = true → t.store.values = s.store.values ∧ t.store.marks = s.store.marks) ∧
  t = { s with store := { t.store with
    snapshot := s.store.snapshot, snapshotDay := s.store.snapshotDay, snapshotMinute := s.store.snapshotMinute }, att := t.att }

theorem State.copyMeter_fullCount (s : State) (i : Fin 1024) : (s.copyMeter i).store.fullCount = s.store.fullCount := by
  rw [State.copyMeter_store]
  split <;> rfl

theorem State.copyMeter_copied (s : State) (i : Fin 1024) : Copied s (s.copyMeter i) i := by
  have hcharged := s.copyMeter_charged i
  refine ⟨fun hs hm => ?_, fun h => ?_, ?_⟩
  · rw [State.copyMeter_store, if_pos ⟨s.sweeping_iff.1 hs, hm⟩]
    exact ⟨tget_tset_same _ _ _, tget_tset_same _ _ _, fun j hj => ⟨tget_tset_of_ne _ _ hj, tget_tset_of_ne _ _ hj⟩⟩
  · have hno : ¬(s.store.snapshot.isSweeping = true ∧ tget s.store.marks i = false) := fun ⟨hs, hm⟩ => by
      rw [s.sweeping_iff] at h
      simp [hs, hm] at h
    rw [State.copyMeter_store, if_neg hno]
    exact ⟨rfl, rfl⟩
  · apply State.eq_of_fields <;> try simp only [State.copyMeter_frame]
    exact MeterStore.eq_of_fields rfl rfl hcharged.snapshot rfl rfl hcharged.day hcharged.minute

/-- A later change of the meters keeps what was copied. -/
theorem Copied.of_values {t u : State} {i : Fin 1024} (h : Copied s t i) (hvalues : u.store.values = t.store.values)
    (hmarks : u.store.marks = t.store.marks) (hu : u = { s with
      store := { u.store with
        snapshot := s.store.snapshot, snapshotDay := s.store.snapshotDay, snapshotMinute := s.store.snapshotMinute }
      att := u.att }) : Copied s u i := by
  obtain ⟨hcopy, hstand, -⟩ := h
  rw [Copied, hvalues, hmarks]
  exact ⟨hcopy, hstand, hu⟩

/-! ### A meter raised -/

/-- R151, R153: meter `i` has risen to `v`, and the rest of the meters stand. -/
abbrev Added (s t : State) (i : Fin 1024) (v : Nat) : Prop :=
  (tget t.store.meters i).value = v ∧ (∀ j, j ≠ i → tget t.store.meters j = tget s.store.meters j) ∧
  (tget t.store.meters i).full = ((tget s.store.meters i).full || decide (v = 16777215)) ∧
  t.store.fullCount = s.store.fullCount + (decide (v = 16777215) && !(tget s.store.meters i).full).toNat ∧
  (v = 16777215 → (tget s.store.meters i).full = false → t.isPending .maintenance .meterFull = true) ∧
  (v ≠ 16777215 ∨ (tget s.store.meters i).full = true → t.att = s.att)

theorem State.raiseMeter_full {i : Fin 1024} {v : Nat} (h : v = 16777215 ∧ (tget s.store.meters i).full = false) :
    s.raiseMeter i v = ({ s with store := { s.store with
      meters := tset s.store.meters i ⟨v, true⟩, fullCount := s.store.fullCount + 1 } } : State).post .maintenance .meterFull :=
  if_pos h

theorem State.raiseMeter_plain {i : Fin 1024} {v : Nat} (h : ¬(v = 16777215 ∧ (tget s.store.meters i).full = false)) :
    s.raiseMeter i v = { s with store := { s.store with meters := tset s.store.meters i ⟨v, (tget s.store.meters i).full⟩ } } :=
  if_neg h

theorem State.raiseMeter_added (s : State) (i : Fin 1024) (v : Nat) : Added s (s.raiseMeter i v) i v := by
  by_cases h : v = 16777215 ∧ (tget s.store.meters i).full = false
  · rw [State.raiseMeter_full h]
    obtain ⟨hv, hfull⟩ := h
    simp +contextual [Added, hfull, hv, tget_tset_of_ne]
  · rw [State.raiseMeter_plain h]
    refine ⟨by simp, fun j hj => tget_tset_of_ne _ _ hj, ?_, ?_, fun hv hfull => absurd ⟨hv, hfull⟩ h, fun _ => rfl⟩
    · have : (tget s.store.meters i).full = false → v ≠ 16777215 := fun hfull hv => h ⟨hv, hfull⟩
      cases hfull : (tget s.store.meters i).full <;> simp_all
    · have : (decide (v = 16777215) && !(tget s.store.meters i).full) = false := by simpa using h
      rw [this]
      rfl

/-- A meter raised after its copy (R151, R153, R158). -/
theorem State.raiseCopied_added (s : State) (i : Fin 1024) (v : Nat) : Added s ((s.copyMeter i).raiseMeter i v) i v := by
  have h := (s.copyMeter i).raiseMeter_added i v
  simpa only [Added, State.copyMeter_meters, State.copyMeter_fullCount, State.copyMeter_frame] using h

theorem State.raiseCopied_copied (s : State) (i : Fin 1024) (v : Nat) : Copied s ((s.copyMeter i).raiseMeter i v) i := by
  obtain ⟨hsnapshot, hvalues, hmarks, hday, hminute⟩ := (s.copyMeter i).raiseMeter_snapshot i v
  have hcharged := s.copyMeter_charged i
  refine (s.copyMeter_copied i).of_values hvalues hmarks ?_
  apply State.eq_of_fields <;> try simp only [State.raiseMeter_frame, State.copyMeter_frame]
  exact MeterStore.eq_of_fields rfl rfl (hsnapshot.trans hcharged.snapshot) rfl rfl (hday.trans hcharged.day)
    (hminute.trans hcharged.minute)

theorem State.addUnit_eq (s : State) (i : Fin 1024) :
    s.addUnit i = (s.copyMeter i).raiseMeter i (min 16777215 ((tget s.store.meters i).value + 1)) := by
  rw [State.addUnit, State.copyMeter_meters]
  rfl

/-! ### Adjust Meter and Preset Meter -/

theorem subscriberOperand_eq {equipment : Half} {party : Byte} {n : LineNo} {y : Party} (hn : equipment.toNat = n.val)
    (hy : party.toNat = y.code) : subscriberOperand equipment party = some ⟨n, y⟩ := by
  rw [subscriberOperand, numbered_val n hn, partyOperand_eq_some_iff.2 hy]

theorem subscriberOperand_eq_none {equipment : Half} {party : Byte} (h : 512 ≤ equipment.toNat ∨ 2 ≤ party.toNat) :
    subscriberOperand equipment party = none := by
  unfold subscriberOperand
  have hnone : numbered 512 equipment.toNat = none ∨ partyOperand party = none := h.imp numbered_none partyOperand_eq_none
  split
  · simp_all
  · rfl

theorem State.preset_meter (s : State) (i : Fin 1024) (v : Nat) :
    tget ((s.copyMeter i).presetTo i v).store.meters i = ⟨v, false⟩ := tget_tset_same _ _ _

theorem State.preset_rest (s : State) {i j : Fin 1024} (v : Nat) (h : j ≠ i) :
    tget ((s.copyMeter i).presetTo i v).store.meters j = tget s.store.meters j := by
  rw [← s.copyMeter_meters i]
  exact tget_tset_of_ne _ _ h

theorem State.preset_fullCount (s : State) (i : Fin 1024) (v : Nat) :
    ((s.copyMeter i).presetTo i v).store.fullCount = s.store.fullCount - (tget s.store.meters i).full.toNat := by
  simp only [State.presetTo, State.copyMeter_meters, State.copyMeter_fullCount]

/-- R158: the copies that a change of meter `i` leaves alone. -/
theorem State.copyMeter_elsewhere (s : State) {i j : Fin 1024} (h : j ≠ i ∨ ¬s.sweeping ∨ tget s.store.marks i = true) :
    tget (s.copyMeter i).store.values j = tget s.store.values j ∧ tget (s.copyMeter i).store.marks j = tget s.store.marks j := by
  obtain ⟨hcopy, hstand, -⟩ := s.copyMeter_copied i
  by_cases hs : ¬s.sweeping ∨ tget s.store.marks i = true
  · obtain ⟨hvalues, hmarks⟩ := hstand hs
    rw [hvalues, hmarks]
    exact ⟨rfl, rfl⟩
  · obtain ⟨hsweeping, hmark⟩ := not_or.1 hs
    obtain ⟨-, -, hrest⟩ := hcopy (not_not.1 hsweeping) (Bool.eq_false_iff.2 hmark)
    exact hrest j (h.resolve_right hs)

/-- Settles O46. -/
theorem metersAreAddedToAndPreset : Obligations.MetersAreAddedToAndPreset := by
  refine ⟨fun s n y _ => ⟨?_, ?_, fun x => ⟨fun equipment party m hn hy => ?_, fun equipment party m h => ?_⟩⟩,
    fun x s n y equipment party value hn hy => ⟨fun hs => ?_, fun hs =>
      ⟨(s.copyMeter (Subscriber.meterIndex ⟨n, y⟩)).presetTo (Subscriber.meterIndex ⟨n, y⟩) value.toNat,
        State.runs_of_doneWith rfl ?_, s.preset_meter _ _, ?_⟩⟩⟩
  · rw [State.addUnit_eq]
    exact s.raiseCopied_added _ _
  · rw [State.addUnit_eq]
    exact s.raiseCopied_copied _ _
  · by_cases hm : m.toNat = 0
    · refine ⟨s.copyMeter (Subscriber.meterIndex ⟨n, y⟩), State.runs_of_body rfl ?_, s.copyMeter_copied _,
        fun h => absurd hm h, fun _ => ?_⟩
      · simp only [adjustMeter, subscriberOperand_eq hn hy, if_pos hm]
        rfl
      · exact ⟨s.copyMeter_meters _, s.copyMeter_fullCount _, by simp⟩
    · refine ⟨(s.copyMeter (Subscriber.meterIndex ⟨n, y⟩)).raiseMeter (Subscriber.meterIndex ⟨n, y⟩)
        (min 16777215 ((tget s.store.meters (Subscriber.meterIndex ⟨n, y⟩)).value + m.toNat)), State.runs_of_body rfl ?_,
        s.raiseCopied_copied _ _, fun _ => s.raiseCopied_added _ _, fun h => absurd h hm⟩
      simp only [adjustMeter, subscriberOperand_eq hn hy, if_neg hm]
      rfl
  · exact State.refusesWith_of_refuse rfl (by rw [adjustMeter, subscriberOperand_eq_none h])
  · exact State.refusesWith_of_refuse rfl (by simp only [presetMeter, subscriberOperand_eq hn hy, if_pos hs])
  · simp only [presetMeter, subscriberOperand_eq hn hy, if_neg (not_not.2 hs)]
  · obtain ⟨hcopy, hstand, -⟩ := s.copyMeter_copied (Subscriber.meterIndex ⟨n, y⟩)
    refine ⟨fun j hj => s.preset_rest value.toNat hj, s.preset_fullCount _ _, fun hsw hm => ?_, fun j hj => ?_,
      (s.copyMeter_charged _).snapshot, ?_⟩
    · obtain ⟨hvalue, hmark, -⟩ := hcopy hsw hm
      exact ⟨hvalue, hmark⟩
    · exact s.copyMeter_elsewhere hj
    · apply State.eq_of_fields <;> simp [State.presetTo]

end Sys2Proof.Machine
end

section
/-! SUPPORT. The snapshot's own operations (R155 to R157, R160). -/

namespace Sys2Proof.Machine

variable {s : State}

/-- R157: the sweep at a meter that it has still to reach. -/
theorem State.sweepStep_at {i : Fin 1024} {time : Nat} (h : s.store.snapshot = .sweeping i.val time) :
    s.sweepStep = { s.copyMeter i with store := { (s.copyMeter i).store with snapshot := .sweeping (i.val + 1) time } } := by
  simp only [State.sweepStep, h, numbered_val i rfl]

theorem State.sweepStep_past (h : ∀ position time, s.store.snapshot = .sweeping position time → 1024 ≤ position) :
    s.sweepStep = s := by
  unfold State.sweepStep
  split
  · next position time hs => rw [numbered_none (h position time hs)]
  · rfl

/-- R157: what the copy of a meter writes into the snapshot while it is SWEEPING. -/
theorem State.copyMeter_sweeping (s : State) (i : Fin 1024) (hs : s.sweeping) : tget (s.copyMeter i).store.marks i = true ∧
    tget (s.copyMeter i).store.values i = if tget s.store.marks i then tget s.store.values i else tget s.store.meters i := by
  refine ⟨s.copyMeter_mark i (s.sweeping_iff.1 hs), ?_⟩
  obtain ⟨hcopy, hstand, -⟩ := s.copyMeter_copied i
  cases hm : tget s.store.marks i with
  | false =>
    obtain ⟨hvalue, -, -⟩ := hcopy hs hm
    exact hvalue
  | true => rw [(hstand (.inr hm)).1, if_pos rfl]

theorem State.sweepDone_early {position time : Nat} (h : s.store.snapshot = .sweeping position time) (ht : time < 20) :
    s.sweepDone = s := by
  rw [State.sweepDone, h]
  exact if_neg (not_le.2 ht)

theorem State.sweepDone_late {position time : Nat} (h : s.store.snapshot = .sweeping position time) (ht : 20 ≤ time) :
    s.sweepDone = { s.sweepRest with store := { s.sweepRest.store with snapshot := .ready } } := by
  rw [State.sweepDone, h]
  exact if_pos ht

theorem State.sweepDone_idle (h : ¬s.sweeping) : s.sweepDone = s := by
  unfold State.sweepDone
  split
  · next position time hs => exact absurd ⟨position, time, hs⟩ h
  · rfl

theorem State.sweepRest_mark (s : State) (i : Fin 1024) : tget s.sweepRest.store.marks i = true := by
  simp [State.sweepRest]

theorem State.sweepRest_ready (s : State) : ({ s.sweepRest with store := { s.sweepRest.store with snapshot := .ready } } : State) =
    { s with store := { s.store with snapshot := .ready, marks := s.sweepRest.store.marks, values := s.sweepRest.store.values } } := by
  simp only [State.sweepRest]

/-- Settles O47. -/
theorem snapshotIsSweptAndReleased : Obligations.SnapshotIsSweptAndReleased := by
  refine ⟨fun s => ⟨fun hs => ⟨{ s.store with
      snapshot := .sweeping 0 0, marks := Vector.replicate 1024 false, snapshotDay := s.tariff.day, snapshotMinute := s.tariff.minute },
      ?_, fun i => tget_replicate _ i, rfl⟩, fun hs => ?_, ?_⟩,
    fun s => ⟨fun i time hs => ⟨_, congrArg Host.Outcome.next (State.sweepStep_at hs), ?_⟩,
      fun h => congrArg Host.Outcome.next (State.sweepStep_past h), fun position time hs => ⟨fun ht => ?_, fun ht => ⟨_,
        congrArg Host.Outcome.next (State.sweepDone_late hs ht), rfl, fun i => ⟨s.sweepRest_mark i, s.sweepRest_value i⟩, ?_⟩⟩,
      fun hs => congrArg Host.Outcome.next (State.sweepDone_idle hs)⟩⟩
  · exact State.runs_billing rfl (by decide) (by simp only [takeSnapshot, hs, doneWith, Response.of])
  · refine State.runs_billing rfl (by decide) ?_
    unfold takeSnapshot
    split
    · contradiction
    · rfl
  · exact State.runs_billing rfl (by decide) rfl
  · have hsweeping : s.sweeping := ⟨_, _, hs⟩
    obtain ⟨hmark, hvalue⟩ := s.copyMeter_sweeping i hsweeping
    have hcharged := s.copyMeter_charged i
    refine ⟨rfl, hmark, hvalue, fun j hj => (s.copyMeter_elsewhere (.inl hj)).symm, ?_⟩
    apply State.eq_of_fields <;> try simp only [State.copyMeter_frame]
    exact MeterStore.eq_of_fields (s.copyMeter_meters i) (s.copyMeter_fullCount i) rfl rfl rfl hcharged.day hcharged.minute
  · exact congrArg Host.Outcome.next (State.sweepDone_early hs ht)
  · exact s.sweepRest_ready

end Sys2Proof.Machine
end

section
/-! SUPPORT. Units charged to meter contexts and meters, at answer (R140, R141, R145) and at the metering steps (R135, R142 to R144). -/

namespace Sys2Proof.Machine

variable {s t u : State}

/-! ### What charging changes -/

/-- `t` is `s` after `n i` units were charged to each meter `i`, whatever became of the registers. -/
structure Billed (s t : State) (n : Fin 1024 → Nat) : Prop where
  value : ∀ i, n i ≠ 0 → (tget t.store.meters i).value = min 16777215 ((tget s.store.meters i).value + n i)
  rest : ∀ i, n i = 0 → tget t.store.meters i = tget s.store.meters i
  quiet : (∀ i, n i = 0) → t.store = s.store ∧ t.att = s.att
  subject : ∀ j, j ≠ .maintenance → t.subject j = s.subject j
  frame : t = { s with regs := t.regs, store := t.store, att := t.att }

theorem Billed.refl (s : State) : Billed s s fun _ => 0 :=
  ⟨fun _ h => absurd rfl h, fun _ _ => rfl, fun _ => ⟨rfl, rfl⟩, fun _ _ => rfl, rfl⟩

theorem Billed.modReg (s : State) (r : RegNo) (f : CallRegister → CallRegister) : Billed s (s.modReg r f) fun _ => 0 :=
  ⟨fun _ h => absurd rfl h, fun _ _ => rfl, fun _ => ⟨rfl, rfl⟩, fun _ _ => rfl, rfl⟩

theorem Billed.trans {m n : Fin 1024 → Nat} (h : Billed s t m) (k : Billed t u n) : Billed s u fun i => m i + n i where
  value i hi := by
    by_cases hm : m i = 0
    · rw [k.value i (by omega), h.rest i hm, hm, zero_add]
    · by_cases hn : n i = 0
      · rw [k.rest i hn, h.value i hm, hn, add_zero]
      · rw [k.value i hn, h.value i hm]
        omega
  rest i hi := by rw [k.rest i (by omega), h.rest i (by omega)]
  quiet hi := by
    obtain ⟨hstore, hatt⟩ := h.quiet fun i => (Nat.add_eq_zero_iff.1 (hi i)).1
    obtain ⟨kstore, katt⟩ := k.quiet fun i => (Nat.add_eq_zero_iff.1 (hi i)).2
    exact ⟨kstore.trans hstore, katt.trans hatt⟩
  subject j hj := (k.subject j hj).trans (h.subject j hj)
  frame := by rw [k.frame, h.frame]

theorem Billed.congr {m n : Fin 1024 → Nat} (h : Billed s t m) (e : ∀ i, m i = n i) : Billed s t n := funext e ▸ h

/-- Within the range of R150 a meter's value is told by one formula. -/
theorem Billed.value_eq {n : Fin 1024 → Nat} (h : Billed s t n) (hs : MeterRange s) (i : Fin 1024) :
    (tget t.store.meters i).value = min 16777215 ((tget s.store.meters i).value + n i) := by
  by_cases hn : n i = 0
  · have hle : (tget s.store.meters i).value ≤ 16777215 := hs i
    rw [h.rest i hn, hn, add_zero, min_eq_right hle]
  · exact h.value i hn

theorem State.raiseMeter_subject (s : State) (i : Fin 1024) (v : Nat) {j : Subject} (hj : j ≠ .maintenance) :
    (s.raiseMeter i v).subject j = s.subject j := by
  unfold State.raiseMeter
  dsimp only
  split
  · rw [State.post_subject, if_neg hj]
    rfl
  · rfl

theorem State.addUnit_billed (s : State) (i : Fin 1024) : Billed s (s.addUnit i) fun j => if j = i then 1 else 0 := by
  obtain ⟨hvalue, hrest, -⟩ := s.raiseCopied_added i (min 16777215 ((tget s.store.meters i).value + 1))
  rw [← State.addUnit_eq] at hvalue hrest
  refine ⟨fun j hj => ?_, fun j hj => ?_, fun h => absurd (h i) (by simp), fun j hj => ?_, ?_⟩
  · obtain rfl : j = i := by simpa using hj
    rw [hvalue, if_pos rfl]
  · exact hrest j (by simpa using hj)
  · rw [State.addUnit_eq, State.raiseMeter_subject _ _ _ hj, State.subject, (State.copyMeter_frame s i).2.2.2.2.2.2.2.2.2.1]
    rfl
  · apply State.eq_of_fields <;> simp

/-! ### A unit charged to a context (R140) -/

/-- What a unit charged to the context charges to meter `i`. -/
def MeterContext.charges (c : MeterContext) (i : Fin 1024) : Nat := if c.meter.map Subscriber.meterIndex = some i then 1 else 0

theorem State.chargeUnit_billed {r : RegNo} {c : MeterContext} (h : (s.reg r).meter = some c) :
    Billed s (s.chargeUnit r) c.charges := by
  have hunits := Billed.modReg s r fun g => { g with meter := some { c with units := min Config.maxUnits (c.units + 1) } }
  rw [State.chargeUnit, h]
  dsimp only
  split
  · next hx => exact hunits.congr fun i => by simp [MeterContext.charges, hx]
  · next x hx =>
    refine (hunits.trans (State.addUnit_billed _ x.meterIndex)).congr fun i => ?_
    simp [MeterContext.charges, hx, eq_comm]

theorem State.chargeUnit_reg {r : RegNo} {c : MeterContext} (h : (s.reg r).meter = some c) (q : RegNo) :
    (s.chargeUnit r).reg q = if q = r then { s.reg r with meter := some { c with units := min 65535 (c.units + 1) } } else s.reg q := by
  have hreg (i : Fin 1024) (u : State) : (u.addUnit i).reg q = u.reg q := by
    rw [State.reg, (State.addUnit_frame u i).1]
    rfl
  rw [State.chargeUnit, h]
  dsimp only
  split
  · exact State.modReg_reg _ _ _ _
  · exact (hreg _ _).trans (State.modReg_reg _ _ _ _)

theorem State.chargeUnits_billed {r : RegNo} (n : Nat) {c : MeterContext} (h : (s.reg r).meter = some c) :
    Billed s (s.chargeUnits r n) fun i => n * c.charges i := by
  induction n generalizing s c with
  | zero => exact (Billed.refl s).congr fun i => (Nat.zero_mul _).symm
  | succ n ih =>
    have hnext : ((s.chargeUnit r).reg r).meter = some { c with units := min 65535 (c.units + 1) } := by
      rw [State.chargeUnit_reg h, if_pos rfl]
    exact ((State.chargeUnit_billed h).trans (ih hnext)).congr fun i => by
      rw [Nat.succ_mul, Nat.add_comm]
      rfl

theorem State.chargeUnits_reg {r : RegNo} (n : Nat) {c : MeterContext} (h : (s.reg r).meter = some c) (hn : c.units + n ≤ 65535)
    (q : RegNo) : (s.chargeUnits r n).reg q =
      if q = r then { s.reg r with meter := some { c with units := c.units + n } } else s.reg q := by
  induction n generalizing s c with
  | zero =>
    split
    · next hq => rw [State.chargeUnits, hq, Nat.add_zero, ← h]
    · rfl
  | succ n ih =>
    have hmin : min 65535 (c.units + 1) = c.units + 1 := by omega
    have hnext : ((s.chargeUnit r).reg r).meter = some { c with units := c.units + 1 } := by
      rw [State.chargeUnit_reg h, if_pos rfl, hmin]
    rw [State.chargeUnits, ih hnext (by dsimp only; omega), State.chargeUnit_reg h, State.chargeUnit_reg h, if_pos rfl]
    split
    · simp only [Nat.add_assoc, Nat.add_comm 1]
    · rfl

/-! ### Answer (R141) -/

/-- The period that a cell starts with: it is the longer one unless F is 0 (R139, R145). -/
theorem TariffCell.periodAt_zero (cell : TariffCell) : cell.periodAt 0 =
    if cell.period.val = 0 then none else some (if 1 ≤ cell.fraction.val then cell.period.val + 1 else cell.period.val) := rfl

section
variable {r : RegNo} {n : LineNo} {p : Party} {level : Nat} {zone : Zone} {ticketed : Bool}

/-- The context of a call from line `n` at its answer, before its units are charged (R141). -/
def State.answerContext (s : State) (zone : Zone) (n : LineNo) (p : Party) : MeterContext :=
  newContext s.tariff zone ⟨n, p⟩ (s.line n).cls

/-- The units charged at answer. -/
def State.answerUnits (s : State) (zone : Zone) : Nat := (tget s.tariff.active (cellIndex zone s.tariff.band)).u0.val

theorem State.startMetering_eq (ho : (s.reg r).origin = some (.line n p))
    (ht : (s.routeEntry r).bind RouteEntry.terms = some (level, zone, ticketed)) :
    s.startMetering r = (s.modReg r fun g => { g with meter := some (s.answerContext zone n p) }).chargeUnits r (s.answerUnits zone) := by
  rw [State.startMetering, ho, ht]
  rfl

theorem State.startMetering_billed (ho : (s.reg r).origin = some (.line n p))
    (ht : (s.routeEntry r).bind RouteEntry.terms = some (level, zone, ticketed)) :
    Billed s (s.startMetering r) fun i => s.answerUnits zone * (s.answerContext zone n p).charges i := by
  have hcharged := State.chargeUnits_billed (s := s.modReg r fun g => { g with meter := some (s.answerContext zone n p) })
    (s.answerUnits zone) (r := r) (c := s.answerContext zone n p) (by simp)
  rw [State.startMetering_eq ho ht]
  exact ((Billed.modReg s r _).trans hcharged).congr fun i => Nat.zero_add _

theorem State.startMetering_reg (ho : (s.reg r).origin = some (.line n p))
    (ht : (s.routeEntry r).bind RouteEntry.terms = some (level, zone, ticketed)) (q : RegNo) : (s.startMetering r).reg q =
      if q = r then { s.reg r with meter := some { s.answerContext zone n p with units := s.answerUnits zone } } else s.reg q := by
  have hunits : (s.answerContext zone n p).units + s.answerUnits zone ≤ 65535 := by
    have hlt : s.answerUnits zone < 16 := Fin.isLt _
    have hzero : (s.answerContext zone n p).units = 0 := rfl
    omega
  rw [State.startMetering_eq ho ht, State.chargeUnits_reg _ (by simp) hunits]
  by_cases hq : q = r
  · rw [if_pos hq, if_pos hq, State.modReg_reg, if_pos rfl]
    simp [State.answerContext, newContext]
  · rw [if_neg hq, if_neg hq, State.modReg_reg, if_neg hq]

end

/-- Settles O44. -/
theorem answerStartsTheMeterContext : Obligations.AnswerStartsTheMeterContext := by
  intro s r n p level zone ticketed ho ht hrange
  have hbilled := State.startMetering_billed ho ht
  have hreg := State.startMetering_reg ho ht
  refine ⟨?_, ?_, fun q hq => ?_, fun i => ?_, fun hs => hbilled.quiet fun i => ?_, hbilled.subject, hbilled.frame⟩
  · rw [hreg, if_pos rfl]
    rfl
  · rw [hreg, if_pos rfl]
  · rw [hreg, if_neg hq]
  · rw [hbilled.value_eq hrange]
    have hle : (tget s.store.meters i).value ≤ 16777215 := hrange i
    by_cases hs : (s.line n).cls = .service
    · simp [MeterContext.charges, State.answerContext, newContext, hs, hle]
    · by_cases hi : i = Subscriber.meterIndex ⟨n, p⟩
      · simp [MeterContext.charges, State.answerContext, State.answerUnits, newContext, hs, hi]
      · simp [MeterContext.charges, State.answerContext, newContext, hs, hi, hle, Ne.symm hi]
  · simp [MeterContext.charges, State.answerContext, newContext, hs]

end Sys2Proof.Machine
end

section
/-! SUPPORT. The metering-step boundary over the forty registers (R135, R142, R143) and the expiry of a period (R143, R144). -/

namespace Sys2Proof.Machine

variable {s : State} {r : RegNo}

/-! ### The expiry of a period -/

/-- A context at the end of its period: a unit is charged and the next period taken up (R143). -/
def MeterContext.expired (c : MeterContext) (u : TariffUnit) : MeterContext :=
  ({ c with units := min 65535 (c.units + 1) } : MeterContext).nextPeriod u

theorem State.expirePeriod_billed {c : MeterContext} (h : (s.reg r).meter = some c) : Billed s (s.expirePeriod r) c.charges :=
  (State.chargeUnit_billed h).trans (Billed.modReg _ r _)

theorem State.expirePeriod_reg {c : MeterContext} (h : (s.reg r).meter = some c) (q : RegNo) : (s.expirePeriod r).reg q =
    if q = r then { s.reg r with meter := some (c.expired s.tariff) } else s.reg q := by
  rw [State.expirePeriod, State.modReg_reg, State.chargeUnit_reg h, State.chargeUnit_reg h, if_pos rfl]
  split <;> rfl

theorem CallRegister.periodDue_iff {g : CallRegister} : g.periodDue = true ↔ ∃ c, g.meter = some c ∧ c.periodRemaining = some 0 := by
  simp [CallRegister.periodDue, Option.any_eq_true]

/-! ### One register's boundary -/

/-- The period ends at the boundary (R142). -/
abbrev MeterContext.ends (c : MeterContext) : Prop := c.step.periodRemaining = some 0

/-- A context after the boundary. -/
def MeterContext.stepped (c : MeterContext) (u : TariffUnit) : MeterContext := if c.ends then c.step.expired u else c.step

/-- A register after the boundary. -/
def CallRegister.stepped (g : CallRegister) (u : TariffUnit) : CallRegister := { g with meter := g.meter.map fun c => c.stepped u }

/-- The units that the boundary charges to meter `i` for a register. -/
def CallRegister.steppedUnits (g : CallRegister) (i : Fin 1024) : Nat :=
  if g.meter.any fun c => decide c.ends && decide (c.meter.map Subscriber.meterIndex = some i) then 1 else 0

theorem State.stepContext_eq {c : MeterContext} (h : (s.reg r).meter = some c) : s.stepContext r =
    if c.ends then (s.modReg r fun g => { g with meter := some c.step }).expirePeriod r
    else s.modReg r fun g => { g with meter := some c.step } := by
  rw [State.stepContext, h]

theorem State.stepContext_none (h : (s.reg r).meter = none) : s.stepContext r = s := by
  rw [State.stepContext, h]

theorem State.stepContext_tariff (s : State) (r : RegNo) : (s.stepContext r).tariff = s.tariff := by
  unfold State.stepContext
  split
  · rfl
  · dsimp only
    split <;> simp [State.expirePeriod]

theorem State.stepContext_reg (s : State) (r q : RegNo) :
    (s.stepContext r).reg q = if q = r then (s.reg r).stepped s.tariff else s.reg q := by
  cases h : (s.reg r).meter with
  | none =>
    rw [State.stepContext_none h, CallRegister.stepped, h]
    split
    · next hq => rw [hq, Option.map_none, ← h]
    · rfl
  | some c =>
    rw [State.stepContext_eq h, CallRegister.stepped, h, Option.map_some, MeterContext.stepped]
    by_cases hends : c.ends
    · rw [if_pos hends, if_pos hends, State.expirePeriod_reg (c := c.step) (by simp), State.modReg_reg, State.modReg_reg, if_pos rfl]
      by_cases hq : q = r
      · rw [if_pos hq, if_pos hq]
        rfl
      · rw [if_neg hq, if_neg hq, if_neg hq]
    · rw [if_neg hends, if_neg hends, State.modReg_reg]

theorem State.stepContext_billed (s : State) (r : RegNo) : Billed s (s.stepContext r) (s.reg r).steppedUnits := by
  cases h : (s.reg r).meter with
  | none =>
    rw [State.stepContext_none h]
    exact (Billed.refl s).congr fun i => by simp [CallRegister.steppedUnits, h]
  | some c =>
    rw [State.stepContext_eq h]
    have hstep := Billed.modReg s r fun g => { g with meter := some c.step }
    by_cases hends : c.ends
    · rw [if_pos hends]
      refine (hstep.trans (State.expirePeriod_billed (c := c.step) (by simp))).congr fun i => ?_
      simp only [CallRegister.steppedUnits, h, Option.any_some, decide_eq_true hends, Bool.true_and, decide_eq_true_eq, Nat.zero_add]
      rfl
    · rw [if_neg hends]
      exact hstep.congr fun i => by
        simp only [CallRegister.steppedUnits, h, Option.any_some, decide_eq_false hends, Bool.false_and, if_neg Bool.false_ne_true]

/-! ### All registers -/

theorem foldl_stepContext_tariff (l : List RegNo) (s : State) : (l.foldl State.stepContext s).tariff = s.tariff :=
  foldl_same _ State.tariff State.stepContext_tariff l s

theorem foldl_stepContext_reg {l : List RegNo} (hl : l.Nodup) (s : State) (q : RegNo) :
    (l.foldl State.stepContext s).reg q = if q ∈ l then (s.reg q).stepped s.tariff else s.reg q := by
  induction l generalizing s with
  | nil => simp
  | cons r l ih =>
    obtain ⟨hr, hl⟩ := List.nodup_cons.1 hl
    rw [List.foldl_cons, ih hl, State.stepContext_tariff, State.stepContext_reg]
    by_cases hq : q = r
    · simp [hq, hr]
    · simp [hq]

theorem foldl_stepContext_billed {l : List RegNo} (hl : l.Nodup) (s : State) :
    Billed s (l.foldl State.stepContext s) fun i => (l.map fun r => (s.reg r).steppedUnits i).sum := by
  induction l generalizing s with
  | nil => exact Billed.refl s
  | cons r l ih =>
    obtain ⟨hr, hl⟩ := List.nodup_cons.1 hl
    refine ((s.stepContext_billed r).trans (ih hl (s.stepContext r))).congr fun i => ?_
    rw [List.map_cons, List.sum_cons]
    refine congrArg _ (congrArg List.sum (List.map_congr_left fun q hq => ?_))
    rw [State.stepContext_reg, if_neg (ne_of_mem_of_not_mem hq hr)]

/-- The units charged to a meter are as many as the registers whose period ends with that meter. -/
theorem sum_map_steppedUnits (s : State) (i : Fin 1024) (l : List RegNo) : (l.map fun r => (s.reg r).steppedUnits i).sum =
    (l.filter fun r => (s.reg r).meter.any fun c =>
      decide c.ends && decide (c.meter.map Subscriber.meterIndex = some i)).length := by
  induction l with
  | nil => rfl
  | cons r l ih =>
    rw [List.map_cons, List.sum_cons, ih, List.filter_cons, CallRegister.steppedUnits]
    split
    · rw [List.length_cons, Nat.add_comm]
    · rw [Nat.zero_add]

theorem MeterContext.ends_iff {c : MeterContext} (h : c.periodRemaining ≠ some 0) : c.ends ↔ c.periodRemaining = some 1 := by
  unfold MeterContext.ends MeterContext.step
  cases hp : c.periodRemaining with
  | none => simp
  | some n =>
    rw [hp] at h
    simp only [Option.map_some, Option.some.injEq, ne_eq] at h ⊢
    omega

/-! ### The clock (R135) -/

/-- The advance moves the clock on by a step, and round at the end of its last day. -/
theorem TariffUnit.advance_clock {u : TariffUnit} (hm : u.minute < 1440) (hs : u.stepCount < 600) :
    u.advance.minute < 1440 ∧ u.advance.stepCount < 600 ∧ u.advance.clock = (u.clock + 1) % (65536 * 864000) := by
  have hday : u.day.toNat < 65536 := u.day.isLt
  unfold TariffUnit.advance
  split
  · next h =>
    refine ⟨hm, h, ?_⟩
    simp only [TariffUnit.clock]
    omega
  · split
    · next hstep h =>
      refine ⟨h, by simp, ?_⟩
      simp only [TariffUnit.clock]
      omega
    · refine ⟨by simp, by simp, ?_⟩
      have hone : (1 : BitVec 16).toNat = 1 := rfl
      simp only [TariffUnit.clock, BitVec.toNat_add, hone]
      omega

theorem TariffUnit.advance_rest (u : TariffUnit) :
    u.advance = { u with day := u.advance.day, minute := u.advance.minute, stepCount := u.advance.stepCount } := by
  unfold TariffUnit.advance
  split
  · rfl
  · split <;> rfl

theorem State.withTariff_reg (s : State) (u : TariffUnit) (r : RegNo) : ({ s with tariff := u } : State).reg r = s.reg r := rfl

theorem State.withTariff_subject (s : State) (u : TariffUnit) (j : Subject) :
    ({ s with tariff := u } : State).subject j = s.subject j := rfl

/-- Every register's context taken over the boundary, before the clock advances. -/
def State.stepContexts (s : State) : State := (List.finRange 40).foldl State.stepContext s

/-- The state at the end of a metering-step boundary. -/
def State.boundary (s : State) : State := { s.stepContexts with tariff := s.stepContexts.tariff.advance }

theorem exec_meteringStepBoundary (s : State) : exec .meteringStepBoundary s = .next s.boundary := by
  rw [State.boundary, State.stepContexts]
  rfl

theorem State.boundary_reg (s : State) (r : RegNo) : s.boundary.reg r = (s.reg r).stepped s.tariff := by
  rw [State.boundary, State.withTariff_reg, State.stepContexts, foldl_stepContext_reg (List.nodup_finRange 40),
    if_pos (List.mem_finRange r)]

theorem State.boundary_tariff (s : State) : s.boundary.tariff = s.tariff.advance := by
  rw [State.boundary, State.stepContexts, foldl_stepContext_tariff]

theorem State.boundary_store (s : State) : s.boundary.store = s.stepContexts.store := by
  rw [State.boundary]

theorem State.boundary_subject (s : State) (j : Subject) : s.boundary.subject j = s.stepContexts.subject j := by
  rw [State.boundary, State.withTariff_subject]

theorem State.boundary_meter {s : State} {r : RegNo} {c : MeterContext} (h : (s.reg r).meter = some c) :
    (s.boundary.reg r).meter = some (c.stepped s.tariff) := by
  rw [State.boundary_reg, CallRegister.stepped, h, Option.map_some]

/-- The units that a boundary charges, where no period stands at 0 before it (R142, R143). -/
theorem State.boundary_billed (s : State) : Billed s s.stepContexts fun i =>
    ((List.finRange 40).filter fun r => (s.reg r).meter.any fun c =>
      decide c.ends && decide (c.meter.map Subscriber.meterIndex = some i)).length :=
  (foldl_stepContext_billed (List.nodup_finRange 40) s).congr fun i => sum_map_steppedUnits s i _

theorem MeterContext.stepped_running {c : MeterContext} (h : ¬c.ends) (u : TariffUnit) : c.stepped u = c.step := if_neg h

theorem MeterContext.stepped_ending {c : MeterContext} (h : c.periodRemaining = some 1) (u : TariffUnit) :
    c.stepped u = ({ c with
      duration := min 16777215 (c.duration + 1), periodRemaining := some 0, units := min 65535 (c.units + 1) } : MeterContext).nextPeriod u := by
  have hstep : c.step = { c with duration := min 16777215 (c.duration + 1), periodRemaining := some 0 } := by
    rw [MeterContext.step, h]
    rfl
  have hends : c.ends := by rw [MeterContext.ends, hstep]
  rw [MeterContext.stepped, if_pos hends, MeterContext.expired, hstep]

/-- Settles O45. -/
theorem meteringStepsCountAndCharge : Obligations.MeteringStepsCountAndCharge := by
  refine ⟨fun s ⟨hminute, hstep⟩ hrange hperiod => ⟨s.boundary, ?_⟩, fun s r => ⟨fun c hc hp => ⟨s.expirePeriod r, ?_, ?_⟩, fun h => ?_⟩⟩
  · have hbilled := s.boundary_billed
    obtain ⟨hm, hs, hclock⟩ := TariffUnit.advance_clock hminute hstep
    have htariff := s.boundary_tariff
    refine ⟨exec_meteringStepBoundary s, ?_, ?_, ?_, fun r hr => ?_, fun r c hc => ⟨?_, fun hp => ?_, fun n hp => ?_, fun hp hg => ?_, fun hp hg => ?_⟩,
      fun i => ?_, fun j hj => ?_, ?_⟩
    · rw [ClockRange, htariff]
      exact ⟨hm, hs⟩
    · rw [htariff, hclock]
    · rw [htariff]
      exact s.tariff.advance_rest
    · rw [State.boundary_reg, CallRegister.stepped, hr, Option.map_none, ← hr]
    · rw [State.boundary_reg]
      rfl
    · rw [State.boundary_meter hc, MeterContext.stepped_running (by simp [MeterContext.step, hp]), MeterContext.step, hp]
      rfl
    · rw [State.boundary_meter hc, MeterContext.stepped_running (by simp [MeterContext.step, hp]), MeterContext.step, hp]
      rfl
    · rw [State.boundary_meter hc, MeterContext.stepped_ending hp]
      exact congrArg some (if_neg (not_not.2 hg))
    · rw [State.boundary_meter hc, MeterContext.stepped_ending hp]
      exact congrArg some (if_pos hg)
    · rw [State.boundary_store]
      refine (hbilled.value_eq hrange i).trans (congrArg (fun n => min 16777215 (_ + n)) ?_)
      refine congrArg List.length (List.filter_congr fun r _ => ?_)
      cases hc : (s.reg r).meter with
      | none => rfl
      | some c => simp only [Option.any_some, decide_eq_decide.2 (MeterContext.ends_iff (hperiod r c hc))]
    · rw [State.boundary_subject, hbilled.subject j hj]
    · rw [State.boundary, hbilled.frame]
  · refine congrArg Host.Outcome.next (if_pos (CallRegister.periodDue_iff.2 ⟨c, hc, hp⟩))
  · have hbilled := State.expirePeriod_billed hc
    refine ⟨?_, fun q hq => ?_, fun x hx => ?_, fun i hi => ?_, hbilled.frame⟩
    · rw [State.expirePeriod_reg hc, if_pos rfl]
      rfl
    · rw [State.expirePeriod_reg hc, if_neg hq]
    · simpa [MeterContext.charges, hx] using hbilled.value x.meterIndex
    · exact hbilled.rest i (if_neg hi)
  · refine congrArg Host.Outcome.next (if_neg fun hdue => ?_)
    obtain ⟨c, hc, hp⟩ := CallRegister.periodDue_iff.1 hdue
    exact h c hc hp

end Sys2Proof.Machine
end

section
/-! SUPPORT. What the network's elements become when a list of them is set (R79), the taking of an order (R98), and the matching of a
completion (R99, R100). -/

namespace Sys2Proof.Machine

variable {s : State}

/-! ### A list of elements -/

@[simp] theorem State.setElems_elem (s : State) (es : List ElemNo) (x : ElemState) (e : ElemNo) :
    (s.setElems es x).elem e = if e ∈ es then x else s.elem e := by
  induction es generalizing s with
  | nil => rfl
  | cons d es ih =>
    refine (ih (s.setElem d x)).trans ?_
    rw [State.setElem_elem]
    by_cases he : e = d
    · simp [he]
    · simp [he]

@[simp] theorem State.setElems_net (s : State) (es : List ElemNo) (x : ElemState) :
    (s.setElems es x).net.groups = s.net.groups ∧ (s.setElems es x).net.huntPointer = s.net.huntPointer := by
  induction es generalizing s with
  | nil => exact ⟨rfl, rfl⟩
  | cons d es ih => exact ih (s.setElem d x)

theorem State.setElems_network (s : State) (es : List ElemNo) (x : ElemState) :
    (s.setElems es x).net = { s.net with elements := (s.setElems es x).net.elements } := by
  obtain ⟨hgroups, hpointer⟩ := s.setElems_net es x
  cases h : (s.setElems es x).net
  simp_all

/-! ### Taking an order (R98) -/

/-- The elements that an order goes out with. -/
def State.orderElements (s : State) : Order → List ElemNo
  | .operate r => (s.reg r).path.elements
  | .release r => (s.reg r).path.elements
  | .networkClear => List.finRange 352

/-- The network when an order is taken. -/
def State.orderSent (s : State) : Order → State
  | .operate r => s.setElems (s.reg r).path.elements .operating
  | _ => s

theorem State.takeOrder_eq {o : Order} {rest : List Order} (hf : s.orders.inFlight = none) (hq : s.orders.queue = o :: rest) :
    s.takeOrder = { s.orderSent o with orders := { s.orders with
      queue := rest
      tag := s.orders.tag + 1
      inFlight := some ⟨o, s.orders.tag + 1, s.orderElements o, 0, false⟩ } } := by
  rw [State.takeOrder, hf, hq]
  cases o <;> rfl

theorem State.takeOrder_none (h : s.orders.inFlight ≠ none ∨ s.orders.queue = []) : s.takeOrder = s := by
  unfold State.takeOrder
  split
  · next hf hq => exact absurd hf (h.resolve_right (by simp [hq]))
  · rfl

/-- Settles O34. -/
theorem ordersAreTakenOldestFirst : Obligations.OrdersAreTakenOldestFirst := by
  refine fun s => ⟨fun o rest hf hq => ⟨rfl, ?_⟩, fun h => ⟨congrArg Host.Outcome.next (State.takeOrder_none h), State.takeOrder_none h⟩⟩
  rw [State.takeOrder_eq hf hq]
  refine ⟨fun r ho => ?_, fun r ho => ?_, fun ho => ?_, ?_⟩
  · subst ho
    exact ⟨rfl, fun e => s.setElems_elem _ _ e⟩
  · subst ho
    exact ⟨rfl, rfl⟩
  · subst ho
    exact ⟨rfl, rfl⟩
  · cases o with
    | operate r =>
      apply State.eq_of_fields <;> try simp only [State.orderSent, State.setElems_frame]
      exact s.setElems_network _ _
    | release r => rfl
    | networkClear => rfl

/-! ### Completions (R99, R100) -/

theorem any_result_iff {results : List (Half × Bool)} {e : ElemNo} {good : Bool} :
    (results.any fun x => x.1.toNat = e.val && x.2 == good) = true ↔ ∃ n, (n, good) ∈ results ∧ n.toNat = e.val := by
  simp only [List.any_eq_true, Bool.and_eq_true, decide_eq_true_eq, beq_iff_eq]
  exact ⟨fun ⟨⟨n, g⟩, hmem, hn, hg⟩ => ⟨n, by simpa [← hg] using hmem, hn⟩, fun ⟨n, hmem, hn⟩ => ⟨(n, good), hmem, hn, rfl⟩⟩

theorem checkResult_eq (draw : Nat) (results : List (Half × Bool)) (e : ElemNo) : checkResult draw results e =
    let good := results.any fun x => x.1.toNat = e.val && x.2 == true
    let bad := results.any fun x => x.1.toNat = e.val && x.2 == false
    if good && bad then Config.contradictoryCheckGood draw e.val else good := by
  simp [checkResult]

theorem checkResult_good {draw : Nat} {results : List (Half × Bool)} {e : ElemNo} (hgood : ∃ n, (n, true) ∈ results ∧ n.toNat = e.val)
    (hbad : ∀ n, (n, false) ∈ results → n.toNat ≠ e.val) : checkResult draw results e = true := by
  have hnot : ¬(results.any fun x => x.1.toNat = e.val && x.2 == false) = true := fun h => by
    obtain ⟨n, hmem, hn⟩ := any_result_iff.1 h
    exact hbad n hmem hn
  simp only [checkResult_eq, any_result_iff.2 hgood, Bool.eq_false_iff.2 hnot]
  rfl

theorem checkResult_absent {draw : Nat} {results : List (Half × Bool)} {e : ElemNo}
    (h : ∀ n, (n, true) ∈ results → n.toNat ≠ e.val) : checkResult draw results e = false := by
  have hnot : ¬(results.any fun x => x.1.toNat = e.val && x.2 == true) = true := fun hany => by
    obtain ⟨n, hmem, hn⟩ := any_result_iff.1 hany
    exact h n hmem hn
  simp only [checkResult_eq, Bool.eq_false_iff.2 hnot]
  rfl

/-- Settles O35. -/
theorem completionsAreMatchedAndTimed : Obligations.CompletionsAreMatchedAndTimed := by
  refine ⟨fun s c f hf => ⟨fun hkind htag => ⟨checkResult s.draws c.results, congrArg Host.Outcome.next ?_, fun e =>
    ⟨checkResult_good, checkResult_absent⟩⟩, fun hne => congrArg Host.Outcome.next ?_, fun ht => congrArg Host.Outcome.next ?_,
    fun ht => ⟨_, rfl, congrArg Host.Outcome.next ?_⟩⟩, fun s c hf => ⟨congrArg Host.Outcome.next ?_, congrArg Host.Outcome.next ?_⟩⟩
  · simp only [State.takeCompletion, hf, if_pos (And.intro hkind htag)]
  · simp only [State.takeCompletion, hf, if_neg (not_and_or.2 hne)]
  · rw [State.driveExpiry, hf]
    exact if_neg (not_le.2 ht)
  · rw [State.driveExpiry, hf]
    exact if_pos ht
  · rw [State.takeCompletion, hf]
  · rw [State.driveExpiry, hf]

end Sys2Proof.Machine
end

section
/-! SUPPORT. Which path a hunt takes (R80, R84 to R86) and what the hunt of a register does (R82, R83, R87, R88). -/

namespace Sys2Proof.Machine

variable {s : State}

/-! ### The first in an order of numbers -/

/-- The first number whose value is present decides. -/
theorem findSome?_finRange {α : Type} {n : Nat} {g : Fin n → Option α} {k : Fin n} {v : α} (hk : g k = some v)
    (hl : ∀ l, l < k → g l = none) : (List.finRange n).findSome? g = some v := by
  induction n with
  | zero => exact k.elim0
  | succ n ih =>
    rw [List.finRange_succ, List.findSome?_cons, List.findSome?_map]
    cases k using Fin.cases with
    | zero => rw [hk]
    | succ k =>
      rw [hl 0 (Fin.succ_pos k)]
      exact ih (g := g ∘ Fin.succ) hk fun l hlk => hl l.succ (Fin.succ_lt_succ_iff.2 hlk)

/-- The first number that satisfies a test is found. -/
theorem find?_map_finRange {β : Type} {n : Nat} {f : Fin n → β} {p : β → Bool} {k : Fin n} (hk : p (f k) = true)
    (hl : ∀ l, l < k → p (f l) = false) : ((List.finRange n).map f).find? p = some (f k) := by
  rw [List.find?_map, Option.map_eq_some_iff]
  refine ⟨k, ?_, rfl⟩
  rw [← List.findSome?_guard]
  refine findSome?_finRange (k := k) ?_ fun l hlk => ?_
  · simp [Option.guard, hk]
  · simp [Option.guard, hl l hlk]

theorem findSome?_huntOrder {α : Type} {p : Fin 8} {g : Fin 8 → Option α} {k : Fin 8} {v : α} (hk : g (p + k) = some v)
    (hl : ∀ l, l < k → g (p + l) = none) : (huntOrder p).findSome? g = some v := by
  rw [huntOrder, List.findSome?_map]
  exact findSome?_finRange hk hl

/-- The hunt order comes to every switch (R80). -/
theorem mem_huntOrder (p w : Fin 8) : w ∈ huntOrder p :=
  List.mem_map.2 ⟨w - p, List.mem_finRange _, add_sub_cancel p w⟩

theorem findSome?_huntOrder_none {α : Type} {p : Fin 8} {g : Fin 8 → Option α} (h : ∀ w, g w = none) :
    (huntOrder p).findSome? g = none := List.findSome?_eq_none_iff.2 fun w _ => h w

theorem any_huntOrder_iff {p : Fin 8} {q : Fin 8 → Bool} : ((huntOrder p).any q) = true ↔ ∃ w, q w = true := by
  rw [List.any_eq_true]
  exact ⟨fun ⟨w, _, hw⟩ => ⟨w, hw⟩, fun ⟨w, hw⟩ => ⟨w, mem_huntOrder p w, hw⟩⟩

/-! ### One switch -/

theorem State.isFree_iff {e : ElemNo} : s.isFree e = true ↔ s.elem e = .free := decide_eq_true_iff

theorem State.isFree_eq_false {e : ElemNo} (h : s.elem e ≠ .free) : s.isFree e = false := decide_eq_false h

/-- The junctor that a switch numbers `k` (R76). -/
abbrev switchJunctor (w k : Fin 8) : Fin 64 := ⟨8 * w.val + k.val, by omega⟩

/-- The outgoing trunk that a switch numbers `k` (R76). -/
abbrev switchTrunk (w : Fin 8) (k : Fin 4) : OutNo := ⟨4 * w.val + k.val, by omega⟩

theorem State.freeJunctor_eq {w m : Fin 8} (hm : s.elem (junctorElem (switchJunctor w m)) = .free)
    (hl : ∀ l, l < m → s.elem (junctorElem (switchJunctor w l)) ≠ .free) : s.freeJunctor w = some (switchJunctor w m) :=
  find?_map_finRange (f := switchJunctor w) (State.isFree_iff.2 hm) fun l hlm => State.isFree_eq_false (hl l hlm)

theorem State.freeJunctor_none {w : Fin 8} (h : ∀ k, s.elem (junctorElem (switchJunctor w k)) ≠ .free) : s.freeJunctor w = none := by
  rw [State.freeJunctor, junctorsOf, List.find?_eq_none]
  intro j hj
  obtain ⟨k, -, rfl⟩ := List.mem_map.1 hj
  exact Bool.not_eq_true _ ▸ State.isFree_eq_false (h k)

/-- A trunk of a switch that is FREE and assigned to a group (R85). -/
abbrev State.offers (s : State) (g : GroupNo) (w : Fin 8) (k : Fin 4) : Prop :=
  s.elem (outElem (switchTrunk w k)) = .free ∧ tget s.net.groups (switchTrunk w k) = some g

theorem State.freeTrunk_eq {w : Fin 8} {g : GroupNo} {m : Fin 4} (hm : s.offers g w m) (hl : ∀ l, l < m → ¬s.offers g w l) :
    s.freeTrunk w g = some (switchTrunk w m) :=
  find?_map_finRange (f := switchTrunk w) (by simpa [State.isFree] using hm) fun l hlm => by
    simpa [State.isFree] using hl l hlm

theorem State.freeTrunk_none {w : Fin 8} {g : GroupNo} (h : ∀ k, ¬s.offers g w k) : s.freeTrunk w g = none := by
  rw [State.freeTrunk, outTrunksOf, List.find?_eq_none]
  intro o ho
  obtain ⟨k, -, rfl⟩ := List.mem_map.1 ho
  simpa [State.isFree] using h k

/-- Both links of a switch are FREE for a local call (R84). -/
abbrev State.localLinks (s : State) (g1 g2 : Fin 16) (w : Fin 8) : Prop := s.elem (oLink g1 w) = .free ∧ s.elem (tLink g2 w) = .free

theorem State.localLinks_iff {g1 g2 : Fin 16} {w : Fin 8} :
    (s.isFree (oLink g1 w) && s.isFree (tLink g2 w)) = true ↔ s.localLinks g1 g2 w := by
  rw [Bool.and_eq_true, State.isFree_iff, State.isFree_iff]

theorem State.localAt_eq {g1 g2 : Fin 16} {w m : Fin 8} (hlinks : s.localLinks g1 g2 w)
    (hm : s.elem (junctorElem (switchJunctor w m)) = .free)
    (hl : ∀ l, l < m → s.elem (junctorElem (switchJunctor w l)) ≠ .free) : s.localAt g1 g2 w = some
      ⟨w, ⟨some (oLink g1 w), some (junctorElem (switchJunctor w m)), some (tLink g2 w)⟩, some (switchJunctor w m), none, none⟩ := by
  rw [State.localAt, if_pos (State.localLinks_iff.2 hlinks), State.freeJunctor_eq hm hl]
  rfl

theorem State.localAt_none {g1 g2 : Fin 16} {w : Fin 8}
    (h : ¬(s.localLinks g1 g2 w ∧ ∃ k, s.elem (junctorElem (switchJunctor w k)) = .free)) : s.localAt g1 g2 w = none := by
  unfold State.localAt
  split
  · next hlinks =>
    rw [State.freeJunctor_none fun k hk => h ⟨State.localLinks_iff.1 hlinks, k, hk⟩]
    rfl
  · rfl

theorem State.outgoingAt_eq {g1 : Fin 16} {g : GroupNo} {alternate : Bool} {w : Fin 8} {m : Fin 4}
    (hlink : s.elem (oLink g1 w) = .free) (hm : s.offers g w m) (hl : ∀ l, l < m → ¬s.offers g w l) :
    s.outgoingAt g1 g alternate w = some
      ⟨w, ⟨some (oLink g1 w), some (outElem (switchTrunk w m)), none⟩, none, some (switchTrunk w m), some alternate⟩ := by
  rw [State.outgoingAt, if_pos (State.isFree_iff.2 hlink), State.freeTrunk_eq hm hl]
  rfl

theorem State.outgoingAt_none {g1 : Fin 16} {g : GroupNo} {alternate : Bool} {w : Fin 8}
    (h : ¬(s.elem (oLink g1 w) = .free ∧ ∃ k, s.offers g w k)) : s.outgoingAt g1 g alternate w = none := by
  unfold State.outgoingAt
  split
  · next hlink =>
    rw [State.freeTrunk_none fun k hk => h ⟨State.isFree_iff.1 hlink, k, hk⟩]
    rfl
  · rfl

/-! ### Hunts -/

/-- Settles O32. -/
theorem huntsTakeTheFirstUsableSwitch : Obligations.HuntsTakeTheFirstUsableSwitch := by
  refine fun s => ⟨fun g1 g2 => ⟨fun k m hk hl hm hlm => ?_, fun hnone hlinks => ?_, fun hnone => ?_⟩,
    fun g1 primary alternate => ⟨fun k m hfirst => ?_, fun g k m hnone halternate hfirst => ?_, fun hnone halternate => ?_⟩, fun i g2 w hw => ?_⟩
  · rw [State.huntLocal, findSome?_huntOrder (State.localAt_eq hk.1 hm hlm) fun l hlk => State.localAt_none (hl l hlk)]
  · have hany : ((huntOrder s.net.huntPointer).any fun w => s.isFree (oLink g1 w) && s.isFree (tLink g2 w)) = true :=
      any_huntOrder_iff.2 (hlinks.imp fun w hw => State.localLinks_iff.2 hw)
    rw [State.huntLocal, findSome?_huntOrder_none fun w => State.localAt_none (hnone w)]
    exact if_pos hany
  · have hany : ¬((huntOrder s.net.huntPointer).any fun w => s.isFree (oLink g1 w) && s.isFree (tLink g2 w)) = true := fun h => by
      obtain ⟨w, hw⟩ := any_huntOrder_iff.1 h
      exact hnone w (State.localLinks_iff.1 hw)
    rw [State.huntLocal, findSome?_huntOrder_none fun w => State.localAt_none fun h => hnone w h.1]
    exact if_neg hany
  · obtain ⟨⟨hlink, -⟩, hl, hm, hlm⟩ := hfirst
    simp only [State.huntOutgoing,
      findSome?_huntOrder (State.outgoingAt_eq hlink hm hlm) fun l hlk => State.outgoingAt_none (hl l hlk)]
  · obtain ⟨⟨hlink, -⟩, hl, hm, hlm⟩ := hfirst
    simp only [State.huntOutgoing, findSome?_huntOrder_none fun w => State.outgoingAt_none (hnone w), halternate, Option.bind_some,
      findSome?_huntOrder (State.outgoingAt_eq hlink hm hlm) fun l hlk => State.outgoingAt_none (hl l hlk)]
  · have hbind : (alternate.bind fun g => (huntOrder s.net.huntPointer).findSome? (s.outgoingAt g1 g true)) = none := by
      rw [Option.bind_eq_none_iff]
      exact fun g hg => findSome?_huntOrder_none fun w => State.outgoingAt_none (halternate g w hg)
    simp only [State.huntOutgoing, findSome?_huntOrder_none fun w => State.outgoingAt_none (hnone w), hbind, any_huntOrder_iff,
      State.isFree_iff]
  · obtain rfl : w = trunkSwitch i := Fin.ext hw
    simp only [State.huntIncoming, State.isFree_iff]

end Sys2Proof.Machine
end

section
/-! SUPPORT. What a successful hunt takes (R88) and what Hunt Path answers (R82, R83, R87). -/

namespace Sys2Proof.Machine

variable {s : State}

/-! ### A record read where its block stands -/

theorem State.reg_congr {t : State} (h : t.regs = s.regs) (r : RegNo) : t.reg r = s.reg r := by rw [State.reg, h]; rfl

theorem State.line_congr {t : State} (h : t.scan = s.scan) (n : LineNo) : t.line n = s.line n := by rw [State.line, h]; rfl

theorem State.trunk_congr {t : State} (h : t.scan = s.scan) (i : TrunkNo) : t.trunk i = s.trunk i := by rw [State.trunk, h]; rfl

theorem State.elem_congr {t : State} (h : t.net = s.net) (e : ElemNo) : t.elem e = s.elem e := by rw [State.elem, h]; rfl

theorem State.subject_congr {t : State} (h : t.att = s.att) (j : Subject) : t.subject j = s.subject j := by rw [State.subject, h]; rfl

/-! ### The path taken -/

section
variable (s) (r : RegNo) (f : Found) (called : Option LineNo) (fromLine : Bool)

theorem State.takePath_reg (q : RegNo) : (s.takePath r f called fromLine).reg q =
    if q = r then { s.reg r with state := .connecting, path := f.path } else s.reg q := by
  have hmod := State.modReg_reg (s.setElems f.path.elements .reserved) r q fun g => { g with state := .connecting, path := f.path }
  simp only [State.reg_congr (State.setElems_frame s f.path.elements .reserved).1] at hmod
  rw [← hmod]
  cases called <;> cases fromLine <;> rfl

theorem State.takePath_elem (e : ElemNo) :
    (s.takePath r f called fromLine).elem e = if e ∈ f.path.elements then .reserved else s.elem e := by
  refine Eq.trans ?_ (s.setElems_elem f.path.elements .reserved e)
  cases called <;> cases fromLine <;> rfl

theorem State.takePath_line (n : LineNo) : (s.takePath r f called fromLine).line n =
    if called = some n then { s.line n with state := .termReserved, register := some r, earlyOffHook := some false } else s.line n := by
  have hline := State.line_congr (State.setElems_frame s f.path.elements .reserved).2.1
  rw [← hline]
  cases called with
  | none => cases fromLine <;> rfl
  | some m =>
    have hmod := State.modLine_line (s.setElems f.path.elements .reserved) m n fun l =>
      { l with state := .termReserved, register := some r, earlyOffHook := some false }
    rw [show (s.takePath r f (some m) fromLine).line n = _ by cases fromLine <;> exact hmod]
    by_cases hn : n = m
    · rw [if_pos hn, if_pos (congrArg some hn.symm), hn]
    · rw [if_neg hn, if_neg fun h => hn (Option.some.inj h).symm]

theorem State.takePath_pointer :
    (s.takePath r f called fromLine).net.huntPointer = if fromLine then f.switch + 1 else s.net.huntPointer := by
  obtain ⟨-, hpointer⟩ := s.setElems_net f.path.elements .reserved
  cases fromLine with
  | false => cases called <;> exact hpointer
  | true => cases called <;> rfl

theorem State.takePath_groups : (s.takePath r f called fromLine).net.groups = s.net.groups := by
  obtain ⟨hgroups, -⟩ := s.setElems_net f.path.elements .reserved
  cases called <;> cases fromLine <;> exact hgroups

theorem State.takePath_orders :
    (s.takePath r f called fromLine).orders = { s.orders with queue := s.orders.queue ++ [.operate r] } := by
  cases called <;> cases fromLine <;> simp [State.takePath, State.appendOrder]

theorem State.takePath_scan :
    (s.takePath r f called fromLine).scan = { s.scan with lines := (s.takePath r f called fromLine).scan.lines } := by
  cases called <;> cases fromLine <;> simp [State.takePath, State.modLine]

theorem State.takePath_rest : s.takePath r f called fromLine = { s with
    regs := (s.takePath r f called fromLine).regs
    scan := (s.takePath r f called fromLine).scan
    net := (s.takePath r f called fromLine).net
    orders := (s.takePath r f called fromLine).orders } := by
  cases called <;> cases fromLine <;> apply State.eq_of_fields <;> simp [State.takePath]

end

/-! ### Hunt Path -/

section
variable {x : Side} {r : RegNo} {b : Byte}

/-- Hunt Path of its binder on a TRANSLATED register, with no element INITIALISING, is the hunt of that register (R82). -/
theorem exec_huntPath {t : State} {y : Response} (htakes : s.takes x (.huntPath (.controller x) b)) (hb : b.toNat = r.val)
    (hr : s.handler (.register r) = some x) (ht : (s.reg r).state = .translated) (hi : ∀ e, s.elem e ≠ .initialising)
    (hunt : s.hunt r = (t, y)) : exec (.huntPath (.controller x) b) s = .next (t.answer (.controller x) y) := by
  refine State.exec_of_takes htakes (State.runs_of_body rfl ?_)
  have hready : ¬s.initialising = true := fun h => by
    obtain ⟨e, he⟩ := State.initialising_iff.1 h
    exact hi e he
  rw [huntPath, acting_bound hb hr, if_neg (not_not.2 ht), if_neg hready, hunt]

end

theorem State.huntOutcome_ok (s : State) (r : RegNo) (f : Found) (called : Option LineNo) (fromLine : Bool) :
    s.huntOutcome r (.ok f) called fromLine = (s.takePath r f called fromLine, ⟨.done, encFound f⟩) := rfl

theorem State.huntOutcome_error (s : State) (r : RegNo) (e : NoPath) (called : Option LineNo) (fromLine : Bool) :
    s.huntOutcome r (.error e) called fromLine = (s, ⟨.noPath, [BitVec.ofNat 8 e.code]⟩) := rfl

/-- Settles O31. -/
theorem huntPathTakesOrRefusesAPath : Obligations.HuntPathTakesOrRefusesAPath := by
  refine ⟨fun x s r b htakes hb hr ht hi => ?_, fun s r f called fromLine => ?_⟩
  · have hexec {t : State} {y : Response} := exec_huntPath (t := t) (y := y) htakes hb hr ht hi
    refine ⟨fun o level zone d ho hroute hd hbusy => hexec ?_, fun n y level zone d ho hroute hd hidle => ⟨fun f hf => hexec ?_,
      fun e he => hexec ?_⟩, fun n y level zone ticketed primary alternate digits strip total ho hroute => ⟨fun f hf => hexec ?_,
      fun e he => hexec ?_⟩, fun i level zone d ho hroute hd hidle => ⟨fun f hf => hexec ?_, fun e he => hexec ?_⟩,
      fun i level zone ticketed primary alternate digits strip total ho hroute => hexec ?_⟩
    · cases o <;> simp only [State.hunt, ho, hroute, hd, if_pos hbusy, refuse, Response.of]
    · simp only [State.hunt, ho, hroute, hd, if_neg (not_not.2 hidle), hf, State.huntOutcome_ok]
    · simp only [State.hunt, ho, hroute, hd, if_neg (not_not.2 hidle), he, State.huntOutcome_error]
    · simp only [State.hunt, ho, hroute, hf, State.huntOutcome_ok]
    · simp only [State.hunt, ho, hroute, he, State.huntOutcome_error]
    · simp only [State.hunt, ho, hroute, hd, if_neg (not_not.2 hidle), hf, State.huntOutcome_ok]
    · simp only [State.hunt, ho, hroute, hd, if_neg (not_not.2 hidle), he, State.huntOutcome_error]
    · simp only [State.hunt, ho, hroute]
      rfl
  · refine ⟨?_, fun q hq => ?_, s.takePath_elem r f called fromLine, fun n hn => ?_, fun n hn => ?_, s.takePath_scan r f called fromLine,
      s.takePath_pointer r f called fromLine, s.takePath_groups r f called fromLine, s.takePath_orders r f called fromLine,
      s.takePath_rest r f called fromLine⟩
    · rw [State.takePath_reg, if_pos rfl]
    · rw [State.takePath_reg, if_neg hq]
    · rw [State.takePath_line, if_pos hn]
    · rw [State.takePath_line, if_neg hn]

end Sys2Proof.Machine
end

section
/-! SUPPORT. Records read through the shared operations: what each operation of Machine/Ops.lean makes of the register, the line, the
trunk, the receiver, the sender, the element or the signal that a later proof reads. -/

namespace Sys2Proof.Machine

variable {s : State}

/-! ### More records read where their block stands -/

theorem State.receiver_congr {t : State} (h : t.receivers = s.receivers) (k : ReceiverNo) : t.receiver k = s.receiver k := by
  rw [State.receiver, h]; rfl

theorem State.sender_congr {t : State} (h : t.sig = s.sig) (k : SenderNo) : t.sender k = s.sender k := by
  rw [State.sender, h]; rfl

theorem State.route_congr {t : State} (h : t.trans = s.trans) (v : RouteNo) : t.route v = s.route v := by
  rw [State.route, h]; rfl

theorem State.isPending_congr {t : State} (h : t.att = s.att) (j : Subject) (k : EventKind) : t.isPending j k = s.isPending j k := by
  rw [State.isPending, State.subject_congr h]; rfl

theorem State.toneOf_congr {t : State} (h : t.sig = s.sig) (x : Terminal) : t.toneOf x = s.toneOf x := by
  cases x <;> simp only [State.toneOf, h]

theorem State.accepted_congr {t : State} (h : t.scan = s.scan) (x : Terminal) : t.accepted x = s.accepted x := by
  cases x <;> simp only [State.accepted, State.line_congr h, State.trunk_congr h]

theorem State.callingRole_congr {t : State} (h : t.scan = s.scan) (r : RegNo) (x : Terminal) : t.callingRole r x = s.callingRole r x := by
  cases x <;> simp only [State.callingRole, State.line_congr h, State.trunk_congr h]

theorem State.calledRole_congr {t : State} (h : t.scan = s.scan) (r : RegNo) (n : LineNo) : t.calledRole r n = s.calledRole r n := by
  simp only [State.calledRole, State.line_congr h]

/-! ### Signals (R112) -/

/-- Dial tone stands as ordered, whether or not an order had to go out. -/
@[simp] theorem State.sendDialTone_signal (s : State) (n m : LineNo) (on : Bool) : tget (s.sendDialTone n on).sig.lineSignals m =
    if m = n then { tget s.sig.lineSignals n with dialTone := on } else tget s.sig.lineSignals m := by
  unfold State.sendDialTone
  split
  · next h =>
    split
    · next hm => rw [hm, ← h]
    · rfl
  · exact tget_tmod _ _ _ _

@[simp] theorem State.sendDialTone_sig (s : State) (n : LineNo) (on : Bool) :
    (s.sendDialTone n on).sig.senders = s.sig.senders ∧ (s.sendDialTone n on).sig.trunkTones = s.sig.trunkTones ∧
      (s.sendDialTone n on).sig.senderSignals = s.sig.senderSignals ∧
      (s.sendDialTone n on).sig.clearTimers = s.sig.clearTimers := by
  unfold State.sendDialTone
  split <;> exact ⟨rfl, rfl, rfl, rfl⟩

@[simp] theorem State.sendRinging_signal (s : State) (n m : LineNo) (p : Option Party) : tget (s.sendRinging n p).sig.lineSignals m =
    if m = n then { tget s.sig.lineSignals n with ringing := p } else tget s.sig.lineSignals m := by
  unfold State.sendRinging
  split
  · next h =>
    split
    · next hm => rw [hm, ← h]
    · rfl
  · exact tget_tmod _ _ _ _

@[simp] theorem State.sendRinging_sig (s : State) (n : LineNo) (p : Option Party) :
    (s.sendRinging n p).sig.senders = s.sig.senders ∧ (s.sendRinging n p).sig.trunkTones = s.sig.trunkTones ∧
      (s.sendRinging n p).sig.senderSignals = s.sig.senderSignals ∧ (s.sendRinging n p).sig.clearTimers = s.sig.clearTimers := by
  unfold State.sendRinging
  split <;> exact ⟨rfl, rfl, rfl, rfl⟩

@[simp] theorem State.sendTone_sig (s : State) (t : Terminal) (x : Option Tone) :
    (s.sendTone t x).sig.senders = s.sig.senders ∧ (s.sendTone t x).sig.senderSignals = s.sig.senderSignals ∧
      (s.sendTone t x).sig.clearTimers = s.sig.clearTimers := by
  unfold State.sendTone
  split
  · exact ⟨rfl, rfl, rfl⟩
  · cases t <;> exact ⟨rfl, rfl, rfl⟩

@[simp] theorem State.sendTone_signal (s : State) (t : Terminal) (x : Option Tone) (n : LineNo) :
    (tget (s.sendTone t x).sig.lineSignals n).dialTone = (tget s.sig.lineSignals n).dialTone ∧
      (tget (s.sendTone t x).sig.lineSignals n).ringing = (tget s.sig.lineSignals n).ringing := by
  unfold State.sendTone
  split
  · exact ⟨rfl, rfl⟩
  · cases t with
    | line m =>
      have hmod := tget_tmod s.sig.lineSignals m n fun g => { g with tone := x }
      refine ⟨(congrArg LineSignal.dialTone hmod).trans ?_, (congrArg LineSignal.ringing hmod).trans ?_⟩
      · by_cases hn : n = m <;> simp [hn]
      · by_cases hn : n = m <;> simp [hn]
    | trunk i => exact ⟨rfl, rfl⟩

/-- The tone of a terminal stands as ordered, and no other terminal's changes. -/
@[simp] theorem State.sendTone_toneOf (s : State) (t u : Terminal) (x : Option Tone) :
    (s.sendTone t x).toneOf u = if u = t then x else s.toneOf u := by
  unfold State.sendTone
  split
  · next h =>
    split
    · next hu => rw [hu, h]
    · rfl
  · cases t with
    | line n =>
      cases u with
      | line m =>
        refine (congrArg LineSignal.tone (tget_tmod s.sig.lineSignals n m fun g => { g with tone := x })).trans ?_
        by_cases hm : m = n
        · simp [hm]
        · simp [hm, State.toneOf]
      | trunk j => rfl
    | trunk i =>
      cases u with
      | line m => rfl
      | trunk j =>
        refine (tget_tset s.sig.trunkTones i j x).trans ?_
        by_cases hj : j = i
        · simp [hj]
        · simp [hj, State.toneOf]

theorem State.toneOf_eq_of_signals {t : State} (hline : ∀ n, (tget t.sig.lineSignals n).tone = (tget s.sig.lineSignals n).tone)
    (htrunk : t.sig.trunkTones = s.sig.trunkTones) (u : Terminal) : t.toneOf u = s.toneOf u := by
  cases u with
  | line n => exact hline n
  | trunk i => exact congrArg (tget · i) htrunk

@[simp] theorem State.sendDialTone_toneOf (s : State) (n : LineNo) (on : Bool) (u : Terminal) :
    (s.sendDialTone n on).toneOf u = s.toneOf u := by
  refine State.toneOf_eq_of_signals (fun m => ?_) (State.sendDialTone_sig s n on).2.1 u
  rw [State.sendDialTone_signal]
  split
  · next hm => rw [hm]
  · rfl

@[simp] theorem State.sendRinging_toneOf (s : State) (n : LineNo) (p : Option Party) (u : Terminal) :
    (s.sendRinging n p).toneOf u = s.toneOf u := by
  refine State.toneOf_eq_of_signals (fun m => ?_) (State.sendRinging_sig s n p).2.1 u
  rw [State.sendRinging_signal]
  split
  · next hm => rw [hm]
  · rfl

@[simp] theorem State.sendSender_signal (s : State) (k j : SenderNo) (x : SenderSignal) (o : LineOrder) :
    tget (s.sendSender k x o).sig.senderSignals j = if j = k then x else tget s.sig.senderSignals j := by
  unfold State.sendSender
  split
  · next h =>
    split
    · next hj => rw [hj, h]
    · rfl
  · exact tget_tset _ _ _ _

@[simp] theorem State.sendSender_sig (s : State) (k : SenderNo) (x : SenderSignal) (o : LineOrder) :
    (s.sendSender k x o).sig.senders = s.sig.senders ∧ (s.sendSender k x o).sig.lineSignals = s.sig.lineSignals ∧
      (s.sendSender k x o).sig.trunkTones = s.sig.trunkTones ∧ (s.sendSender k x o).sig.clearTimers = s.sig.clearTimers := by
  unfold State.sendSender
  split <;> exact ⟨rfl, rfl, rfl, rfl⟩

@[simp] theorem State.setClearTimer_timer (s : State) (i j : TrunkNo) (x : Option Nat) :
    tget (s.setClearTimer i x).sig.clearTimers j = if j = i then x else tget s.sig.clearTimers j := tget_tset _ _ _ _

@[simp] theorem State.setClearTimer_sig (s : State) (i : TrunkNo) (x : Option Nat) :
    (s.setClearTimer i x).sig.senders = s.sig.senders ∧ (s.setClearTimer i x).sig.lineSignals = s.sig.lineSignals ∧
      (s.setClearTimer i x).sig.trunkTones = s.sig.trunkTones ∧ (s.setClearTimer i x).sig.senderSignals = s.sig.senderSignals :=
  ⟨rfl, rfl, rfl, rfl⟩

@[simp] theorem State.setSender_sig (s : State) (k : SenderNo) (x : Sender) :
    (s.setSender k x).sig.lineSignals = s.sig.lineSignals ∧ (s.setSender k x).sig.trunkTones = s.sig.trunkTones ∧
      (s.setSender k x).sig.clearTimers = s.sig.clearTimers ∧ (s.setSender k x).sig.senderSignals = s.sig.senderSignals :=
  ⟨rfl, rfl, rfl, rfl⟩

/-! ### Dial tone, tone and sender of a register -/

theorem State.removeDialTone_line {r : RegNo} {n : LineNo} {p : Party} (h : (s.reg r).origin = some (.line n p)) :
    s.removeDialTone r = s.sendDialTone n false := by rw [State.removeDialTone, h]

theorem State.removeDialTone_trunk {r : RegNo} {i : TrunkNo} (h : (s.reg r).origin = some (.trunk i)) : s.removeDialTone r = s := by
  rw [State.removeDialTone, h]

@[simp] theorem State.removeDialTone_toneOf (s : State) (r : RegNo) (u : Terminal) : (s.removeDialTone r).toneOf u = s.toneOf u := by
  unfold State.removeDialTone
  split
  · exact State.sendDialTone_toneOf _ _ _ _
  · rfl

@[simp] theorem State.removeDialTone_sig (s : State) (r : RegNo) :
    (s.removeDialTone r).sig.senders = s.sig.senders ∧ (s.removeDialTone r).sig.trunkTones = s.sig.trunkTones ∧
      (s.removeDialTone r).sig.senderSignals = s.sig.senderSignals ∧ (s.removeDialTone r).sig.clearTimers = s.sig.clearTimers := by
  unfold State.removeDialTone
  split
  · exact State.sendDialTone_sig _ _ _
  · exact ⟨rfl, rfl, rfl, rfl⟩

@[simp] theorem State.removeDialTone_ringing (s : State) (r : RegNo) (n : LineNo) :
    (tget (s.removeDialTone r).sig.lineSignals n).ringing = (tget s.sig.lineSignals n).ringing := by
  unfold State.removeDialTone
  split
  · rw [State.sendDialTone_signal]
    split
    · next hn => rw [hn]
    · rfl
  · rfl

/-- Dial tone once removed stays so. -/
theorem State.removeDialTone_dialTone {n : LineNo} (r : RegNo) (h : (tget s.sig.lineSignals n).dialTone = false) :
    (tget (s.removeDialTone r).sig.lineSignals n).dialTone = false := by
  unfold State.removeDialTone
  split
  · rw [State.sendDialTone_signal]
    split
    · rfl
    · exact h
  · exact h

theorem State.toneToCaller_eq {r : RegNo} {o : Origin} (h : (s.reg r).origin = some o) (x : Option Tone) :
    s.toneToCaller r x = s.sendTone o.terminal x := by rw [State.toneToCaller, h]

@[simp] theorem State.toneToCaller_sig (s : State) (r : RegNo) (x : Option Tone) :
    (s.toneToCaller r x).sig.senders = s.sig.senders ∧ (s.toneToCaller r x).sig.senderSignals = s.sig.senderSignals ∧
      (s.toneToCaller r x).sig.clearTimers = s.sig.clearTimers := by
  unfold State.toneToCaller
  split
  · exact State.sendTone_sig _ _ _
  · exact ⟨rfl, rfl, rfl⟩

@[simp] theorem State.toneToCaller_signal (s : State) (r : RegNo) (x : Option Tone) (n : LineNo) :
    (tget (s.toneToCaller r x).sig.lineSignals n).dialTone = (tget s.sig.lineSignals n).dialTone ∧
      (tget (s.toneToCaller r x).sig.lineSignals n).ringing = (tget s.sig.lineSignals n).ringing := by
  unfold State.toneToCaller
  split
  · exact State.sendTone_signal _ _ _ _
  · exact ⟨rfl, rfl⟩


/-! ### The registers, where no operation of a call touches them -/

@[simp] theorem State.sendDialTone_reg (s : State) (n : LineNo) (on : Bool) (r : RegNo) : (s.sendDialTone n on).reg r = s.reg r :=
  State.reg_congr (by simp) r

@[simp] theorem State.sendRinging_reg (s : State) (n : LineNo) (p : Option Party) (r : RegNo) : (s.sendRinging n p).reg r = s.reg r :=
  State.reg_congr (by simp) r

@[simp] theorem State.sendTone_reg (s : State) (t : Terminal) (x : Option Tone) (r : RegNo) : (s.sendTone t x).reg r = s.reg r :=
  State.reg_congr (by simp) r

@[simp] theorem State.removeDialTone_reg (s : State) (p : RegNo) (r : RegNo) : (s.removeDialTone p).reg r = s.reg r :=
  State.reg_congr (by simp) r

@[simp] theorem State.toneToCaller_reg (s : State) (p : RegNo) (x : Option Tone) (r : RegNo) : (s.toneToCaller p x).reg r = s.reg r :=
  State.reg_congr (by simp) r

@[simp] theorem State.sendSenderLoop_reg (s : State) (k : SenderNo) (x : Loop) (r : RegNo) : (s.sendSenderLoop k x).reg r = s.reg r :=
  State.reg_congr (by simp) r

@[simp] theorem State.sendSenderDetach_reg (s : State) (k : SenderNo) (r : RegNo) : (s.sendSenderDetach k).reg r = s.reg r :=
  State.reg_congr (by simp) r

@[simp] theorem State.sendSenderAttach_reg (s : State) (k : SenderNo) (o : OutNo) (r : RegNo) : (s.sendSenderAttach k o).reg r = s.reg r :=
  State.reg_congr (by simp) r

@[simp] theorem State.post_reg (s : State) (j : Subject) (k : EventKind) (r : RegNo) : (s.post j k).reg r = s.reg r :=
  State.reg_congr (by simp) r

@[simp] theorem State.setReceiver_reg (s : State) (k : ReceiverNo) (x : Receiver) (r : RegNo) : (s.setReceiver k x).reg r = s.reg r :=
  State.reg_congr (by simp) r

@[simp] theorem State.setSender_reg (s : State) (k : SenderNo) (x : Sender) (r : RegNo) : (s.setSender k x).reg r = s.reg r :=
  State.reg_congr (by simp) r

@[simp] theorem State.setElems_reg (s : State) (es : List ElemNo) (x : ElemState) (r : RegNo) : (s.setElems es x).reg r = s.reg r :=
  State.reg_congr (by simp) r

@[simp] theorem State.modLine_reg (s : State) (n : LineNo) (f : LineRec → LineRec) (r : RegNo) : (s.modLine n f).reg r = s.reg r :=
  State.reg_congr (by simp) r

@[simp] theorem State.modTrunk_reg (s : State) (i : TrunkNo) (f : TrunkRec → TrunkRec) (r : RegNo) : (s.modTrunk i f).reg r = s.reg r :=
  State.reg_congr (by simp) r

@[simp] theorem State.setClearTimer_reg (s : State) (i : TrunkNo) (x : Option Nat) (r : RegNo) : (s.setClearTimer i x).reg r = s.reg r :=
  State.reg_congr (by simp) r

@[simp] theorem State.toIdle_reg (s : State) (t : Terminal) (r : RegNo) : (s.toIdle t).reg r = s.reg r :=
  State.reg_congr (by simp) r

@[simp] theorem State.toLockout_reg (s : State) (t : Terminal) (r : RegNo) : (s.toLockout t).reg r = s.reg r :=
  State.reg_congr (by simp) r

@[simp] theorem State.leaveCall_reg (s : State) (t : Terminal) (r : RegNo) : (s.leaveCall t).reg r = s.reg r :=
  State.reg_congr (by simp) r

@[simp] theorem State.originate_reg (s : State) (t : Terminal) (r : RegNo) : (s.originate t).reg r = s.reg r :=
  State.reg_congr (by simp) r

@[simp] theorem State.appendOrder_reg (s : State) (o : Order) (r : RegNo) : (s.appendOrder o).reg r = s.reg r :=
  State.reg_congr (by simp) r

@[simp] theorem State.leaveQueue_reg (s : State) (t : Terminal) (r : RegNo) : (s.leaveQueue t).reg r = s.reg r :=
  State.reg_congr (by simp) r

/-! ### Lines and trunks, where the scanner stands -/

@[simp] theorem State.modReg_line (s : State) (r : RegNo) (f : CallRegister → CallRegister) (n : LineNo) : (s.modReg r f).line n = s.line n :=
  State.line_congr (by simp) n

@[simp] theorem State.modReg_trunk (s : State) (r : RegNo) (f : CallRegister → CallRegister) (i : TrunkNo) : (s.modReg r f).trunk i = s.trunk i :=
  State.trunk_congr (by simp) i

@[simp] theorem State.setElems_line (s : State) (es : List ElemNo) (x : ElemState) (n : LineNo) : (s.setElems es x).line n = s.line n :=
  State.line_congr (by simp) n

@[simp] theorem State.setElems_trunk (s : State) (es : List ElemNo) (x : ElemState) (i : TrunkNo) : (s.setElems es x).trunk i = s.trunk i :=
  State.trunk_congr (by simp) i

@[simp] theorem State.post_line (s : State) (j : Subject) (k : EventKind) (n : LineNo) : (s.post j k).line n = s.line n :=
  State.line_congr (by simp) n

@[simp] theorem State.post_trunk (s : State) (j : Subject) (k : EventKind) (i : TrunkNo) : (s.post j k).trunk i = s.trunk i :=
  State.trunk_congr (by simp) i

@[simp] theorem State.setReceiver_line (s : State) (k : ReceiverNo) (x : Receiver) (n : LineNo) : (s.setReceiver k x).line n = s.line n :=
  State.line_congr (by simp) n

@[simp] theorem State.setReceiver_trunk (s : State) (k : ReceiverNo) (x : Receiver) (i : TrunkNo) : (s.setReceiver k x).trunk i = s.trunk i :=
  State.trunk_congr (by simp) i

@[simp] theorem State.setSender_line (s : State) (k : SenderNo) (x : Sender) (n : LineNo) : (s.setSender k x).line n = s.line n :=
  State.line_congr (by simp) n

@[simp] theorem State.setSender_trunk (s : State) (k : SenderNo) (x : Sender) (i : TrunkNo) : (s.setSender k x).trunk i = s.trunk i :=
  State.trunk_congr (by simp) i

@[simp] theorem State.sendDialTone_line (s : State) (m : LineNo) (on : Bool) (n : LineNo) : (s.sendDialTone m on).line n = s.line n :=
  State.line_congr (by simp) n

@[simp] theorem State.sendDialTone_trunk (s : State) (m : LineNo) (on : Bool) (i : TrunkNo) : (s.sendDialTone m on).trunk i = s.trunk i :=
  State.trunk_congr (by simp) i

@[simp] theorem State.sendRinging_line (s : State) (m : LineNo) (p : Option Party) (n : LineNo) : (s.sendRinging m p).line n = s.line n :=
  State.line_congr (by simp) n

@[simp] theorem State.sendRinging_trunk (s : State) (m : LineNo) (p : Option Party) (i : TrunkNo) : (s.sendRinging m p).trunk i = s.trunk i :=
  State.trunk_congr (by simp) i

@[simp] theorem State.sendTone_line (s : State) (t : Terminal) (x : Option Tone) (n : LineNo) : (s.sendTone t x).line n = s.line n :=
  State.line_congr (by simp) n

@[simp] theorem State.sendTone_trunk (s : State) (t : Terminal) (x : Option Tone) (i : TrunkNo) : (s.sendTone t x).trunk i = s.trunk i :=
  State.trunk_congr (by simp) i

@[simp] theorem State.setClearTimer_line (s : State) (i : TrunkNo) (x : Option Nat) (n : LineNo) : (s.setClearTimer i x).line n = s.line n :=
  State.line_congr (by simp) n

@[simp] theorem State.setClearTimer_trunk (s : State) (j : TrunkNo) (x : Option Nat) (i : TrunkNo) : (s.setClearTimer j x).trunk i = s.trunk i :=
  State.trunk_congr (by simp) i

end Sys2Proof.Machine
end

section
/-! SUPPORT. Terminals leaving a call or a queue (R11, R26, R33): the record of the terminal, and what stands of every other. -/

namespace Sys2Proof.Machine

variable {s : State}

/-- The state in which a terminal's loop leaves it outside a call (R11). -/
abbrev Loop.restLine (x : Loop) : LineState := if x = .opened then .idle else .lockout

/-- The same for an incoming trunk terminal. -/
abbrev Loop.restTrunk (x : Loop) : TrunkState := if x = .opened then .idle else .lockout

/-! ### Into LOCKOUT and IDLE -/

theorem State.toLockout_line_eq (s : State) (n : LineNo) :
    s.toLockout (.line n) = (s.modLine n fun l => l.outOfCall .lockout).post .maintenance .lockout := rfl

theorem State.toLockout_trunk_eq (s : State) (i : TrunkNo) : s.toLockout (.trunk i) =
    ((s.modTrunk i fun k => k.outOfCall .lockout).setClearTimer i none).post .maintenance .lockout := rfl

theorem State.toIdle_opened {t : Terminal} (h : s.accepted t = .opened) : s.toIdle t = s.idled t := by
  rw [State.toIdle_eq, if_neg (by simp [h])]

theorem State.toIdle_closed {t : Terminal} (h : s.accepted t = .closed) : s.toIdle t = (s.idled t).originate t := by
  rw [State.toIdle_eq, if_pos h]

theorem State.leaveCall_opened {t : Terminal} (h : s.accepted t = .opened) : s.leaveCall t = s.idled t := by
  rw [State.leaveCall, h]
  exact State.toIdle_opened h

theorem State.leaveCall_closed {t : Terminal} (h : s.accepted t = .closed) : s.leaveCall t = s.toLockout t := by
  rw [State.leaveCall, h]

/-! ### The scanner -/

theorem State.leaveCall_line_scan (s : State) (n : LineNo) : (s.leaveCall (.line n)).scan =
    { s.scan with lines := tmod s.scan.lines n fun l => l.outOfCall (Loop.restLine l.accepted) } := by
  have hmod (x : LineState) (hx : x = Loop.restLine (s.line n).accepted) : (s.modLine n fun l => l.outOfCall x).scan =
      { s.scan with lines := tmod s.scan.lines n fun l => l.outOfCall (Loop.restLine l.accepted) } := by
    subst hx
    rfl
  cases h : s.accepted (.line n) with
  | opened =>
    rw [State.leaveCall_opened h]
    exact hmod .idle (by rw [show (s.line n).accepted = .opened from h]; rfl)
  | closed =>
    rw [State.leaveCall_closed h, State.toLockout_scan]
    exact hmod .lockout (by rw [show (s.line n).accepted = .closed from h]; rfl)

theorem State.leaveCall_trunk_scan (s : State) (i : TrunkNo) : (s.leaveCall (.trunk i)).scan =
    { s.scan with trunks := tmod s.scan.trunks i fun k => k.outOfCall (Loop.restTrunk k.accepted) } := by
  have hmod (x : TrunkState) (hx : x = Loop.restTrunk (s.trunk i).accepted) : (s.modTrunk i fun k => k.outOfCall x).scan =
      { s.scan with trunks := tmod s.scan.trunks i fun k => k.outOfCall (Loop.restTrunk k.accepted) } := by
    subst hx
    rfl
  cases h : s.accepted (.trunk i) with
  | opened =>
    rw [State.leaveCall_opened h]
    exact hmod .idle (by rw [show (s.trunk i).accepted = .opened from h]; rfl)
  | closed =>
    rw [State.leaveCall_closed h, State.toLockout_scan]
    exact hmod .lockout (by rw [show (s.trunk i).accepted = .closed from h]; rfl)

@[simp] theorem State.leaveCall_line_line (s : State) (n m : LineNo) : (s.leaveCall (.line n)).line m =
    if m = n then (s.line n).outOfCall (Loop.restLine (s.line n).accepted) else s.line m := by
  rw [State.line, State.leaveCall_line_scan]
  exact tget_tmod _ _ _ _

@[simp] theorem State.leaveCall_line_trunk (s : State) (n : LineNo) (i : TrunkNo) : (s.leaveCall (.line n)).trunk i = s.trunk i := by
  rw [State.trunk, State.leaveCall_line_scan]
  rfl

@[simp] theorem State.leaveCall_trunk_trunk (s : State) (i j : TrunkNo) : (s.leaveCall (.trunk i)).trunk j =
    if j = i then (s.trunk i).outOfCall (Loop.restTrunk (s.trunk i).accepted) else s.trunk j := by
  rw [State.trunk, State.leaveCall_trunk_scan]
  exact tget_tmod _ _ _ _

@[simp] theorem State.leaveCall_trunk_line (s : State) (i : TrunkNo) (n : LineNo) : (s.leaveCall (.trunk i)).line n = s.line n := by
  rw [State.line, State.leaveCall_trunk_scan]
  rfl

@[simp] theorem State.leaveCall_lists (s : State) (t : Terminal) : (s.leaveCall t).scan.queue = s.scan.queue ∧
    (s.leaveCall t).scan.deferred = s.scan.deferred ∧ (s.leaveCall t).scan.answers = s.scan.answers := by
  cases t with
  | line n => rw [State.leaveCall_line_scan]; exact ⟨rfl, rfl, rfl⟩
  | trunk i => rw [State.leaveCall_trunk_scan]; exact ⟨rfl, rfl, rfl⟩

/-! ### Signals and notices -/

theorem State.idled_sig_line (s : State) (n : LineNo) : (s.idled (.line n)).sig = s.sig := rfl

@[simp] theorem State.leaveCall_line_sig (s : State) (n : LineNo) : (s.leaveCall (.line n)).sig = s.sig := by
  cases h : s.accepted (.line n) with
  | opened => rw [State.leaveCall_opened h]; rfl
  | closed => rw [State.leaveCall_closed h, State.toLockout_line_eq]; simp

theorem State.leaveCall_trunk_sig (s : State) (i : TrunkNo) :
    (s.leaveCall (.trunk i)).sig = { s.sig with clearTimers := tset s.sig.clearTimers i none } := by
  cases h : s.accepted (.trunk i) with
  | opened => rw [State.leaveCall_opened h]; rfl
  | closed => rw [State.leaveCall_closed h, State.toLockout_trunk_eq, (State.post_frame _ _ _).2.2.2.2.2.2.1]; rfl

@[simp] theorem State.leaveCall_signals (s : State) (t : Terminal) : (s.leaveCall t).sig.lineSignals = s.sig.lineSignals ∧
    (s.leaveCall t).sig.trunkTones = s.sig.trunkTones ∧ (s.leaveCall t).sig.senders = s.sig.senders ∧
    (s.leaveCall t).sig.senderSignals = s.sig.senderSignals := by
  cases t with
  | line n => rw [State.leaveCall_line_sig]; exact ⟨rfl, rfl, rfl, rfl⟩
  | trunk i => rw [State.leaveCall_trunk_sig]; exact ⟨rfl, rfl, rfl, rfl⟩

@[simp] theorem State.idled_att (s : State) (t : Terminal) : (s.idled t).att = s.att := by cases t <;> rfl

theorem State.leaveCall_att_opened {t : Terminal} (h : s.accepted t = .opened) : (s.leaveCall t).att = s.att := by
  rw [State.leaveCall_opened h, State.idled_att]

@[simp] theorem State.toLockout_subject (s : State) (t : Terminal) {j : Subject} (hj : j ≠ .maintenance) :
    (s.toLockout t).subject j = s.subject j := by
  cases t with
  | line n => rw [State.toLockout_line_eq, State.post_subject, if_neg hj]; rfl
  | trunk i => rw [State.toLockout_trunk_eq, State.post_subject, if_neg hj]; rfl

/-- R26: the LOCKOUT notice. -/
@[simp] theorem State.toLockout_isPending (s : State) (t : Terminal) (j : Subject) (k : EventKind) :
    (s.toLockout t).isPending j k = (s.isPending j k || (decide (j = .maintenance) && decide (k = .lockout))) := by
  cases t with
  | line n => rw [State.toLockout_line_eq, State.post_isPending]; rfl
  | trunk i => rw [State.toLockout_trunk_eq, State.post_isPending]; rfl

@[simp] theorem State.leaveCall_subject (s : State) (t : Terminal) {j : Subject} (hj : j ≠ .maintenance) :
    (s.leaveCall t).subject j = s.subject j := by
  cases h : s.accepted t with
  | opened => exact State.subject_congr (State.leaveCall_att_opened h) j
  | closed => rw [State.leaveCall_closed h, State.toLockout_subject s t hj]

theorem State.leaveCall_isPending (s : State) (t : Terminal) {j : Subject} {k : EventKind} (h : s.isPending j k = true) :
    (s.leaveCall t).isPending j k = true := by
  cases ha : s.accepted t with
  | opened => rw [State.isPending_congr (State.leaveCall_att_opened ha), h]
  | closed => rw [State.leaveCall_closed ha, State.toLockout_isPending, h, Bool.true_or]

theorem State.leaveCall_lockout {t : Terminal} (h : s.accepted t = .closed) :
    (s.leaveCall t).isPending .maintenance .lockout = true := by
  rw [State.leaveCall_closed h, State.toLockout_isPending]
  simp

/-! ### IDLE on a CLOSED loop (R33) -/

/-- A line made IDLE on a CLOSED loop joins the queue while there is a place. -/
theorem State.toIdle_line_room {n : LineNo} (h : (s.line n).accepted = .closed) (hq : s.scan.queue.length < 32) :
    (s.toIdle (.line n)).scan = { s.scan with
      lines := tmod s.scan.lines n fun l => { l.outOfCall .waiting with waitTimer := some 60000 }
      queue := s.scan.queue ++ [.line n (s.line n).originationParty] } := by
  have hparty : (s.idled (.line n)).originEntry (.line n) = .line n (s.line n).originationParty := by
    have hline : (s.idled (.line n)).line n = (s.line n).outOfCall .idle := (State.modLine_line s n n _).trans (if_pos rfl)
    rw [State.originEntry, hline]
    rfl
  have hroom : (s.idled (.line n)).scan.queue.length < Config.queuePlaces := hq
  rw [State.toIdle_closed (t := .line n) h, State.originate_room _ hroom, hparty]
  have hlines : ((s.idled (.line n)).setWaiting (.line n) false (some Config.waitTime)).scan.lines =
      tmod s.scan.lines n fun l => { l.outOfCall .waiting with waitTimer := some 60000 } := by
    refine table_ext fun m => ?_
    refine (State.modLine_line (s.idled (.line n)) n m _).trans ?_
    have hidled (p : LineNo) : (s.idled (.line n)).line p = if p = n then (s.line n).outOfCall .idle else s.line p :=
      State.modLine_line s n p _
    rw [hidled, if_pos rfl, hidled, tget_tmod]
    by_cases hm : m = n
    · rw [if_pos hm, if_pos hm]
      rfl
    · rw [if_neg hm, if_neg hm, if_neg hm]
      rfl
  rw [← hlines]
  rfl

theorem State.idled_line_scan (s : State) (n : LineNo) :
    (s.idled (.line n)).scan = { s.scan with lines := tmod s.scan.lines n fun l => l.outOfCall .idle } := rfl

theorem State.toIdle_line_sig (s : State) (n : LineNo) : (s.toIdle (.line n)).sig = s.sig := by
  cases h : s.accepted (.line n) with
  | opened => rw [State.toIdle_opened h]; rfl
  | closed => rw [State.toIdle_closed h, (State.originate_frame _ _).2.2.2.2.2.1]; rfl

theorem State.originate_line_of_ne (s : State) {n m : LineNo} (h : m ≠ n) : (s.originate (.line n)).line m = s.line m :=
  (State.modLine_line s n m _).trans (if_neg h)

theorem State.toIdle_line_of_ne (s : State) {n m : LineNo} (h : m ≠ n) : (s.toIdle (.line n)).line m = s.line m := by
  have hidled : (s.idled (.line n)).line m = s.line m := (State.modLine_line s n m _).trans (if_neg h)
  cases ha : s.accepted (.line n) with
  | opened => rw [State.toIdle_opened ha, hidled]
  | closed => rw [State.toIdle_closed ha, State.originate_line_of_ne _ h, hidled]

end Sys2Proof.Machine
end

section
/-! SUPPORT. The results of an order (R101 to R109): what each outcome makes of the elements, the register and the called line. -/

namespace Sys2Proof.Machine

variable {s : State} {f : InFlight} {r : RegNo} {good : ElemNo → Bool}

/-! ### The parts of an outcome -/

theorem Path.without_elements (p : Path) (es : List ElemNo) : (p.without es).elements = p.elements.filter (· ∉ es) := by
  have hpart (o : Option ElemNo) : (o.filter (· ∉ es)).toList = o.toList.filter (· ∉ es) := by
    cases o with
    | none => rfl
    | some e => by_cases he : e ∈ es <;> simp [he, Option.filter]
  rw [Path.elements, Path.elements, List.filter_append, List.filter_append, ← hpart, ← hpart, ← hpart]
  rfl

theorem State.applyChecks_elem (s : State) (r : RegNo) (ok bad : List ElemNo) (x : ElemState) (e : ElemNo) :
    (s.applyChecks r ok bad x).elem e = if e ∈ ok then x else if e ∈ bad then .faulted else s.elem e := by
  refine (State.setElems_elem _ _ _ e).trans ?_
  rw [State.setElems_elem]

theorem State.applyChecks_reg (s : State) (r q : RegNo) (ok bad : List ElemNo) (x : ElemState) :
    (s.applyChecks r ok bad x).reg q = if q = r then { s.reg r with path := (s.reg r).path.without bad } else s.reg q := by
  rw [State.applyChecks, State.modReg_reg, State.setElems_reg, State.setElems_reg, State.setElems_reg, State.setElems_reg]

theorem State.applyChecks_rest (s : State) (r : RegNo) (ok bad : List ElemNo) (x : ElemState) :
    s.applyChecks r ok bad x = { s with
      regs := (s.applyChecks r ok bad x).regs
      net := { s.net with elements := (s.applyChecks r ok bad x).net.elements } } := by
  have hnet := (State.setElems_network (s.setElems bad .faulted) ok x).trans
    (congrArg (fun n : Network => { n with elements := ((s.setElems bad .faulted).setElems ok x).net.elements })
      (s.setElems_network bad .faulted))
  apply State.eq_of_fields <;> simp only [State.applyChecks, State.modReg_frame, State.setElems_frame]
  exact hnet

@[simp] theorem State.applyChecks_att (s : State) (r : RegNo) (ok bad : List ElemNo) (x : ElemState) :
    (s.applyChecks r ok bad x).att = s.att ∧ (s.applyChecks r ok bad x).orders = s.orders := by simp [State.applyChecks]

@[simp] theorem State.postFault_rest (s : State) (bad : List ElemNo) : (s.postFault bad).regs = s.regs ∧
    (s.postFault bad).net = s.net ∧ (s.postFault bad).orders = s.orders ∧ (s.postFault bad).receivers = s.receivers ∧
    (s.postFault bad).trans = s.trans ∧ (s.postFault bad).sig = s.sig ∧ (s.postFault bad).tickets = s.tickets := by
  unfold State.postFault
  split <;> simp

theorem State.postFault_isPending (s : State) {bad : List ElemNo} {j : Subject} {k : EventKind} (h : s.isPending j k = true) :
    (s.postFault bad).isPending j k = true := by
  unfold State.postFault
  split
  · exact h
  · rw [State.post_isPending, h, Bool.true_or]

theorem State.postFault_notice (s : State) {bad : List ElemNo} (h : bad ≠ []) :
    (s.postFault bad).isPending .maintenance .elementFault = true := by
  rw [State.postFault, if_neg (by simpa using h), State.post_isPending]
  simp

theorem State.postFault_subject (s : State) (bad : List ElemNo) {j : Subject} (hj : j ≠ .maintenance) :
    (s.postFault bad).subject j = s.subject j := by
  unfold State.postFault
  split
  · rfl
  · rw [State.post_subject, if_neg hj]

@[simp] theorem State.returnCalled_rest (s : State) (r : RegNo) : (s.returnCalled r).regs = s.regs ∧
    (s.returnCalled r).net = s.net ∧ (s.returnCalled r).orders = s.orders ∧ (s.returnCalled r).receivers = s.receivers ∧
    (s.returnCalled r).trans = s.trans ∧ (s.returnCalled r).sig = s.sig ∧ (s.returnCalled r).tickets = s.tickets ∧
    (s.returnCalled r).att = s.att := by
  unfold State.returnCalled
  split
  · split
    · simp [State.toIdle_line_sig]
    · simp
  · simp

theorem State.returnCalled_called {d : Subscriber} (hd : (s.reg r).destination = some d)
    (hstate : (s.line d.line).state = .termReserved) (hreg : (s.line d.line).register = some r) :
    s.returnCalled r = s.toIdle (.line d.line) := by
  rw [State.returnCalled, hd]
  exact if_pos ⟨hstate, hreg⟩

/-! ### Each outcome of an OPERATE -/

/-- The order that was in flight is so no longer. -/
def State.landed (s : State) : State := { s with orders := { s.orders with inFlight := none } }

/-- The elements that the completion found good, and those it found bad. -/
def InFlight.ok (f : InFlight) (good : ElemNo → Bool) : List ElemNo := f.elements.filter good

/-- The elements that the completion found bad. -/
def InFlight.bad (f : InFlight) (good : ElemNo → Bool) : List ElemNo := f.elements.filter fun e => !good e

theorem InFlight.mem_ok {e : ElemNo} : e ∈ f.ok good ↔ e ∈ f.elements ∧ good e = true := List.mem_filter

theorem InFlight.mem_bad {e : ElemNo} : e ∈ f.bad good ↔ e ∈ f.elements ∧ good e = false := by simp [InFlight.bad]

theorem InFlight.ok_eq_nil : f.ok good = [] ↔ ∀ e ∈ f.elements, good e = false := by simp [InFlight.ok]

theorem InFlight.bad_eq_nil : f.bad good = [] ↔ ∀ e ∈ f.elements, good e = true := by simp [InFlight.bad]

theorem InFlight.ok_ne_nil : f.ok good ≠ [] ↔ ∃ e ∈ f.elements, good e = true := by simp [InFlight.ok]

theorem InFlight.bad_ne_nil : f.bad good ≠ [] ↔ ∃ e ∈ f.elements, good e = false := by simp [InFlight.bad]

theorem State.complete_operate (h : f.order = .operate r) : s.complete f good =
    if f.cancelled then s.landed.operateCancelled r (f.ok good) (f.bad good)
    else if (f.bad good).isEmpty then s.landed.operateGood r (f.ok good)
    else if (f.ok good).isEmpty then s.landed.operateBad r (f.bad good)
    else s.landed.operatePartly r (f.ok good) (f.bad good) := by
  rw [State.complete, h]
  rfl

/-- What every outcome of an OPERATE with bad elements or cancelled does to the elements: the bad are FAULTED, the good RELEASING. -/
structure Operated (s t : State) (f : InFlight) (good : ElemNo → Bool) (r : RegNo) (x : ElemState) : Prop where
  elem : ∀ e, t.elem e = if e ∈ f.elements then (if good e then x else .faulted) else s.elem e
  others : ∀ q, q ≠ r → t.reg q = s.reg q
  flight : t.orders.inFlight = none ∧ t.orders.tag = s.orders.tag
  notice : f.bad good ≠ [] → t.isPending .maintenance .elementFault = true
  rest : t = { s with regs := t.regs, scan := t.scan, net := t.net, orders := t.orders, att := t.att }

theorem applyChecks_checked (s : State) (f : InFlight) (good : ElemNo → Bool) (r : RegNo) (x : ElemState) (e : ElemNo) :
    (s.applyChecks r (f.ok good) (f.bad good) x).elem e = if e ∈ f.elements then (if good e then x else .faulted) else s.elem e := by
  rw [State.applyChecks_elem]
  by_cases he : e ∈ f.elements <;> cases hg : good e <;> simp [InFlight.mem_ok, InFlight.mem_bad, he, hg]

theorem Operated.postFault {v : State} {x : ElemState}
    (helem : ∀ e, v.elem e = if e ∈ f.elements then (if good e then x else .faulted) else s.elem e)
    (hothers : ∀ q, q ≠ r → v.reg q = s.reg q) (hflight : v.orders.inFlight = none ∧ v.orders.tag = s.orders.tag)
    (hrest : v = { s with regs := v.regs, scan := v.scan, net := v.net, orders := v.orders, att := v.att }) :
    Operated s (v.postFault (f.bad good)) f good r x where
  elem e := by rw [State.elem_congr (State.postFault_rest v _).2.1, helem]
  others q hq := by rw [State.reg_congr (State.postFault_rest v _).1, hothers q hq]
  flight := by rwa [(State.postFault_rest v _).2.2.1]
  notice := State.postFault_notice v
  rest := by
    rw [hrest]
    apply State.eq_of_fields <;> simp

/-- R101. -/
theorem State.operateGood_operated (s : State) (r : RegNo) (hbad : f.bad good = []) :
    Operated s (s.landed.operateGood r (f.ok good)) f good r .held where
  elem e := by
    have hall := InFlight.bad_eq_nil.1 hbad
    refine (State.elem_congr (s := s.landed.setElems (f.ok good) .held) (by simp [State.operateGood]) e).trans ?_
    rw [State.setElems_elem]
    by_cases he : e ∈ f.elements
    · rw [if_pos (InFlight.mem_ok.2 ⟨he, hall e he⟩), if_pos he, if_pos (hall e he)]
    · rw [if_neg fun h => he (InFlight.mem_ok.1 h).1, if_neg he]
      rfl
  others q hq := by
    rw [State.operateGood, State.post_reg, State.modReg_reg, if_neg hq, State.setElems_reg]
    rfl
  flight := by simp [State.operateGood, State.landed]
  notice h := absurd hbad h
  rest := by apply State.eq_of_fields <;> simp [State.operateGood, State.landed]

theorem State.operateGood_reg (s : State) (r : RegNo) (es : List ElemNo) :
    (s.landed.operateGood r es).reg r = { s.reg r with state := .set } := by
  rw [State.operateGood, State.post_reg, State.modReg_reg, if_pos rfl, State.setElems_reg]
  rfl

/-- R102, before ELEMENT_FAULT is posted. -/
def State.partly (s : State) (r : RegNo) (ok bad : List ElemNo) : State :=
  ((s.applyChecks r ok bad .releasing).appendOrder (.release r)).returnCalled r

theorem State.partly_reg (s : State) (r q : RegNo) (ok bad : List ElemNo) :
    (s.partly r ok bad).reg q = if q = r then { s.reg r with path := (s.reg r).path.without bad } else s.reg q := by
  rw [State.partly, State.reg_congr (State.returnCalled_rest _ _).1, State.appendOrder_reg, State.applyChecks_reg]

theorem State.operatePartly_operated (s : State) (r : RegNo) :
    Operated s (s.landed.operatePartly r (f.ok good) (f.bad good)) f good r .releasing := by
  refine Operated.postFault (v := s.landed.partly r (f.ok good) (f.bad good)) (fun e => ?_) (fun q hq => ?_) ?_ ?_
  · rw [State.partly, State.elem_congr (State.returnCalled_rest _ _).2.1]
    exact applyChecks_checked s.landed f good r .releasing e
  · rw [State.partly_reg, if_neg hq]
    rfl
  · simp [State.partly, State.appendOrder, State.landed]
  · apply State.eq_of_fields <;> simp [State.partly, State.landed, State.applyChecks]

/-- R103, before ELEMENT_FAULT is posted. -/
def State.allBad (s : State) (r : RegNo) (bad : List ElemNo) : State :=
  (((s.applyChecks r [] bad .faulted).returnCalled r).modReg r fun g => { g with state := .translated }).post (.register r) .pathFault

theorem State.allBad_reg (s : State) (r q : RegNo) (bad : List ElemNo) : (s.allBad r bad).reg q =
    if q = r then { s.reg r with state := .translated, path := (s.reg r).path.without bad } else s.reg q := by
  rw [State.allBad, State.post_reg, State.modReg_reg, State.reg_congr (State.returnCalled_rest _ _).1,
    State.reg_congr (State.returnCalled_rest _ _).1, State.applyChecks_reg, State.applyChecks_reg, if_pos rfl]
  by_cases hq : q = r
  · rw [if_pos hq, if_pos hq]
  · rw [if_neg hq, if_neg hq, if_neg hq]

theorem State.operateBad_operated (s : State) (r : RegNo) (hok : f.ok good = []) :
    Operated s (s.landed.operateBad r (f.bad good)) f good r .releasing := by
  refine Operated.postFault (v := s.landed.allBad r (f.bad good)) (fun e => ?_) (fun q hq => ?_) ?_ ?_
  · have hnet : (s.landed.allBad r (f.bad good)).net = (s.landed.applyChecks r (f.ok good) (f.bad good) .faulted).net := by
      rw [hok]
      simp [State.allBad]
    rw [State.elem_congr hnet, applyChecks_checked]
    by_cases he : e ∈ f.elements
    · rw [if_pos he, if_pos he, InFlight.ok_eq_nil.1 hok e he]
      rfl
    · rw [if_neg he, if_neg he]
      rfl
  · rw [State.allBad_reg, if_neg hq]
    rfl
  · simp [State.allBad, State.landed]
  · apply State.eq_of_fields <;> simp [State.allBad, State.landed, State.applyChecks]

/-- R105, before ELEMENT_FAULT is posted. -/
def State.cleared (s : State) (r : RegNo) (ok bad : List ElemNo) : State :=
  if ok.isEmpty then (s.applyChecks r ok bad .releasing).enterEnded r
  else (s.applyChecks r ok bad .releasing).appendOrder (.release r)

theorem State.enterEnded_reg (s : State) (r q : RegNo) : (s.enterEnded r).reg q = if q = r then { s.reg r with
    state := .ended, walkNode := none, receiver := none, sender := none, tone := none, timer := none, meter := none
    path := Path.empty } else s.reg q := by
  rw [State.enterEnded, State.post_reg, State.modReg_reg]

theorem State.operateCancelled_operated (s : State) (r : RegNo) :
    Operated s (s.landed.operateCancelled r (f.ok good) (f.bad good)) f good r .releasing := by
  refine Operated.postFault (v := s.landed.cleared r (f.ok good) (f.bad good)) (fun e => ?_) (fun q hq => ?_) ?_ ?_
  · have hnet : (s.landed.cleared r (f.ok good) (f.bad good)).net = (s.landed.applyChecks r (f.ok good) (f.bad good) .releasing).net := by
      unfold State.cleared
      split <;> simp
    rw [State.elem_congr hnet, applyChecks_checked]
    rfl
  · unfold State.cleared
    split
    · rw [State.enterEnded_reg, if_neg hq, State.applyChecks_reg, if_neg hq]
      rfl
    · rw [State.appendOrder_reg, State.applyChecks_reg, if_neg hq]
      rfl
  · unfold State.cleared
    split <;> simp [State.landed, State.appendOrder]
  · unfold State.cleared
    split <;> apply State.eq_of_fields <;> simp [State.landed, State.applyChecks]

end Sys2Proof.Machine
end

section
/-! SUPPORT. The completion of an order as a whole (R99, R101 to R109). -/

namespace Sys2Proof.Machine

variable {s : State} {f : InFlight} {r : RegNo} {good : ElemNo → Bool}

/-! ### Which outcome an OPERATE has -/

theorem State.complete_good (h : f.order = .operate r) (hc : f.cancelled = false) (hbad : f.bad good = []) :
    s.complete f good = s.landed.operateGood r (f.ok good) := by
  rw [State.complete_operate h, if_neg (by simp [hc]), if_pos (by simp [hbad])]

theorem State.complete_partly (h : f.order = .operate r) (hc : f.cancelled = false) (hbad : f.bad good ≠ []) (hok : f.ok good ≠ []) :
    s.complete f good = s.landed.operatePartly r (f.ok good) (f.bad good) := by
  rw [State.complete_operate h, if_neg (by simp [hc]), if_neg (by simpa using hbad), if_neg (by simpa using hok)]

theorem State.complete_bad (h : f.order = .operate r) (hc : f.cancelled = false) (hbad : f.bad good ≠ []) (hok : f.ok good = []) :
    s.complete f good = s.landed.operateBad r (f.bad good) := by
  rw [State.complete_operate h, if_neg (by simp [hc]), if_neg (by simpa using hbad), if_pos (by simp [hok])]

theorem State.complete_cancelled (h : f.order = .operate r) (hc : f.cancelled = true) :
    s.complete f good = s.landed.operateCancelled r (f.ok good) (f.bad good) := by
  rw [State.complete_operate h, if_pos hc]

theorem State.complete_operated (s : State) (good : ElemNo → Bool) (h : f.order = .operate r) :
    ∃ x, Operated s (s.complete f good) f good r x := by
  cases hc : f.cancelled with
  | true =>
    rw [State.complete_cancelled h hc]
    exact ⟨_, s.operateCancelled_operated r⟩
  | false =>
    by_cases hbad : f.bad good = []
    · rw [State.complete_good h hc hbad]
      exact ⟨_, s.operateGood_operated r hbad⟩
    · by_cases hok : f.ok good = []
      · rw [State.complete_bad h hc hbad hok]
        exact ⟨_, s.operateBad_operated r hok⟩
      · rw [State.complete_partly h hc hbad hok]
        exact ⟨_, s.operatePartly_operated r⟩

/-! ### The register's path and the called line -/

theorem State.without_bad_elements (s : State) (r : RegNo) (f : InFlight) (good : ElemNo → Bool) :
    ((s.reg r).path.without (f.bad good)).elements = (s.reg r).path.elements.filter fun e => e ∉ f.elements || good e := by
  rw [Path.without_elements]
  refine List.filter_congr fun e _ => ?_
  by_cases he : e ∈ f.elements <;> cases hg : good e <;> simp [InFlight.mem_bad, he, hg]

theorem State.without_all_elements (s : State) (r : RegNo) (h : f.ok good = []) :
    ((s.reg r).path.without (f.bad good)).elements = (s.reg r).path.elements.filter fun e => e ∉ f.elements := by
  rw [State.without_bad_elements]
  refine List.filter_congr fun e _ => ?_
  by_cases he : e ∈ f.elements
  · simp [InFlight.ok_eq_nil.1 h e he]
  · simp [he]

/-- R102, step 4: the called line is given up, and with its loop CLOSED originates (R33). -/
theorem State.returnCalled_line {d : Subscriber} (hd : (s.reg r).destination = some d) (hstate : (s.line d.line).state = .termReserved)
    (hreg : (s.line d.line).register = some r) :
    ((s.line d.line).accepted = .opened → (s.returnCalled r).line d.line = (s.line d.line).outOfCall .idle ∧
      (s.returnCalled r).scan.queue = s.scan.queue) ∧
    ((s.line d.line).accepted = .closed → s.scan.queue.length < 32 →
      (s.returnCalled r).line d.line = { (s.line d.line).outOfCall .waiting with waitTimer := some 60000 } ∧
      (s.returnCalled r).scan.queue = s.scan.queue ++ [.line d.line (s.line d.line).originationParty]) := by
  rw [State.returnCalled_called hd hstate hreg]
  refine ⟨fun ha => ?_, fun ha hq => ?_⟩
  · rw [State.toIdle_opened (t := .line d.line) ha]
    exact ⟨(State.modLine_line _ _ _ _).trans (if_pos rfl), rfl⟩
  · rw [State.line, State.toIdle_line_room ha hq]
    exact ⟨tget_tmod_same _ _ _, rfl⟩

/-- The same for a later state whose scanner is that of the state in which the line was given up. -/
theorem State.returnCalled_line_congr {u t : State} {d : Subscriber} (ht : t.scan = (u.returnCalled r).scan) (hu : u.scan = s.scan)
    (hd : (u.reg r).destination = some d) (hstate : (s.line d.line).state = .termReserved)
    (hreg : (s.line d.line).register = some r) :
    ((s.line d.line).accepted = .opened → t.line d.line = (s.line d.line).outOfCall .idle ∧ t.scan.queue = s.scan.queue) ∧
    ((s.line d.line).accepted = .closed → s.scan.queue.length < 32 →
      t.line d.line = { (s.line d.line).outOfCall .waiting with waitTimer := some 60000 } ∧
      t.scan.queue = s.scan.queue ++ [.line d.line (s.line d.line).originationParty]) := by
  have hline := State.line_congr hu d.line
  have h := State.returnCalled_line hd (by rw [hline, hstate]) (by rw [hline, hreg])
  rw [hline, ← State.line_congr ht, ← ht, hu] at h
  exact h

/-! ### The completion of an OPERATE -/

theorem State.operatePartly_eq (s : State) (r : RegNo) (ok bad : List ElemNo) :
    s.operatePartly r ok bad = (s.partly r ok bad).postFault bad := rfl

theorem State.operateBad_eq (s : State) (r : RegNo) (bad : List ElemNo) : s.operateBad r bad = (s.allBad r bad).postFault bad := rfl

theorem State.operatePartly_scan (s : State) (r : RegNo) (ok bad : List ElemNo) : (s.operatePartly r ok bad).scan =
    (((s.applyChecks r ok bad .releasing).appendOrder (.release r)).returnCalled r).scan := by simp [State.operatePartly]

theorem State.operateBad_scan (s : State) (r : RegNo) (bad : List ElemNo) :
    (s.operateBad r bad).scan = ((s.applyChecks r [] bad .faulted).returnCalled r).scan := by simp [State.operateBad]

/-- The called line of an OPERATE with bad elements. -/
theorem State.complete_called {d : Subscriber} (h : f.order = .operate r) (hc : f.cancelled = false)
    (hbad : f.bad good ≠ []) (hd : (s.reg r).destination = some d) (hstate : (s.line d.line).state = .termReserved)
    (hreg : (s.line d.line).register = some r) :
    ((s.line d.line).accepted = .opened → (s.complete f good).line d.line = (s.line d.line).outOfCall .idle ∧
      (s.complete f good).scan.queue = s.scan.queue) ∧
    ((s.line d.line).accepted = .closed → s.scan.queue.length < 32 →
      (s.complete f good).line d.line = { (s.line d.line).outOfCall .waiting with waitTimer := some 60000 } ∧
      (s.complete f good).scan.queue = s.scan.queue ++ [.line d.line (s.line d.line).originationParty]) := by
  by_cases hok : f.ok good = []
  · rw [State.complete_bad h hc hbad hok]
    refine State.returnCalled_line_congr (State.operateBad_scan _ _ _) (by simp [State.landed]) ?_ hstate hreg
    rw [State.applyChecks_reg, if_pos rfl]
    exact hd
  · rw [State.complete_partly h hc hbad hok]
    refine State.returnCalled_line_congr (State.operatePartly_scan _ _ _ _) (by simp [State.landed]) ?_ hstate hreg
    rw [State.appendOrder_reg, State.applyChecks_reg, if_pos rfl]
    exact hd

/-! ### The completion of a RELEASE -/

/-- R107, before the register's state is looked at. -/
def State.freed (s : State) (r : RegNo) (ok bad : List ElemNo) : State :=
  ((s.applyChecks r ok bad .free).modReg r fun g => { g with path := Path.empty }).postFault bad

theorem State.freed_reg (s : State) (r q : RegNo) (ok bad : List ElemNo) :
    (s.freed r ok bad).reg q = if q = r then { s.reg r with path := Path.empty } else s.reg q := by
  rw [State.freed, State.reg_congr (State.postFault_rest _ _).1, State.modReg_reg, State.applyChecks_reg, State.applyChecks_reg,
    if_pos rfl]
  by_cases hq : q = r
  · rw [if_pos hq, if_pos hq]
  · rw [if_neg hq, if_neg hq, if_neg hq]

theorem State.complete_release (h : f.order = .release r) :
    s.complete f good = s.landed.releaseDone r (f.ok good) (f.bad good) := by
  rw [State.complete, h]
  rfl

theorem State.releaseDone_clearing {ok bad : List ElemNo} (h : (s.reg r).state = .clearing) :
    s.releaseDone r ok bad = (s.freed r ok bad).enterEnded r := by
  have hstate : ((s.freed r ok bad).reg r).state = .clearing := by rw [State.freed_reg, if_pos rfl, h]
  unfold State.releaseDone
  dsimp only
  split
  · rfl
  · next hs => exact absurd (hstate.symm.trans hs) (by decide)
  · next hs _ => exact absurd hstate hs

theorem State.releaseDone_connecting {ok bad : List ElemNo} (h : (s.reg r).state = .connecting) :
    s.releaseDone r ok bad = ((s.freed r ok bad).modReg r fun g => { g with state := .translated }).post (.register r) .pathFault := by
  have hstate : ((s.freed r ok bad).reg r).state = .connecting := by rw [State.freed_reg, if_pos rfl, h]
  unfold State.releaseDone
  dsimp only
  split
  · next hs => exact absurd (hstate.symm.trans hs) (by decide)
  · rfl
  · next hs => exact absurd hstate hs

theorem State.releaseDone_other {ok bad : List ElemNo} (hc : (s.reg r).state ≠ .clearing) (hn : (s.reg r).state ≠ .connecting) :
    s.releaseDone r ok bad = s.freed r ok bad := by
  have hstate : ((s.freed r ok bad).reg r).state = (s.reg r).state := by rw [State.freed_reg, if_pos rfl]
  unfold State.releaseDone
  dsimp only
  split
  · next hs => exact absurd (hstate.symm.trans hs) hc
  · next hs => exact absurd (hstate.symm.trans hs) hn
  · rfl

/-- What the completion of a RELEASE does whatever state its register is in (R107, R108). -/
structure Cleared (s t : State) (f : InFlight) (good : ElemNo → Bool) (r : RegNo) : Prop where
  net : t.net = (s.landed.applyChecks r (f.ok good) (f.bad good) .free).net
  path : (t.reg r).path = Path.empty
  others : ∀ q, q ≠ r → t.reg q = s.reg q
  notice : f.bad good ≠ [] → t.isPending .maintenance .elementFault = true
  rest : t = { s with regs := t.regs, net := t.net, orders := { s.orders with inFlight := none }, att := t.att }

theorem State.freed_cleared (s : State) (f : InFlight) (good : ElemNo → Bool) (r : RegNo) :
    Cleared s (s.landed.freed r (f.ok good) (f.bad good)) f good r where
  net := by simp [State.freed]
  path := by rw [State.freed_reg, if_pos rfl]
  others q hq := by
    rw [State.freed_reg, if_neg hq]
    rfl
  notice := State.postFault_notice _
  rest := by apply State.eq_of_fields <;> simp [State.freed, State.landed, State.applyChecks]

/-- A later change of the register and a posting keep it. -/
theorem Cleared.modReg_post {t : State} (h : Cleared s t f good r) (g : CallRegister → CallRegister) (k : EventKind)
    (hg : ∀ y, y.path = Path.empty → (g y).path = Path.empty) : Cleared s ((t.modReg r g).post (.register r) k) f good r where
  net := by simp [h.net]
  path := by
    rw [State.post_reg, State.modReg_reg, if_pos rfl]
    exact hg _ h.path
  others q hq := by rw [State.post_reg, State.modReg_reg, if_neg hq, h.others q hq]
  notice hb := by
    have hnotice : (t.modReg r g).isPending .maintenance .elementFault = true := h.notice hb
    rw [State.post_isPending, hnotice, Bool.true_or]
  rest := by
    rw [h.rest]
    apply State.eq_of_fields <;> simp

theorem State.complete_cleared (s : State) (good : ElemNo → Bool) (h : f.order = .release r) :
    Cleared s (s.complete f good) f good r := by
  have hfreed := s.freed_cleared f good r
  rw [State.complete_release h]
  by_cases hc : (s.reg r).state = .clearing
  · rw [State.releaseDone_clearing (s := s.landed) hc]
    exact hfreed.modReg_post _ .cleared fun _ _ => rfl
  · by_cases hn : (s.reg r).state = .connecting
    · rw [State.releaseDone_connecting (s := s.landed) hn]
      exact hfreed.modReg_post _ .pathFault fun _ hy => hy
    · rw [State.releaseDone_other (s := s.landed) hc hn]
      exact hfreed

theorem Cleared.elem {t : State} (h : Cleared s t f good r) (e : ElemNo) :
    t.elem e = if e ∈ f.elements then (if good e then .free else .faulted) else s.elem e := by
  rw [State.elem_congr h.net, applyChecks_checked]
  rfl

theorem Cleared.network {t : State} (h : Cleared s t f good r) : t.net = { s.net with elements := t.net.elements } := by
  rw [h.net]
  exact congrArg State.net (s.landed.applyChecks_rest r (f.ok good) (f.bad good) .free)

/-! ### The completion of NETWORK_CLEAR -/

theorem State.complete_networkClear_good (h : f.order = .networkClear) (hbad : f.bad good = []) : s.complete f good =
    ({ s.landed with net := { s.net with elements := Vector.replicate 352 .free } } : State).post .maintenance .networkCleared := by
  rw [State.complete, h]
  exact if_pos (List.isEmpty_iff.2 hbad)

theorem State.complete_networkClear_bad (h : f.order = .networkClear) (hbad : f.bad good ≠ []) : s.complete f good =
    ({ s.landed with orders := { s.landed.orders with queue := .networkClear :: s.orders.queue } } : State).post
      .maintenance .driveTimeout := by
  rw [State.complete, h]
  exact if_neg (mt List.isEmpty_iff.1 hbad)

theorem State.post_pending (s : State) (j : Subject) (k : EventKind) : (s.post j k).isPending j k = true := by
  rw [State.post_isPending]
  simp

theorem State.enterEnded_cleared (s : State) (r : RegNo) : (s.enterEnded r).isPending (.register r) .cleared = true :=
  State.post_pending _ _ _

/-- The parts of O36 about an OPERATE that is not cancelled. -/
theorem State.operated_register (s : State) (h : f.order = .operate r) (hc : f.cancelled = false) :
    ((∀ e ∈ f.elements, good e = true) → (s.complete f good).reg r = { s.reg r with state := .set } ∧
      (s.complete f good).isPending (.register r) .pathReady = true ∧ (s.complete f good).orders.queue = s.orders.queue ∧
      (s.complete f good).scan = s.scan) ∧
    (f.ok good ≠ [] → f.bad good ≠ [] → (s.complete f good).orders.queue = s.orders.queue ++ [.release r] ∧
      (s.complete f good).reg r = { s.reg r with path := (s.reg r).path.without (f.bad good) }) ∧
    (f.ok good = [] → f.bad good ≠ [] →
      (s.complete f good).reg r = { s.reg r with state := .translated, path := (s.reg r).path.without (f.bad good) } ∧
      (s.complete f good).isPending (.register r) .pathFault = true ∧ (s.complete f good).orders.queue = s.orders.queue) := by
  refine ⟨fun hall => ?_, fun hok hbad => ?_, fun hok hbad => ?_⟩
  · rw [State.complete_good h hc (InFlight.bad_eq_nil.2 hall)]
    refine ⟨s.operateGood_reg r _, State.post_pending _ _ _, ?_, ?_⟩ <;> simp [State.operateGood, State.landed]
  · rw [State.complete_partly h hc hbad hok]
    refine ⟨?_, ?_⟩
    · simp [State.operatePartly, State.appendOrder, State.landed]
    · rw [State.operatePartly_eq, State.reg_congr (State.postFault_rest _ _).1, State.partly_reg, if_pos rfl]
      rfl
  · rw [State.complete_bad h hc hbad hok]
    refine ⟨?_, State.postFault_isPending _ (State.post_pending _ _ _), ?_⟩
    · rw [State.operateBad_eq, State.reg_congr (State.postFault_rest _ _).1, State.allBad_reg, if_pos rfl]
      rfl
    · simp [State.operateBad, State.landed]

/-- The parts of O36 about a cancelled OPERATE. -/
theorem State.cancelled_register (s : State) (h : f.order = .operate r) (hc : f.cancelled = true) :
    (s.complete f good).scan = s.scan ∧
    (f.ok good ≠ [] → (s.complete f good).orders.queue = s.orders.queue ++ [.release r] ∧
      ((s.complete f good).reg r).state = (s.reg r).state ∧
      (s.complete f good).subject (.register r) = s.subject (.register r)) ∧
    (f.ok good = [] → ((s.complete f good).reg r).state = .ended ∧ ((s.complete f good).reg r).path = Path.empty ∧
      (s.complete f good).isPending (.register r) .cleared = true ∧ (s.complete f good).orders.queue = s.orders.queue) := by
  have hcomplete : s.complete f good = (s.landed.cleared r (f.ok good) (f.bad good)).postFault (f.bad good) :=
    State.complete_cancelled h hc
  have hended : f.ok good = [] → s.landed.cleared r (f.ok good) (f.bad good) =
      (s.landed.applyChecks r (f.ok good) (f.bad good) .releasing).enterEnded r := fun hok => if_pos (List.isEmpty_iff.2 hok)
  have hrelease : f.ok good ≠ [] → s.landed.cleared r (f.ok good) (f.bad good) =
      (s.landed.applyChecks r (f.ok good) (f.bad good) .releasing).appendOrder (.release r) :=
    fun hok => if_neg (mt List.isEmpty_iff.1 hok)
  rw [hcomplete]
  refine ⟨?_, fun hok => ⟨?_, ?_, ?_⟩, fun hok => ⟨?_, ?_, ?_, ?_⟩⟩
  · by_cases hok : f.ok good = []
    · rw [hended hok]; simp [State.landed]
    · rw [hrelease hok]; simp [State.landed]
  · rw [hrelease hok]; simp [State.landed, State.appendOrder]
  · rw [State.reg_congr (State.postFault_rest _ _).1, hrelease hok, State.appendOrder_reg, State.applyChecks_reg, if_pos rfl]
    rfl
  · rw [State.postFault_subject _ _ (by simp), hrelease hok]
    exact State.subject_congr (by simp [State.landed]) _
  · rw [State.reg_congr (State.postFault_rest _ _).1, hended hok, State.enterEnded_reg, if_pos rfl]
  · rw [State.reg_congr (State.postFault_rest _ _).1, hended hok, State.enterEnded_reg, if_pos rfl]
  · rw [hended hok]
    exact State.postFault_isPending _ (State.enterEnded_cleared _ _)
  · rw [hended hok]; simp [State.landed]

/-- Settles O36. -/
theorem orderResultsAreApplied : Obligations.OrderResultsAreApplied := by
  refine ⟨fun s f r good h => ?_, fun s f good => ⟨fun r h => ?_, fun h hall => ?_, fun h hsome => ?_⟩⟩
  · obtain ⟨x, hop⟩ := s.complete_operated good h
    obtain ⟨hflight, htag⟩ := hop.flight
    refine ⟨hflight, htag, hop.others, fun e he => ?_, fun e he hg => ?_, fun hsome => hop.notice (InFlight.bad_ne_nil.2 hsome),
      fun hc hall => ?_, fun hc hsome hfail => ?_, fun hc hne hall => ?_,
      fun hc hfail d hd hstate hreg => State.complete_called h hc (InFlight.bad_ne_nil.2 hfail) hd hstate hreg,
      fun hc hsome => ?_, fun hc hall => ?_, hop.rest⟩
    · rw [hop.elem, if_neg he]
    · rw [hop.elem, if_pos he, hg]
      rfl
    · obtain ⟨hgood, -, -⟩ := s.operated_register h hc
      refine ⟨fun e he => ?_, hgood hall⟩
      rw [State.complete_good h hc (InFlight.bad_eq_nil.2 hall), (s.operateGood_operated r (InFlight.bad_eq_nil.2 hall)).elem,
        if_pos he, if_pos (hall e he)]
    · obtain ⟨-, hpartly, -⟩ := s.operated_register h hc
      obtain ⟨hqueue, hreg⟩ := hpartly (InFlight.ok_ne_nil.2 hsome) (InFlight.bad_ne_nil.2 hfail)
      refine ⟨fun e he hg => ?_, hqueue, ?_, ?_⟩
      · rw [State.complete_partly h hc (InFlight.bad_ne_nil.2 hfail) (InFlight.ok_ne_nil.2 hsome),
          (s.operatePartly_operated r).elem, if_pos he, if_pos hg]
      · rw [hreg]
      · rw [hreg, ← s.without_bad_elements]
    · obtain ⟨e, he⟩ := List.exists_mem_of_ne_nil _ hne
      obtain ⟨-, -, hbad⟩ := s.operated_register h hc
      obtain ⟨hreg, hpending, hqueue⟩ := hbad (InFlight.ok_eq_nil.2 hall) (InFlight.bad_ne_nil.2 ⟨e, he, hall e he⟩)
      refine ⟨?_, ?_, hpending, hqueue⟩
      · rw [hreg]
      · rw [hreg, ← s.without_all_elements r (InFlight.ok_eq_nil.2 hall)]
    · obtain ⟨hscan, hreleased, -⟩ := s.cancelled_register h hc
      obtain ⟨hqueue, hstate, hsubject⟩ := hreleased (InFlight.ok_ne_nil.2 hsome)
      refine ⟨fun e he hg => ?_, hqueue, hstate, hscan, hsubject⟩
      rw [State.complete_cancelled h hc, (s.operateCancelled_operated r).elem, if_pos he, if_pos hg]
    · obtain ⟨hscan, -, hended⟩ := s.cancelled_register h hc
      obtain ⟨hstate, hpath, hpending, hqueue⟩ := hended (InFlight.ok_eq_nil.2 hall)
      exact ⟨hstate, hpath, hpending, hqueue, hscan⟩
  · have hcleared := s.complete_cleared good h
    refine ⟨hcleared.elem, hcleared.path, hcleared.others, fun hstate => ?_, fun hstate => ?_,
      fun hfail => hcleared.notice (InFlight.bad_ne_nil.2 hfail), ?_⟩
    · rw [State.complete_release h, State.releaseDone_clearing (s := s.landed) hstate]
      exact ⟨by rw [State.enterEnded_reg, if_pos rfl], State.enterEnded_cleared _ _⟩
    · rw [State.complete_release h, State.releaseDone_connecting (s := s.landed) hstate]
      refine ⟨?_, State.post_pending _ _ _⟩
      rw [State.post_reg, State.modReg_reg, if_pos rfl, State.freed_reg, if_pos rfl]
      rfl
    · rw [← hcleared.network]
      exact hcleared.rest
  · rw [State.complete_networkClear_good h (InFlight.bad_eq_nil.2 hall)]
    refine ⟨fun e => ?_, State.post_pending _ _ _, ?_⟩
    · rw [State.elem, (State.post_frame _ _ _).2.2.2.2.1]
      exact tget_replicate _ _
    · apply State.eq_of_fields <;> simp [State.landed]
  · rw [State.complete_networkClear_bad h (InFlight.bad_ne_nil.2 hsome)]
    exact ⟨State.post_pending _ _ _, by apply State.eq_of_fields <;> simp [State.landed]⟩

end Sys2Proof.Machine
end

section
/-! SUPPORT. Units leaving a call and entry into TONE and ENDED (R7, R14, R49, R118): the register, the unit and the signals after each. -/

namespace Sys2Proof.Machine

variable {s : State} {r : RegNo}

/-! ### The receiver of a register (R49) -/

theorem State.detachReceiver_none (quiet : Bool) (h : (s.reg r).receiver = none) :
    s.detachReceiver r quiet = s.modReg r fun g => { g with receiver := none, walkNode := none } := by
  rw [State.detachReceiver, h]

theorem State.detachReceiver_attached {k : ReceiverNo} {a : Attachment} (quiet : Bool) (h : (s.reg r).receiver = some k)
    (hk : s.receiver k = .attached a) : s.detachReceiver r quiet =
      (if a.dialTone && !quiet then (s.modReg r fun g => { g with receiver := none, walkNode := none }).removeDialTone r
        else s.modReg r fun g => { g with receiver := none, walkNode := none }).setReceiver k
        (if a.blockAfterUse then .blocked else .free) := by
  rw [State.detachReceiver, h]
  simp only [hk]

@[simp] theorem State.detachReceiver_reg (s : State) (r q : RegNo) (quiet : Bool) : (s.detachReceiver r quiet).reg q =
    if q = r then { s.reg r with receiver := none, walkNode := none } else s.reg q := by
  rw [← State.modReg_reg s r q fun g => { g with receiver := none, walkNode := none }]
  unfold State.detachReceiver
  dsimp only
  split
  · rfl
  · split
    · rw [State.setReceiver_reg]
      split
      · exact State.removeDialTone_reg _ _ _
      · rfl
    · rfl

theorem State.detachReceiver_receiver {k : ReceiverNo} {a : Attachment} (quiet : Bool) (h : (s.reg r).receiver = some k)
    (hk : s.receiver k = .attached a) (l : ReceiverNo) : (s.detachReceiver r quiet).receiver l =
      if l = k then (if a.blockAfterUse then .blocked else .free) else s.receiver l := by
  rw [State.detachReceiver_attached quiet h hk, State.setReceiver_receiver]
  by_cases hl : l = k
  · rw [if_pos hl, if_pos hl]
  · rw [if_neg hl, if_neg hl]
    exact State.receiver_congr (by split <;> simp) l

/-- What a detaching receiver leaves of the signals: dial tone alone may go. -/
@[simp] theorem State.detachReceiver_sig (s : State) (r : RegNo) (quiet : Bool) :
    (s.detachReceiver r quiet).sig.senders = s.sig.senders ∧ (s.detachReceiver r quiet).sig.trunkTones = s.sig.trunkTones ∧
      (s.detachReceiver r quiet).sig.senderSignals = s.sig.senderSignals ∧
      (s.detachReceiver r quiet).sig.clearTimers = s.sig.clearTimers := by
  unfold State.detachReceiver
  dsimp only
  (repeat' split) <;> simp

@[simp] theorem State.setReceiver_toneOf (s : State) (k : ReceiverNo) (x : Receiver) (u : Terminal) :
    (s.setReceiver k x).toneOf u = s.toneOf u := State.toneOf_congr (by simp) u

@[simp] theorem State.detachReceiver_toneOf (s : State) (r : RegNo) (quiet : Bool) (u : Terminal) :
    (s.detachReceiver r quiet).toneOf u = s.toneOf u := by
  unfold State.detachReceiver
  dsimp only
  split
  · exact State.toneOf_congr (by simp) u
  · split
    · rw [State.setReceiver_toneOf]
      split
      · exact (State.removeDialTone_toneOf _ _ _).trans (State.toneOf_congr (by simp) u)
      · exact State.toneOf_congr (by simp) u
    · exact State.toneOf_congr (by simp) u

/-- The receiver of a calling line takes its dial tone with it. -/
theorem State.detachReceiver_dialTone {k : ReceiverNo} {a : Attachment} {n : LineNo} {p : Party} (h : (s.reg r).receiver = some k)
    (hk : s.receiver k = .attached a) (ho : (s.reg r).origin = some (.line n p)) (ha : a.dialTone = true) :
    (tget (s.detachReceiver r false).sig.lineSignals n).dialTone = false := by
  have horigin : ((s.modReg r fun g => { g with receiver := none, walkNode := none }).reg r).origin = some (.line n p) := by
    simp [ho]
  have hcond : (a.dialTone && !false) = true := by rw [ha]; rfl
  rw [State.detachReceiver_attached false h hk, (State.setReceiver_frame _ _ _).2.2.2.2.2.1, if_pos hcond,
    State.removeDialTone_line horigin, State.sendDialTone_signal, if_pos rfl]

/-! ### Reservations (R162) -/

@[simp] theorem State.returnReservation_reg (s : State) (r q : RegNo) :
    (s.returnReservation r).reg q = if q = r then { s.reg r with reservation := false } else s.reg q := by
  unfold State.returnReservation
  split
  · exact State.modReg_reg _ _ _ _
  · next h =>
    split
    · next hq =>
      rw [hq]
      simp only [Bool.not_eq_true] at h
      rw [← h]
    · rfl

theorem State.returnReservation_tickets (s : State) (r : RegNo) : (s.returnReservation r).tickets =
    if (s.reg r).reservation = true then { s.tickets with reserved := s.tickets.reserved - 1 } else s.tickets := by
  unfold State.returnReservation
  split <;> rfl

/-! ### The sender of a register (R118) -/

@[simp] theorem State.sendSenderLoop_sender (s : State) (k j : SenderNo) (x : Loop) : (s.sendSenderLoop k x).sender j = s.sender j := by
  rw [State.sender, State.sendSenderLoop, (State.sendSender_sig _ _ _ _).1]
  rfl

@[simp] theorem State.sendSenderDetach_sender (s : State) (k j : SenderNo) : (s.sendSenderDetach k).sender j = s.sender j := by
  rw [State.sender, State.sendSenderDetach, (State.sendSender_sig _ _ _ _).1]
  rfl

@[simp] theorem State.modReg_sender (s : State) (r : RegNo) (g : CallRegister → CallRegister) (k : SenderNo) :
    (s.modReg r g).sender k = s.sender k := rfl

theorem State.detachSender_busy {k : SenderNo} {b : Sending} (h : s.sender k = .busy b) : s.detachSender k =
    (((s.sendSenderLoop k .closed).sendSenderDetach k).setSender k (if b.blockAfterUse then .blocked else .free)).modReg
      b.register fun g => { g with sender := none } := by
  rw [State.detachSender, h]

theorem State.stopSender_busy {k : SenderNo} {b : Sending} (h : (s.reg r).sender = some k) (hk : s.sender k = .busy b)
    (hb : b.register = r) : s.stopSender r =
    (((s.sendSenderLoop k .closed).sendSenderDetach k).setSender k (if b.blockAfterUse then .blocked else .free)).modReg
      r fun g => { g with sender := none } := by
  rw [State.stopSender, h]
  exact (State.detachSender_busy hk).trans (by rw [hb])

theorem State.stopSender_none (h : (s.reg r).sender = none) : s.stopSender r = s := by rw [State.stopSender, h]

/-- The law of a register and its sender: the sender is BUSY for it. -/
abbrev State.sends (s : State) (r : RegNo) : Prop :=
  ∀ k, (s.reg r).sender = some k → ∃ b, s.sender k = .busy b ∧ b.register = r

theorem State.stopSender_reg (h : s.sends r) (q : RegNo) :
    (s.stopSender r).reg q = if q = r then { s.reg r with sender := none } else s.reg q := by
  cases hk : (s.reg r).sender with
  | none =>
    rw [State.stopSender_none hk]
    split
    · next hq => rw [hq, ← hk]
    · rfl
  | some k =>
    obtain ⟨b, hb, hr⟩ := h k hk
    rw [State.stopSender_busy hk hb hr, State.modReg_reg]
    simp

theorem State.stopSender_sender {k : SenderNo} {b : Sending} (h : (s.reg r).sender = some k) (hk : s.sender k = .busy b)
    (hb : b.register = r) : (s.stopSender r).sender k = (if b.blockAfterUse then .blocked else .free) ∧
      tget (s.stopSender r).sig.senderSignals k = ⟨none, .closed⟩ := by
  rw [State.stopSender_busy h hk hb]
  refine ⟨?_, ?_⟩
  · rw [State.modReg_sender, State.setSender_sender, if_pos rfl]
  · rw [(State.modReg_frame _ _ _).2.2.2.2.2.1, (State.setSender_sig _ _ _).2.2.2, State.sendSenderDetach, State.sendSender_signal,
      if_pos rfl]

theorem State.stopSender_sender_of_ne (h : s.sends r) {k : SenderNo} (hk : (s.reg r).sender ≠ some k) :
    (s.stopSender r).sender k = s.sender k := by
  cases hj : (s.reg r).sender with
  | none => rw [State.stopSender_none hj]
  | some j =>
    obtain ⟨b, hb, hr⟩ := h j hj
    rw [State.stopSender_busy hj hb hr]
    rw [State.modReg_sender, State.setSender_sender, if_neg fun (he : k = j) => hk (hj.trans (congrArg some he.symm)), State.sendSenderDetach_sender, State.sendSenderLoop_sender]

@[simp] theorem State.stopSender_sig (s : State) (r : RegNo) : (s.stopSender r).sig.lineSignals = s.sig.lineSignals ∧
    (s.stopSender r).sig.trunkTones = s.sig.trunkTones ∧ (s.stopSender r).sig.clearTimers = s.sig.clearTimers := by
  unfold State.stopSender State.detachSender
  split
  · split
    · simp [State.sendSenderDetach, State.sendSenderLoop]
    · exact ⟨rfl, rfl, rfl⟩
  · exact ⟨rfl, rfl, rfl⟩

/-! ### Entry into TONE (R7) -/

@[simp] theorem State.enterTone_reg (s : State) (r q : RegNo) (x : Tone) (c : ToneCause) : (s.enterTone r x c).reg q =
    if q = r then { s.reg r with
      state := .tone, tone := some (x, c), timer := some ⟨.tone, 30000⟩, receiver := none, walkNode := none } else s.reg q := by
  rw [State.enterTone]
  dsimp only
  rw [State.toneToCaller_reg, State.modReg_reg, State.removeDialTone_reg, State.removeDialTone_reg, State.detachReceiver_reg,
    State.detachReceiver_reg, if_pos rfl]
  by_cases hq : q = r
  · rw [if_pos hq, if_pos hq]
    rfl
  · rw [if_neg hq, if_neg hq, if_neg hq]

/-- The state just before the tone is sent. -/
def State.quieted (s : State) (r : RegNo) (x : Tone) (c : ToneCause) : State :=
  ((s.detachReceiver r false).removeDialTone r).modReg r fun g =>
    { g with state := .tone, tone := some (x, c), timer := some ⟨.tone, Config.toneTime⟩ }

theorem State.quieted_origin (s : State) (r : RegNo) (x : Tone) (c : ToneCause) :
    ((s.quieted r x c).reg r).origin = (s.reg r).origin := by
  rw [State.quieted, State.modReg_reg, if_pos rfl, State.removeDialTone_reg, State.detachReceiver_reg, if_pos rfl]

theorem State.enterTone_eq {o : Origin} (x : Tone) (c : ToneCause) (h : (s.reg r).origin = some o) :
    s.enterTone r x c = (s.quieted r x c).sendTone o.terminal (some x) :=
  State.toneToCaller_eq (s := s.quieted r x c) (by rw [State.quieted_origin, h]) _

theorem State.quieted_sig (s : State) (r : RegNo) (x : Tone) (c : ToneCause) :
    (s.quieted r x c).sig = ((s.detachReceiver r false).removeDialTone r).sig := rfl

theorem State.enterTone_toneOf {o : Origin} (x : Tone) (c : ToneCause) (h : (s.reg r).origin = some o) (t : Terminal) :
    (s.enterTone r x c).toneOf t = if t = o.terminal then some x else s.toneOf t := by
  rw [State.enterTone_eq x c h, State.sendTone_toneOf, State.toneOf_congr (State.quieted_sig s r x c), State.removeDialTone_toneOf,
    State.detachReceiver_toneOf]

theorem State.enterTone_dialTone {n : LineNo} {p : Party} (x : Tone) (c : ToneCause) (h : (s.reg r).origin = some (.line n p)) :
    (tget (s.enterTone r x c).sig.lineSignals n).dialTone = false := by
  have horigin : ((s.detachReceiver r false).reg r).origin = some (.line n p) := by simp [h]
  rw [State.enterTone_eq x c h, (State.sendTone_signal _ _ _ _).1, State.quieted_sig, State.removeDialTone_line horigin,
    State.sendDialTone_signal, if_pos rfl]

@[simp] theorem State.enterTone_ringing (s : State) (r : RegNo) (x : Tone) (c : ToneCause) (n : LineNo)
    (h : (tget (s.detachReceiver r false).sig.lineSignals n).ringing = (tget s.sig.lineSignals n).ringing) :
    (tget (s.enterTone r x c).sig.lineSignals n).ringing = (tget s.sig.lineSignals n).ringing := by
  rw [State.enterTone, (State.toneToCaller_signal _ _ _ _).2, (State.modReg_frame _ _ _).2.2.2.2.2.1, State.removeDialTone_ringing, h]

end Sys2Proof.Machine
end

section
/-! SUPPORT. Give Tone (R5 to R7). -/

namespace Sys2Proof.Machine

variable {s : State} {r : RegNo}

/-- R6, where the register has a called line that names it in the called role. -/
theorem State.giveUpCalled_called {d : Subscriber} (hd : (s.reg r).destination = some d) (hrole : s.calledRole r d.line = true) :
    s.giveUpCalled r = s.leaveCall (.line d.line) := by
  rw [State.giveUpCalled, hd]
  exact if_pos hrole

theorem State.giveUpCalled_none (hd : (s.reg r).destination = none) : s.giveUpCalled r = s := by
  rw [State.giveUpCalled, hd]

/-- What giving up a called line leaves alone. -/
theorem State.giveUpCalled_rest (s : State) (r : RegNo) : s.giveUpCalled r = { s with
    scan := (s.giveUpCalled r).scan, att := (s.giveUpCalled r).att } := by
  unfold State.giveUpCalled
  split
  · split
    · apply State.eq_of_fields <;> simp
    · rfl
  · rfl

theorem State.giveUpCalled_subject (s : State) (r : RegNo) {j : Subject} (hj : j ≠ .maintenance) :
    (s.giveUpCalled r).subject j = s.subject j := by
  unfold State.giveUpCalled
  split
  · split
    · exact s.leaveCall_subject _ hj
    · rfl
  · rfl

/-- The state in which Give Tone sends its tone: a SET register has given up its called line. -/
def State.toned (s : State) (r : RegNo) : State := if (s.reg r).state = .set then s.giveUpCalled r else s

theorem State.toned_rest (s : State) (r : RegNo) : s.toned r = { s with scan := (s.toned r).scan, att := (s.toned r).att } := by
  unfold State.toned
  split
  · exact s.giveUpCalled_rest r
  · rfl

theorem giveTone_toned {x : Side} {b c : Byte} {y : Tone} (hb : b.toNat = r.val) (hc : c.toNat = y.code)
    (hr : s.handler (.register r) = some x) (hs : (s.reg r).state = .translated ∨ (s.reg r).state = .set) :
    giveTone b c x s = doneWith ((s.toned r).enterTone r y .ordered) := by
  rw [giveTone_acting (toneOperand_code y hc), acting_bound hb hr, State.toned]
  rcases hs with hs | hs
  · simp only [hs]
    rfl
  · simp only [hs]
    rfl

theorem State.enterTone_receivers (x : Tone) (c : ToneCause) (h : (s.reg r).receiver = none) :
    (s.enterTone r x c).receivers = s.receivers := by
  simp [State.enterTone, State.detachReceiver_none _ h]

/-- Settles O10. -/
theorem giveToneEntersTone : Obligations.GiveToneEntersTone := by
  intro x s r b c y o htakes hb hc hr hs ho hreceiver hwalk
  have hreg : ∀ q, (s.toned r).reg q = s.reg q := State.reg_congr (by rw [State.toned_rest])
  have hsig : (s.toned r).sig = s.sig := by rw [State.toned_rest]
  have horigin : ((s.toned r).reg r).origin = some o := by rw [hreg, ho]
  refine ⟨(s.toned r).enterTone r y .ordered, State.exec_of_takes htakes (State.runs_of_doneWith rfl (giveTone_toned hb hc hr hs)),
    ?_, fun q hq => ?_, ?_, fun t ht => ?_, fun n p hn => ?_, fun h => ?_, fun d hset hd hrole => ?_, fun j hj => ?_, ?_⟩
  · rw [State.enterTone_reg, if_pos rfl, hreg]
    simp [hreceiver, hwalk]
  · rw [State.enterTone_reg, if_neg hq, hreg]
  · rw [State.enterTone_toneOf _ _ horigin, if_pos rfl]
  · rw [State.enterTone_toneOf _ _ horigin, if_neg ht, State.toneOf_congr hsig]
  · exact State.enterTone_dialTone _ _ (by rw [horigin, hn])
  · have hsame : s.toned r = s := by
      unfold State.toned
      split
      · next hset => exact State.giveUpCalled_none (h.resolve_left (by simp [hset]))
      · rfl
    rw [hsame]
    exact ⟨by simp, by simp⟩
  · have htoned : s.toned r = s.leaveCall (.line d.line) := by
      rw [State.toned, if_pos hset, State.giveUpCalled_called hd hrole]
    have hscan : ((s.toned r).enterTone r y .ordered).scan = (s.leaveCall (.line d.line)).scan := by
      rw [(State.enterTone_frame _ _ _ _).1, htoned]
    have hatt : ((s.toned r).enterTone r y .ordered).att = (s.leaveCall (.line d.line)).att := by
      rw [(State.enterTone_frame _ _ _ _).2.2.2.2.2.2.2.1, htoned]
    refine ⟨?_, fun n hn => ?_, ?_, fun ha => ?_, fun ha => ?_⟩
    · rw [State.line_congr hscan, State.leaveCall_line_line, if_pos rfl]
      cases ha : (s.line d.line).accepted <;> rfl
    · rw [State.line_congr hscan, State.leaveCall_line_line, if_neg hn]
    · rw [hscan, State.leaveCall_line_scan]
    · rw [State.isPending_congr hatt, State.leaveCall_lockout (t := .line d.line) ha]
    · rw [hatt, State.leaveCall_att_opened (t := .line d.line) ha]
  · rw [State.subject_congr (State.enterTone_frame _ _ _ _).2.2.2.2.2.2.2.1, State.toned]
    split
    · exact s.giveUpCalled_subject r hj
    · rfl
  · have hnone : ((s.toned r).reg r).receiver = none := by rw [hreg, hreceiver]
    apply State.eq_of_fields <;> simp only [State.enterTone_frame, State.enterTone_receivers _ _ hnone] <;> rw [State.toned_rest]

end Sys2Proof.Machine
end

section
/-! SUPPORT. A release in its stages (R9 to R13): the parts stopped, the roles ended, the reservation settled and the path dealt with. -/

namespace Sys2Proof.Machine

variable {s : State} {r : RegNo}

/-! ### The parts stopped (R10) -/

/-- The tone of a register that was in TONE is removed. -/
def State.stopTone (s : State) (r : RegNo) (was : RegState) : State := if was = .tone then s.toneToCaller r none else s

/-- Ringing of a register that was RINGING is removed. -/
def State.stopRinging (s : State) (was : RegState) (d : Option Subscriber) : State :=
  match was, d with
  | .ringing, some x => s.sendRinging x.line none
  | _, _ => s

/-- The signals of a call removed, before its record is cleared. -/
def State.hushed (s : State) (r : RegNo) (was : RegState) : State :=
  (((s.stopSender r).stopTone r was).stopRinging was (s.reg r).destination).removeDialTone r

theorem State.stopParts_eq (s : State) (r : RegNo) (was : RegState) :
    s.stopParts r was = (s.hushed r was).modReg r fun g => { g with timer := none, meter := none, tone := none } := rfl

@[simp] theorem State.stopTone_reg (s : State) (r q : RegNo) (was : RegState) : (s.stopTone r was).reg q = s.reg q := by
  unfold State.stopTone
  split
  · exact State.toneToCaller_reg _ _ _ _
  · rfl

@[simp] theorem State.stopRinging_reg (s : State) (was : RegState) (d : Option Subscriber) (q : RegNo) :
    (s.stopRinging was d).reg q = s.reg q := by
  unfold State.stopRinging
  split
  · exact State.sendRinging_reg _ _ _ _
  · rfl

theorem State.hushed_reg (s : State) (r q : RegNo) (was : RegState) : (s.hushed r was).reg q = (s.stopSender r).reg q := by
  rw [State.hushed, State.removeDialTone_reg, State.stopRinging_reg, State.stopTone_reg]

theorem State.stopParts_reg (s : State) (r q : RegNo) (was : RegState) : (s.stopParts r was).reg q =
    if q = r then { (s.stopSender r).reg r with timer := none, meter := none, tone := none } else (s.stopSender r).reg q := by
  rw [State.stopParts_eq, State.modReg_reg, State.hushed_reg, State.hushed_reg]

/-- A sender that detaches touches the sender of a record and nothing else of it. -/
theorem State.stopSender_record (s : State) (r q : RegNo) :
    (s.stopSender r).reg q = { s.reg q with sender := ((s.stopSender r).reg q).sender } := by
  unfold State.stopSender State.detachSender
  split
  · split
    · rw [State.modReg_reg]
      split
      · next hq => simp [hq]
      · simp
    · rfl
  · rfl

@[simp] theorem State.stopTone_sig (s : State) (r : RegNo) (was : RegState) : (s.stopTone r was).sig.senders = s.sig.senders ∧
    (s.stopTone r was).sig.senderSignals = s.sig.senderSignals ∧ (s.stopTone r was).sig.clearTimers = s.sig.clearTimers := by
  unfold State.stopTone
  split
  · exact State.toneToCaller_sig _ _ _
  · exact ⟨rfl, rfl, rfl⟩

@[simp] theorem State.stopRinging_sig (s : State) (was : RegState) (d : Option Subscriber) :
    (s.stopRinging was d).sig.senders = s.sig.senders ∧ (s.stopRinging was d).sig.trunkTones = s.sig.trunkTones ∧
      (s.stopRinging was d).sig.senderSignals = s.sig.senderSignals ∧
      (s.stopRinging was d).sig.clearTimers = s.sig.clearTimers := by
  unfold State.stopRinging
  split
  · exact State.sendRinging_sig _ _ _
  · exact ⟨rfl, rfl, rfl, rfl⟩

@[simp] theorem State.stopRinging_toneOf (s : State) (was : RegState) (d : Option Subscriber) (t : Terminal) :
    (s.stopRinging was d).toneOf t = s.toneOf t := by
  unfold State.stopRinging
  split
  · exact State.sendRinging_toneOf _ _ _ _
  · rfl

theorem State.stopParts_sig (s : State) (r : RegNo) (was : RegState) : (s.stopParts r was).sig = (s.hushed r was).sig := rfl

theorem State.stopParts_sender (s : State) (r : RegNo) (was : RegState) (k : SenderNo) :
    (s.stopParts r was).sender k = (s.stopSender r).sender k := by
  have hsenders : (s.hushed r was).sig.senders = (s.stopSender r).sig.senders := by simp [State.hushed]
  rw [State.sender, State.stopParts_sig, hsenders]
  rfl

theorem State.stopParts_senderSignals (s : State) (r : RegNo) (was : RegState) :
    (s.stopParts r was).sig.senderSignals = (s.stopSender r).sig.senderSignals := by
  simp [State.stopParts_sig, State.hushed]

theorem State.stopParts_clearTimers (s : State) (r : RegNo) (was : RegState) :
    (s.stopParts r was).sig.clearTimers = s.sig.clearTimers := by
  simp [State.stopParts_sig, State.hushed]

theorem State.stopSender_origin (s : State) (r q : RegNo) : ((s.stopSender r).reg q).origin = (s.reg q).origin := by
  rw [State.stopSender_record]

theorem State.stopParts_dialTone {n : LineNo} {p : Party} (was : RegState) (h : (s.reg r).origin = some (.line n p)) :
    (tget (s.stopParts r was).sig.lineSignals n).dialTone = false := by
  have horigin : ((((s.stopSender r).stopTone r was).stopRinging was (s.reg r).destination).reg r).origin = some (.line n p) := by
    rw [State.stopRinging_reg, State.stopTone_reg, State.stopSender_origin, h]
  rw [State.stopParts_sig, State.hushed, State.removeDialTone_line horigin, State.sendDialTone_signal, if_pos rfl]

theorem State.stopParts_toneOf {o : Origin} (h : (s.reg r).origin = some o) : (s.stopParts r .tone).toneOf o.terminal = none := by
  rw [State.toneOf_congr (State.stopParts_sig s r .tone), State.hushed, State.removeDialTone_toneOf, State.stopRinging_toneOf,
    State.stopTone, if_pos rfl, State.toneToCaller_eq (by rw [State.stopSender_origin, h]), State.sendTone_toneOf, if_pos rfl]

theorem State.stopParts_ringing {d : Subscriber} (h : (s.reg r).destination = some d) :
    (tget (s.stopParts r .ringing).sig.lineSignals d.line).ringing = none := by
  rw [State.stopParts_sig, State.hushed, State.removeDialTone_ringing, h, State.stopRinging, State.sendRinging_signal, if_pos rfl]

/-! ### The roles ended (R11) -/

section
variable {c : EndCause} {o : Origin}

/-- The calling terminal leaves the call by its loop: a calling clear has found it OPEN. -/
theorem State.leaves_calling (ha : c = .callingClear → s.accepted o.terminal = .opened) :
    (if c = .callingClear then s.toIdle o.terminal else s.leaveCall o.terminal) = s.leaveCall o.terminal := by
  split
  · next hc => rw [State.toIdle_opened (ha hc), State.leaveCall_opened (ha hc)]
  · rfl

theorem State.endRoles_called {d : Subscriber} (ho : (s.reg r).origin = some o) (hrole : s.callingRole r o.terminal = true)
    (ha : c = .callingClear → s.accepted o.terminal = .opened) (hd : (s.reg r).destination = some d)
    (hcalled : s.calledRole r d.line = true) : s.endRoles r c = (s.leaveCall o.terminal).leaveCall (.line d.line) := by
  rw [State.endRoles, ho, hd]
  dsimp only
  rw [if_pos hrole, State.leaves_calling ha, if_pos hcalled]

theorem State.endRoles_uncalled (ho : (s.reg r).origin = some o) (hrole : s.callingRole r o.terminal = true)
    (ha : c = .callingClear → s.accepted o.terminal = .opened)
    (hcalled : ∀ d, (s.reg r).destination = some d → s.calledRole r d.line = false) : s.endRoles r c = s.leaveCall o.terminal := by
  rw [State.endRoles, ho]
  dsimp only
  rw [if_pos hrole, State.leaves_calling ha]
  split
  · next d hd => rw [if_neg (by rw [hcalled d hd]; exact Bool.false_ne_true)]
  · rfl

end

/-- The calling role ended, before the called one is. -/
def State.endCalling (s : State) (r : RegNo) (c : EndCause) : State :=
  match (s.reg r).origin with
  | some o =>
    if s.callingRole r o.terminal then (if c = .callingClear then s.toIdle o.terminal else s.leaveCall o.terminal) else s
  | none => s

theorem State.endCalling_subject (s : State) (r : RegNo) (c : EndCause) {j : Subject} (hj : j ≠ .maintenance) :
    (s.endCalling r c).subject j = s.subject j := by
  unfold State.endCalling
  split
  · split
    · split
      · exact State.subject_congr (by simp) j
      · exact s.leaveCall_subject _ hj
    · rfl
  · rfl

theorem State.endRoles_subject (s : State) (r : RegNo) (c : EndCause) {j : Subject} (hj : j ≠ .maintenance) :
    (s.endRoles r c).subject j = s.subject j := by
  have hcalling := s.endCalling_subject r c hj
  unfold State.endRoles
  dsimp only
  split
  · split
    · exact (State.leaveCall_subject _ _ hj).trans hcalling
    · exact hcalling
  · exact hcalling

/-! ### The reservation settled (R12) -/

theorem State.makeTicket_reg (s : State) (r q : RegNo) (g : CallRegister) :
    (s.makeTicket r g).reg q = if q = r then { s.reg r with reservation := false } else s.reg q := by
  unfold State.makeTicket
  split
  · exact State.modReg_reg _ _ _ _
  · exact State.returnReservation_reg _ _ _

theorem State.settleReservation_reg (s : State) (r q : RegNo) (g : CallRegister) :
    (s.settleReservation r g).reg q = if q = r then { s.reg r with reservation := false } else s.reg q := by
  unfold State.settleReservation
  split
  · exact State.makeTicket_reg _ _ _ _
  · exact State.returnReservation_reg _ _ _

/-! ### The path dealt with (R13) -/

/-- A record on its entry into ENDED (R14). -/
def CallRegister.ended (g : CallRegister) : CallRegister := { g with
  state := .ended, walkNode := none, receiver := none, sender := none, tone := none, timer := none, meter := none, path := Path.empty }

theorem State.enterEnded_ended (s : State) (r q : RegNo) : (s.enterEnded r).reg q = if q = r then (s.reg r).ended else s.reg q :=
  s.enterEnded_reg r q

theorem State.releasePath_noPath {was : RegState} (hw : was ≠ .connecting) (hp : (s.reg r).path.elements = []) :
    s.releasePath r was = s.enterEnded r := by
  rw [State.releasePath]
  dsimp only
  rw [if_neg hw, hp]
  rfl

theorem State.releasePath_path {was : RegState} (hw : was ≠ .connecting) (hp : (s.reg r).path.elements ≠ []) :
    s.releasePath r was = ((s.setElems (s.reg r).path.elements .releasing).modReg r fun g =>
      { g with state := .clearing }).appendOrder (.release r) := by
  rw [State.releasePath]
  dsimp only
  rw [if_neg hw, if_neg (by simpa using hp)]

/-- The register while a release from CONNECTING is decided. -/
def State.clearing (s : State) (r : RegNo) : State := s.modReg r fun g => { g with state := .clearing }

theorem State.releasePath_queued (h : Order.operate r ∈ s.orders.queue) :
    s.releasePath r .connecting = ((s.clearing r).withdrawOperate r).enterEnded r := by
  rw [State.releasePath]
  dsimp only
  rw [if_pos rfl, if_pos h]
  rfl

theorem State.releasePath_flying (h : Order.operate r ∉ s.orders.queue) (hf : s.flying (.operate r) = true) :
    s.releasePath r .connecting = (s.clearing r).cancelInFlight := by
  rw [State.releasePath]
  dsimp only
  rw [if_pos rfl, if_neg h, if_pos hf]
  rfl

theorem State.releasePath_fault (h : Order.operate r ∉ s.orders.queue) (hf : s.flying (.operate r) = false) :
    s.releasePath r .connecting = s.clearing r := by
  rw [State.releasePath]
  dsimp only
  rw [if_pos rfl, if_neg h, if_neg (Bool.eq_false_iff.1 hf)]
  rfl

theorem State.withdrawOperate_regs (s : State) (r : RegNo) : (s.withdrawOperate r).regs = s.regs := by
  simp [State.withdrawOperate]

/-- Whatever its path, the register is CLEARING or ENDED, and no other record changes. -/
theorem State.releasePath_reg (s : State) (r : RegNo) (was : RegState) :
    ((s.releasePath r was).reg r = { s.reg r with state := .clearing } ∨ (s.releasePath r was).reg r = (s.reg r).ended) ∧
      ∀ q, q ≠ r → (s.releasePath r was).reg q = s.reg q := by
  have hclearing (q : RegNo) : (s.clearing r).reg q = if q = r then { s.reg r with state := .clearing } else s.reg q :=
    State.modReg_reg _ _ _ _
  by_cases hw : was = .connecting
  · subst hw
    by_cases hq : Order.operate r ∈ s.orders.queue
    · have hregs := State.withdrawOperate_regs (s.clearing r) r
      rw [State.releasePath_queued hq]
      refine ⟨.inr ?_, fun q hq => ?_⟩
      · rw [State.enterEnded_ended, if_pos rfl, State.reg_congr hregs, hclearing, if_pos rfl]
        rfl
      · rw [State.enterEnded_ended, if_neg hq, State.reg_congr hregs, hclearing, if_neg hq]
    · cases hf : s.flying (.operate r) with
      | true =>
        rw [State.releasePath_flying hq hf]
        exact ⟨.inl ((hclearing r).trans (if_pos rfl)), fun q hq => (hclearing q).trans (if_neg hq)⟩
      | false =>
        rw [State.releasePath_fault hq hf]
        exact ⟨.inl ((hclearing r).trans (if_pos rfl)), fun q hq => (hclearing q).trans (if_neg hq)⟩
  · by_cases hp : (s.reg r).path.elements = []
    · rw [State.releasePath_noPath hw hp]
      exact ⟨.inr ((s.enterEnded_ended r r).trans (if_pos rfl)), fun q hq => (s.enterEnded_ended r q).trans (if_neg hq)⟩
    · rw [State.releasePath_path hw hp]
      refine ⟨.inl ?_, fun q hq => ?_⟩
      · rw [State.appendOrder_reg, State.modReg_reg, if_pos rfl, State.setElems_reg]
      · rw [State.appendOrder_reg, State.modReg_reg, if_neg hq, State.setElems_reg]

/-- The path posts CLEARED or nothing. -/
theorem State.releasePath_att (s : State) (r : RegNo) (was : RegState) :
    (s.releasePath r was).att = s.att ∨ ∃ u : State, u.att = s.att ∧ s.releasePath r was = u.enterEnded r := by
  unfold State.releasePath
  dsimp only
  split
  · split
    · exact .inr ⟨_, by simp [State.withdrawOperate], rfl⟩
    · split
      · exact .inl (by simp)
      · exact .inl (by simp)
  · split
    · exact .inr ⟨s, rfl, rfl⟩
    · exact .inl (by simp)

end Sys2Proof.Machine
end

section
/-! SUPPORT. A release as a whole (R9 to R14, R104, R105, R163, R164), what starts one, and the end of a call from DIALING. -/

namespace Sys2Proof.Machine

variable {s : State} {r : RegNo} {c : EndCause}

/-! ### What starts a release -/

theorem RegState.isCalling_iff {x : RegState} :
    x.isCalling = true ↔ x ∈ [RegState.translated, .connecting, .set, .ringing, .sending, .awaitAnswer, .talk, .tone] := by
  cases x <;> simp [RegState.isCalling]

theorem State.release_idle (h : (s.reg r).state.isCalling = false) : s.release r c = s := if_neg (Bool.eq_false_iff.1 h)

theorem releaseCall_calling {x : Side} {b : Byte} (hb : b.toNat = r.val) (hr : s.handler (.register r) = some x)
    (hs : (s.reg r).state.isCalling = true) : releaseCall b x s = doneWith (s.release r .forced).settle := by
  rw [releaseCall, acting_bound hb hr]
  split
  · next h => simp [h, RegState.isCalling] at hs
  · next h => simp [h, RegState.isCalling] at hs
  · next h => simp [h, RegState.isCalling] at hs
  · next h => simp [h, RegState.isCalling] at hs
  · rfl

theorem CallRegister.expired_iff {g : CallRegister} {k : TimerKind} : g.expired k = true ↔ g.timer = some ⟨k, 0⟩ := decide_eq_true_iff

/-- Settles O11. -/
theorem causesOfRelease : Obligations.CausesOfRelease := by
  refine ⟨fun x s r b htakes hb hr hs => ?_, fun s r y c hs ht htone => ?_, fun s r ht => ?_, fun s i r ht hr => ?_, fun s r c hs => ?_,
    fun s r t htone hcalled => ⟨?_, ?_, fun i ht hlt => ?_⟩⟩
  · exact State.exec_of_takes htakes (State.runs_of_doneWith rfl (releaseCall_calling hb hr (RegState.isCalling_iff.2 hs)))
  · refine congrArg Host.Outcome.next ?_
    rw [State.toneExpiry, if_pos ⟨hs, CallRegister.expired_iff.2 ht⟩, htone]
    simp only [Option.map_some, Option.some.injEq]
  · exact congrArg Host.Outcome.next (if_pos (CallRegister.expired_iff.2 ht))
  · refine congrArg Host.Outcome.next ?_
    rw [State.incomingClear, ht, hr]
    rfl
  · refine State.release_idle ?_
    simp only [List.mem_cons, List.not_mem_nil, or_false] at hs
    rcases hs with h | h | h | h <;> rw [h] <;> rfl
  · exact congrArg Host.Outcome.next (if_neg fun h => htone (CallRegister.expired_iff.1 h.2))
  · exact congrArg Host.Outcome.next (if_neg fun h => hcalled (CallRegister.expired_iff.1 h))
  · refine congrArg Host.Outcome.next ?_
    have hearly : ¬(some t).any (fun z => Config.incomingClearTime ≤ z) = true := by
      rw [Option.any_some, decide_eq_true_eq]
      exact not_le.2 hlt
    rw [State.incomingClear, ht]
    exact if_neg hearly

/-! ### The stages of a release -/

/-- The parts of the call stopped, with the end cause present. -/
def State.stopped (s : State) (r : RegNo) (c : EndCause) : State :=
  (s.modReg r fun g => { g with endCause := some c }).stopParts r (s.reg r).state

/-- The roles ended and the reservation settled. -/
def State.settled (s : State) (r : RegNo) (c : EndCause) : State :=
  ((s.stopped r c).endRoles r c).settleReservation r (s.reg r)

theorem State.release_eq (h : (s.reg r).state.isCalling = true) :
    s.release r c = (s.settled r c).releasePath r (s.reg r).state := if_pos h

theorem State.stopped_reg (s : State) (r : RegNo) (c : EndCause) : (s.stopped r c).reg r = { s.reg r with
    endCause := some c, timer := none, meter := none, tone := none, sender := ((s.stopped r c).reg r).sender } := by
  have hstop := State.stopSender_record (s.modReg r fun g => { g with endCause := some c }) r r
  rw [State.modReg_reg, if_pos rfl] at hstop
  have hparts := State.stopParts_reg (s.modReg r fun g => { g with endCause := some c }) r r (s.reg r).state
  rw [if_pos rfl, hstop] at hparts
  rw [State.stopped, hparts]

theorem State.settled_reg (s : State) (r : RegNo) (c : EndCause) : (s.settled r c).reg r = { s.reg r with
    endCause := some c, timer := none, meter := none, tone := none, reservation := false
    sender := ((s.stopped r c).reg r).sender } := by
  rw [State.settled, State.settleReservation_reg, if_pos rfl, State.reg_congr (State.endRoles_frame _ _ _).1, State.stopped_reg]

theorem State.settled_rest (s : State) (r : RegNo) (c : EndCause) :
    (s.settled r c).net = s.net ∧ (s.settled r c).orders = s.orders ∧ (s.settled r c).receivers = s.receivers ∧
      (s.settled r c).scan = ((s.stopped r c).endRoles r c).scan ∧ (s.settled r c).sig = ((s.stopped r c).endRoles r c).sig ∧
      (s.settled r c).att = ((s.stopped r c).endRoles r c).att := by
  simp [State.settled, State.stopped]

theorem State.stopped_scan (s : State) (r : RegNo) (c : EndCause) : (s.stopped r c).scan = s.scan ∧ (s.stopped r c).att = s.att := by
  simp [State.stopped]

theorem State.settled_subject (s : State) (r : RegNo) (c : EndCause) {j : Subject} (hj : j ≠ .maintenance) :
    (s.settled r c).subject j = s.subject j := by
  obtain ⟨-, -, -, -, -, hatt⟩ := s.settled_rest r c
  rw [State.subject_congr hatt, State.endRoles_subject _ _ _ hj, State.subject_congr (s.stopped_scan r c).2]

/-! ### The path of a released register -/

theorem State.settled_path (s : State) (r : RegNo) (c : EndCause) : ((s.settled r c).reg r).path = (s.reg r).path := by
  rw [State.settled_reg]

theorem State.flying_iff {o : Order} : s.flying o = true ↔ ∃ f, s.orders.inFlight = some f ∧ f.order = o := by
  simp [State.flying, Option.any_eq_true]

theorem State.clearing_reg (s : State) (r : RegNo) : (s.clearing r).reg r = { s.reg r with state := .clearing } :=
  (State.modReg_reg _ _ _ _).trans (if_pos rfl)

theorem RegState.calling_of_mem {x : RegState} (h : x ∈ [RegState.translated, .set, .ringing, .sending, .awaitAnswer, .talk, .tone]) :
    x.isCalling = true ∧ x ≠ .connecting := by
  cases x <;> simp_all [RegState.isCalling]

/-- Settles O13. -/
theorem releaseDealsWithThePath : Obligations.ReleaseDealsWithThePath := by
  intro s r c
  obtain ⟨hnet, horders, -, -, -, -⟩ := s.settled_rest r c
  have hpath := s.settled_path r c
  refine ⟨fun hs hp => ?_, fun hs hp => ?_, fun hs hq => ?_, fun f hs hq hf ho => ?_, fun hs hq hf => ?_, fun hclear hs => ?_⟩
  · obtain ⟨hcalling, hne⟩ := RegState.calling_of_mem hs
    rw [State.release_eq hcalling, State.releasePath_noPath hne (by rw [hpath, hp])]
    refine ⟨?_, ?_, State.enterEnded_cleared _ _, by simp [hnet], by simp [horders]⟩
    · rw [State.enterEnded_ended, if_pos rfl]
      rfl
    · rw [State.enterEnded_ended, if_pos rfl]
      rfl
  · obtain ⟨hcalling, hne⟩ := RegState.calling_of_mem hs
    rw [State.release_eq hcalling, State.releasePath_path hne (by rwa [hpath]), hpath]
    have helem (e : ElemNo) : (((s.settled r c).setElems (s.reg r).path.elements .releasing).modReg r fun g =>
        { g with state := .clearing }).elem e = if e ∈ (s.reg r).path.elements then .releasing else s.elem e := by
      refine (State.setElems_elem _ _ _ e).trans ?_
      rw [State.elem_congr hnet]
    refine ⟨?_, ?_, fun e he => (helem e).trans (if_pos he), fun e he => (helem e).trans (if_neg he), ?_⟩
    · rw [State.appendOrder_reg, State.modReg_reg, if_pos rfl]
    · rw [State.appendOrder_reg, State.modReg_reg, if_pos rfl, State.setElems_reg, hpath]
    · simp [State.appendOrder, horders]
  · have hcalling : (s.reg r).state.isCalling = true := by rw [hs]; rfl
    rw [State.release_eq hcalling, hs, State.releasePath_queued (by rwa [horders])]
    have helem (e : ElemNo) : (((s.settled r c).clearing r).withdrawOperate r).elem e =
        if e ∈ (s.reg r).path.elements then .free else s.elem e := by
      refine (State.setElems_elem _ _ _ e).trans ?_
      rw [State.clearing_reg, hpath]
      refine ite_congr rfl (fun _ => rfl) fun _ => ?_
      exact State.elem_congr hnet e
    refine ⟨?_, ?_, State.enterEnded_cleared _ _, fun e he => ?_, fun e he => ?_, ?_⟩
    · rw [State.enterEnded_ended, if_pos rfl]
      rfl
    · rw [State.enterEnded_ended, if_pos rfl]
      rfl
    · rw [State.elem_congr (State.enterEnded_frame _ _).2.2.2.1, helem, if_pos he]
    · rw [State.elem_congr (State.enterEnded_frame _ _).2.2.2.1, helem, if_neg he]
    · simp [State.withdrawOperate, State.clearing, horders]
  · have hcalling : (s.reg r).state.isCalling = true := by rw [hs]; rfl
    have hflying : (s.settled r c).flying (.operate r) = true := State.flying_iff.2 ⟨f, by rw [horders, hf], ho⟩
    rw [State.release_eq hcalling, hs, State.releasePath_flying (by rwa [horders]) hflying]
    refine ⟨?_, ?_, by simp [State.clearing, hnet], ?_⟩
    · exact congrArg CallRegister.state (State.clearing_reg _ _)
    · exact (congrArg CallRegister.path (State.clearing_reg _ _)).trans hpath
    · simp [State.cancelInFlight, State.clearing, horders, hf]
  · have hcalling : (s.reg r).state.isCalling = true := by rw [hs]; rfl
    have hflying : (s.settled r c).flying (.operate r) = false := Bool.eq_false_iff.2 fun h => by
      obtain ⟨f, hin, ho⟩ := State.flying_iff.1 h
      exact hf f (by rw [← horders, hin]) ho
    rw [State.release_eq hcalling, hs, State.releasePath_fault (by rwa [horders]) hflying]
    refine ⟨?_, ?_, by simp [State.clearing, hnet], by simp [State.clearing, horders]⟩
    · rw [State.clearing_reg]
    · rw [State.clearing_reg, hpath]
  · cases hcalling : (s.reg r).state.isCalling with
    | false => rw [State.release_idle hcalling]
    | true =>
      rw [State.release_eq hcalling] at hclear ⊢
      rcases (s.settled r c).releasePath_att r (s.reg r).state with hatt | ⟨u, -, hu⟩
      · rw [State.subject_congr hatt, State.settled_subject s r c (by simp)]
      · rw [hu, State.enterEnded_ended, if_pos rfl] at hclear
        exact absurd hclear (by simp [CallRegister.ended])

/-! ### The ticket of a released register -/

theorem State.release_tickets (h : (s.reg r).state.isCalling = true) :
    (s.release r c).tickets = (((s.stopped r c).endRoles r c).settleReservation r (s.reg r)).tickets := by
  rw [State.release_eq h, (State.releasePath_frame _ _ _).2.2.2.2.2.2.1, State.settled]

theorem State.endRoles_reservation (s : State) (r : RegNo) (c : EndCause) :
    (((s.stopped r c).endRoles r c).reg r).reservation = (s.reg r).reservation := by
  rw [State.reg_congr (State.endRoles_frame _ _ _).1, State.stopped_reg]

theorem State.endRoles_tickets (s : State) (r : RegNo) (c : EndCause) : ((s.stopped r c).endRoles r c).tickets = s.tickets ∧
    ((s.stopped r c).endRoles r c).trans = s.trans := by simp [State.stopped]

/-- R12: a reservation that no call in TALK held is returned, and one that stands not is none. -/
theorem State.settleReservation_returned {u : State} {g : CallRegister} (h : ¬(g.reservation = true ∧ g.state = .talk)) :
    u.settleReservation r g = u.returnReservation r := if_neg h

/-- The directory slot of a subscriber is the one that maps to it (R164). -/
theorem State.directorySlot_eq {x : Subscriber} {d : Fin 1000} (hd : tget s.trans.directory d = some x)
    (hu : ∀ e, tget s.trans.directory e = some x → e = d) : s.directorySlot x = some d := by
  unfold State.directorySlot
  cases hhead : (tfind (fun _ d => decide (d = some x)) s.trans.directory).head? with
  | none =>
    have hmem : d ∈ tfind (fun _ d => decide (d = some x)) s.trans.directory := (mem_tfind _ _ _).2 (by simp [hd])
    rw [List.head?_eq_none_iff] at hhead
    rw [hhead] at hmem
    cases hmem
  | some e => rw [hu e (of_decide_eq_true (tfind_head _ _ _ hhead).1)]

theorem State.directorySlot_none {x : Subscriber} (h : ∀ d, tget s.trans.directory d ≠ some x) : s.directorySlot x = none := by
  rw [State.directorySlot, List.head?_eq_none_iff, List.eq_nil_iff_forall_not_mem]
  exact fun d hd => h d (of_decide_eq_true ((mem_tfind _ _ _).1 hd))

theorem State.directorySlot_congr {u : State} (h : u.trans = s.trans) (x : Subscriber) : u.directorySlot x = s.directorySlot x := by
  rw [State.directorySlot, h]
  rfl

/-- Settles O14. -/
theorem releaseFromTalkMakesTheTicket : Obligations.ReleaseFromTalkMakesTheTicket := by
  intro s r c
  obtain ⟨htickets, htrans⟩ := s.endRoles_tickets r c
  have hreservation := s.endRoles_reservation r c
  refine ⟨fun n p ro m hs hres ho hro hm => ⟨((s.stopped r c).endRoles r c).ticketOf ⟨n, p⟩ (s.reg r).digits ro m, ?_, ?_, rfl, rfl, rfl,
    rfl, rfl, rfl, rfl, rfl, rfl, rfl, rfl, fun d hd hu => ?_, fun hd => ?_⟩, fun hs hres => ?_, fun hres => ?_⟩
  · rw [State.release_tickets (by rw [hs]; rfl), State.settleReservation, if_pos ⟨hres, hs⟩, State.makeTicket, ho, hro, hm]
    simp only [htickets]
  · simp only [State.ticketOf, htickets]
  · simp only [State.ticketOf, State.directorySlot_congr htrans, State.directorySlot_eq hd hu, htickets, Option.map_some]
  · simp only [State.ticketOf, State.directorySlot_congr htrans, State.directorySlot_none hd, Option.map_none]
  · have hcalling : (s.reg r).state.isCalling = true ∧ (s.reg r).state ≠ .talk := by
      cases hx : (s.reg r).state <;> simp_all [RegState.isCalling]
    obtain ⟨hcalling, htalk⟩ := hcalling
    rw [State.release_tickets hcalling, State.settleReservation_returned fun h => htalk h.2, State.returnReservation_tickets,
      hreservation, if_pos hres, htickets]
  · cases hcalling : (s.reg r).state.isCalling with
    | false => rw [State.release_idle hcalling]
    | true =>
      rw [State.release_tickets hcalling, State.settleReservation_returned fun h => by simp [hres] at h,
        State.returnReservation_tickets, hreservation, if_neg (by simp [hres]), htickets]

end Sys2Proof.Machine
end

section
/-! SUPPORT. What a release leaves of lines, trunks, senders, signals and notices (R10, R11). -/

namespace Sys2Proof.Machine

variable {s : State} {r : RegNo} {c : EndCause} {o : Origin}

/-! ### The terminals after the roles have ended -/

/-- The line is named in the called role by the register. -/
abbrev State.calls (s : State) (r : RegNo) (n : LineNo) : Prop :=
  ∃ d, (s.reg r).destination = some d ∧ d.line = n ∧ s.calledRole r n = true

section
variable (ho : (s.reg r).origin = some o) (hrole : s.callingRole r o.terminal = true)
  (ha : c = .callingClear → s.accepted o.terminal = .opened)
include ho hrole ha

/-- The roles end by one leaving or by two. -/
theorem State.endRoles_cases : ((∀ n, ¬s.calls r n) ∧ s.endRoles r c = s.leaveCall o.terminal) ∨
    ∃ n, s.calls r n ∧ (∀ m, s.calls r m → m = n) ∧ s.endRoles r c = (s.leaveCall o.terminal).leaveCall (.line n) := by
  by_cases h : ∃ d, (s.reg r).destination = some d ∧ s.calledRole r d.line = true
  · obtain ⟨d, hd, hcalled⟩ := h
    refine .inr ⟨d.line, ⟨d, hd, rfl, hcalled⟩, ?_, State.endRoles_called ho hrole ha hd hcalled⟩
    rintro m ⟨e, he, rfl, -⟩
    rw [Option.some.inj (hd.symm.trans he)]
  · refine .inl ⟨?_, State.endRoles_uncalled ho hrole ha fun d hd => Bool.eq_false_iff.2 fun hcalled => h ⟨d, hd, hcalled⟩⟩
    rintro n ⟨d, hd, rfl, hcalled⟩
    exact h ⟨d, hd, hcalled⟩

theorem State.endRoles_trunk (i : TrunkNo) : (s.endRoles r c).trunk i =
    if Terminal.trunk i = o.terminal then (s.trunk i).outOfCall (Loop.restTrunk (s.trunk i).accepted) else s.trunk i := by
  have hcalling : (s.leaveCall o.terminal).trunk i =
      if Terminal.trunk i = o.terminal then (s.trunk i).outOfCall (Loop.restTrunk (s.trunk i).accepted) else s.trunk i := by
    cases o with
    | line n p => exact State.leaveCall_line_trunk _ _ _
    | trunk j =>
      refine (State.leaveCall_trunk_trunk _ _ _).trans ?_
      by_cases hi : i = j
      · simp [hi, Origin.terminal]
      · simp [hi, Origin.terminal]
  obtain ⟨-, h⟩ | ⟨n, -, -, h⟩ := State.endRoles_cases ho hrole ha
  · rw [h, hcalling]
  · rw [h, State.leaveCall_line_trunk, hcalling]

theorem State.leaveCall_calling_line (n : LineNo) : (s.leaveCall o.terminal).line n =
    if Terminal.line n = o.terminal then (s.line n).outOfCall (Loop.restLine (s.line n).accepted) else s.line n := by
  cases o with
  | line m p =>
    refine (State.leaveCall_line_line _ _ _).trans ?_
    by_cases hn : n = m
    · simp [hn, Origin.terminal]
    · simp [hn, Origin.terminal]
  | trunk j => exact State.leaveCall_trunk_line _ _ _

theorem State.endRoles_line_calling {n : LineNo} (hn : Terminal.line n = o.terminal) :
    (s.endRoles r c).line n = (s.line n).outOfCall (Loop.restLine (s.line n).accepted) := by
  have hcalling := (State.leaveCall_calling_line ho hrole ha n).trans (if_pos hn)
  obtain ⟨-, h⟩ | ⟨m, ⟨-, -, -, hcalled⟩, -, h⟩ := State.endRoles_cases ho hrole ha
  · rw [h, hcalling]
  · have hne : n ≠ m := fun he => State.called_ne_calling hcalled hrole (he ▸ hn)
    rw [h, State.leaveCall_line_line, if_neg hne, hcalling]

theorem State.endRoles_line_called {n : LineNo} (hn : s.calls r n) :
    (s.endRoles r c).line n = (s.line n).outOfCall (Loop.restLine (s.line n).accepted) := by
  obtain ⟨hnone, -⟩ | ⟨m, hm, huniq, h⟩ := State.endRoles_cases ho hrole ha
  · exact absurd hn (hnone n)
  · obtain rfl := huniq n hn
    obtain ⟨-, -, -, hcalled⟩ := hn
    rw [h, State.leaveCall_line_line, if_pos rfl, State.leaveCall_calling_line ho hrole ha,
      if_neg (State.called_ne_calling hcalled hrole)]

theorem State.endRoles_line_other {n : LineNo} (hn : Terminal.line n ≠ o.terminal) (hcalled : s.calledRole r n = false) :
    (s.endRoles r c).line n = s.line n := by
  have hcalling := (State.leaveCall_calling_line ho hrole ha n).trans (if_neg hn)
  obtain ⟨-, h⟩ | ⟨m, ⟨-, -, -, hm⟩, -, h⟩ := State.endRoles_cases ho hrole ha
  · rw [h, hcalling]
  · have hne : n ≠ m := fun he => by rw [he, hm] at hcalled; cases hcalled
    rw [h, State.leaveCall_line_line, if_neg hne, hcalling]

theorem State.endRoles_lists : (s.endRoles r c).scan.queue = s.scan.queue ∧ (s.endRoles r c).scan.deferred = s.scan.deferred ∧
    (s.endRoles r c).scan.answers = s.scan.answers := by
  obtain ⟨-, h⟩ | ⟨m, -, -, h⟩ := State.endRoles_cases ho hrole ha
  · rw [h]
    exact s.leaveCall_lists _
  · rw [h]
    simp only [State.leaveCall_lists]
    exact ⟨trivial, trivial, trivial⟩

theorem State.endRoles_signals : (s.endRoles r c).sig.lineSignals = s.sig.lineSignals ∧
    (s.endRoles r c).sig.trunkTones = s.sig.trunkTones ∧ (s.endRoles r c).sig.senders = s.sig.senders ∧
    (s.endRoles r c).sig.senderSignals = s.sig.senderSignals := by
  obtain ⟨-, h⟩ | ⟨m, -, -, h⟩ := State.endRoles_cases ho hrole ha
  · rw [h]
    exact s.leaveCall_signals _
  · rw [h, State.leaveCall_line_sig]
    exact s.leaveCall_signals _

theorem State.endRoles_clearTimer {i : TrunkNo} (hi : Terminal.trunk i = o.terminal) :
    tget (s.endRoles r c).sig.clearTimers i = none := by
  have hcalling : tget (s.leaveCall (.trunk i)).sig.clearTimers i = none := by
    rw [State.leaveCall_trunk_sig]
    exact tget_tset_same _ _ _
  obtain ⟨-, h⟩ | ⟨m, -, -, h⟩ := State.endRoles_cases ho hrole ha
  · rw [h, ← hi, hcalling]
  · rw [h, State.leaveCall_line_sig, ← hi, hcalling]

theorem State.endRoles_lockout_calling (hclosed : s.accepted o.terminal = .closed) :
    (s.endRoles r c).isPending .maintenance .lockout = true := by
  obtain ⟨-, h⟩ | ⟨m, -, -, h⟩ := State.endRoles_cases ho hrole ha
  · rw [h, State.leaveCall_lockout hclosed]
  · rw [h, State.leaveCall_isPending _ _ (State.leaveCall_lockout hclosed)]

theorem State.endRoles_lockout_called {n : LineNo} (hn : s.calls r n) (hclosed : (s.line n).accepted = .closed) :
    (s.endRoles r c).isPending .maintenance .lockout = true := by
  obtain ⟨hnone, -⟩ | ⟨m, hm, huniq, h⟩ := State.endRoles_cases ho hrole ha
  · exact absurd hn (hnone n)
  · obtain rfl := huniq n hn
    obtain ⟨-, -, -, hcalled⟩ := hn
    have hline : (s.leaveCall o.terminal).line n = s.line n :=
      (State.leaveCall_calling_line ho hrole ha n).trans (if_neg (State.called_ne_calling hcalled hrole))
    rw [h]
    exact State.leaveCall_lockout (t := .line n) (by rw [State.accepted, hline, hclosed])

end

end Sys2Proof.Machine
end

section
/-! SUPPORT. The record, the units and the terminals after a release (R9 to R11, R14). -/

namespace Sys2Proof.Machine

variable {s : State} {r : RegNo} {c : EndCause} {o : Origin}

/-! ### The record and the sender -/

theorem State.stopped_sends (h : s.sends r) : (s.modReg r fun g => { g with endCause := some c }).sends r := fun k hk => by
  rw [State.modReg_reg, if_pos rfl] at hk
  exact h k hk

theorem State.stopped_sender (h : s.sends r) (c : EndCause) : ((s.stopped r c).reg r).sender = none := by
  rw [State.stopped, State.stopParts_reg, if_pos rfl, State.stopSender_reg (State.stopped_sends h), if_pos rfl]

theorem State.stopped_reg_of_ne (h : s.sends r) (c : EndCause) {q : RegNo} (hq : q ≠ r) : (s.stopped r c).reg q = s.reg q := by
  rw [State.stopped, State.stopParts_reg, if_neg hq, State.stopSender_reg (State.stopped_sends h), if_neg hq, State.modReg_reg,
    if_neg hq]

theorem State.settled_reg_of_ne (h : s.sends r) (c : EndCause) {q : RegNo} (hq : q ≠ r) : (s.settled r c).reg q = s.reg q := by
  rw [State.settled, State.settleReservation_reg, if_neg hq, State.reg_congr (State.endRoles_frame _ _ _).1,
    State.stopped_reg_of_ne h c hq]

theorem State.stopped_own_sender {k : SenderNo} {b : Sending} (hk : (s.reg r).sender = some k) (hb : s.sender k = .busy b)
    (hr : b.register = r) (c : EndCause) : (s.stopped r c).sender k = (if b.blockAfterUse then .blocked else .free) ∧
      tget (s.stopped r c).sig.senderSignals k = ⟨none, .closed⟩ := by
  rw [State.stopped, State.stopParts_sender, State.stopParts_senderSignals]
  exact State.stopSender_sender (by simp [hk]) hb hr

theorem State.stopped_other_sender (h : s.sends r) (c : EndCause) {k : SenderNo} (hk : (s.reg r).sender ≠ some k) :
    (s.stopped r c).sender k = s.sender k := by
  rw [State.stopped, State.stopParts_sender, State.stopSender_sender_of_ne (State.stopped_sends h) (by simpa using hk)]
  rfl

/-- A released record: CLEARING or ENDED, with what R14 leaves of it. -/
theorem State.release_record (hs : (s.reg r).state.isCalling = true) (h : s.sends r) (c : EndCause) :
    ((s.release r c).reg r = { s.reg r with
        state := .clearing, endCause := some c, timer := none, meter := none, tone := none, reservation := false, sender := none } ∨
      (s.release r c).reg r = ({ s.reg r with endCause := some c, reservation := false } : CallRegister).ended) ∧
    ∀ q, q ≠ r → (s.release r c).reg q = s.reg q := by
  obtain ⟨hown, hothers⟩ := (s.settled r c).releasePath_reg r (s.reg r).state
  rw [State.settled_reg, State.stopped_sender h] at hown
  rw [State.release_eq hs]
  refine ⟨hown.imp id fun he => he.trans rfl, fun q hq => ?_⟩
  rw [hothers q hq, State.settled_reg_of_ne h c hq]

/-! ### Notices -/

theorem State.enterEnded_isPending {j : Subject} {k : EventKind} (h : s.isPending j k = true) : (s.enterEnded r).isPending j k = true := by
  rw [State.enterEnded, State.post_isPending]
  exact Bool.or_eq_true_iff.2 (.inl h)

/-- What is pending when the roles have ended is so after the release. -/
theorem State.release_isPending (hs : (s.reg r).state.isCalling = true) {j : Subject} {k : EventKind}
    (h : ((s.stopped r c).endRoles r c).isPending j k = true) : (s.release r c).isPending j k = true := by
  obtain ⟨-, -, -, -, -, hatt⟩ := s.settled_rest r c
  have hsettled : (s.settled r c).isPending j k = true := (State.isPending_congr hatt j k).trans h
  rw [State.release_eq hs]
  obtain hpath | ⟨u, hu, hpath⟩ := (s.settled r c).releasePath_att r (s.reg r).state
  · rw [State.isPending_congr hpath, hsettled]
  · rw [hpath]
    exact State.enterEnded_isPending ((State.isPending_congr hu j k).trans hsettled)

theorem State.release_subject (hs : (s.reg r).state.isCalling = true) {j : Subject} (hm : j ≠ .maintenance) (hr : j ≠ .register r) :
    (s.release r c).subject j = s.subject j := by
  rw [State.release_eq hs]
  obtain hpath | ⟨u, hu, hpath⟩ := (s.settled r c).releasePath_att r (s.reg r).state
  · rw [State.subject_congr hpath, State.settled_subject s r c hm]
  · rw [hpath, State.enterEnded, State.post_subject, if_neg hr, ← State.settled_subject s r c hm]
    exact State.subject_congr hu j

theorem State.release_scan (hs : (s.reg r).state.isCalling = true) : (s.release r c).scan = ((s.stopped r c).endRoles r c).scan := by
  rw [State.release_eq hs, (State.releasePath_frame _ _ _).1]
  exact (s.settled_rest r c).2.2.2.1

theorem State.release_sig (hs : (s.reg r).state.isCalling = true) : (s.release r c).sig = ((s.stopped r c).endRoles r c).sig := by
  rw [State.release_eq hs, (State.releasePath_frame _ _ _).2.2.2.1]
  exact (s.settled_rest r c).2.2.2.2.1

/-- Settles O12. -/
theorem releaseStopsPartsAndEndsRoles : Obligations.ReleaseStopsPartsAndEndsRoles := by
  intro s r c o hs ho hrole ha hsends
  have hcalling := RegState.isCalling_iff.2 hs
  obtain ⟨hscan, hatt⟩ := s.stopped_scan r c
  have hline := State.line_congr hscan
  have htrunk := State.trunk_congr hscan
  have ho' : ((s.stopped r c).reg r).origin = some o := by rw [State.stopped_reg, ho]
  have hrole' : (s.stopped r c).callingRole r o.terminal = true := by rw [State.callingRole_congr hscan, hrole]
  have ha' : c = .callingClear → (s.stopped r c).accepted o.terminal = .opened := fun hc => by
    rw [State.accepted_congr hscan, ha hc]
  have hcalls {d : Subscriber} (hd : (s.reg r).destination = some d) (h : s.calledRole r d.line = true) :
      (s.stopped r c).calls r d.line :=
    ⟨d, by rw [State.stopped_reg, hd], rfl, by rw [State.calledRole_congr hscan, h]⟩
  have htscan := State.release_scan (c := c) hcalling
  have htsig := State.release_sig (c := c) hcalling
  obtain ⟨hsignals, htones, hsenders, hsenderSignals⟩ := State.endRoles_signals ho' hrole' ha'
  have hsenders' (k : SenderNo) : (s.release r c).sender k = (s.stopped r c).sender k := by
    rw [State.sender, htsig, hsenders]
    rfl
  have htone' (t : Terminal) : (s.release r c).toneOf t = (s.stopped r c).toneOf t :=
    State.toneOf_eq_of_signals (fun n => by rw [htsig, hsignals]) (by rw [htsig, htones]) t
  obtain ⟨hrecord, hothers⟩ := State.release_record hcalling hsends c
  have hkept : ∃ g : CallRegister, (s.release r c).reg r = { s.reg r with
      endCause := some c, timer := none, meter := none, tone := none, sender := none, reservation := false
      state := g.state, walkNode := g.walkNode, receiver := g.receiver, path := g.path } := by
    obtain h | h := hrecord
    · exact ⟨{ s.reg r with state := .clearing }, h⟩
    · exact ⟨(s.reg r).ended, h⟩
  obtain ⟨g, hg⟩ := hkept
  refine ⟨by rw [hg], by rw [hg], by rw [hg], by rw [hg], by rw [hg], by rw [hg], by rw [hg, ho], by rw [hg], by rw [hg], by rw [hg],
    hothers, fun k b hk hb => ?_, fun k hk => ?_, fun n p hn => ⟨?_, ?_⟩, fun i hi => ⟨?_, ?_⟩, fun d hd hcalled => ⟨?_, fun hclosed => ?_⟩,
    fun n hn hcalled => ?_, fun i hi => ?_, fun hclosed => ?_, fun htone => ?_, fun d hring hd => ?_, fun j hm hj => ?_, ?_⟩
  · obtain ⟨b', hb', hr⟩ := hsends k hk
    obtain rfl : b = b' := by simpa using hb.symm.trans hb'
    rw [hsenders', htsig, hsenderSignals]
    exact State.stopped_own_sender hk hb hr c
  · rw [hsenders', State.stopped_other_sender hsends c hk]
  · rw [State.line_congr htscan, State.endRoles_line_calling ho' hrole' ha' (by rw [hn]; rfl), hline]
  · rw [htsig, hsignals]
    exact State.stopParts_dialTone (p := p) _ (by simp [ho, hn])
  · rw [State.trunk_congr htscan, State.endRoles_trunk ho' hrole' ha', if_pos (by rw [hi]; rfl), htrunk]
  · rw [htsig]
    exact State.endRoles_clearTimer ho' hrole' ha' (by rw [hi]; rfl)
  · rw [State.line_congr htscan, State.endRoles_line_called ho' hrole' ha' (hcalls hd hcalled), hline]
  · exact State.release_isPending hcalling
      (State.endRoles_lockout_called ho' hrole' ha' (hcalls hd hcalled) (by rw [hline, hclosed]))
  · rw [State.line_congr htscan, State.endRoles_line_other ho' hrole' ha' hn (by rw [State.calledRole_congr hscan, hcalled]), hline]
  · rw [State.trunk_congr htscan, State.endRoles_trunk ho' hrole' ha', if_neg hi, htrunk]
  · exact State.release_isPending hcalling
      (State.endRoles_lockout_calling ho' hrole' ha' (by rw [State.accepted_congr hscan, hclosed]))
  · rw [htone', State.stopped, htone]
    exact State.stopParts_toneOf (by simp [ho])
  · rw [htsig, hsignals, State.stopped, hring]
    exact State.stopParts_ringing (d := d) (by simp [hd])
  · exact State.release_subject hcalling hm hj
  · obtain ⟨hqueue, hdeferred, hanswers⟩ := State.endRoles_lists ho' hrole' ha'
    rw [hscan] at hqueue hdeferred hanswers
    refine ⟨by rw [htscan, hqueue], by rw [htscan, hdeferred], by rw [htscan, hanswers], ?_⟩
    apply State.eq_of_fields <;> simp

end Sys2Proof.Machine
end

section
/-! SUPPORT. The end of a call from DIALING (R16, R46, R49, R51). -/

namespace Sys2Proof.Machine

variable {s : State} {r : RegNo} {c : EndCause} {o : Origin}

theorem Receiver.clearDue_brk {a : Attachment} {t : Nat} (h : a.phase = .brk t) :
    (Receiver.attached a).clearDue = decide (400 ≤ t) := by
  cases a
  subst h
  rfl

theorem Receiver.clearDue_make {a : Attachment} (h : a.phase = .make) : (Receiver.attached a).clearDue = false := by
  cases a
  subst h
  rfl

theorem releaseCall_dialing {x : Side} {b : Byte} (hb : b.toNat = r.val) (hr : s.handler (.register r) = some x)
    (hs : (s.reg r).state = .dialing) : releaseCall b x s = doneWith (s.endDialing r .forced).settle := by
  rw [releaseCall, acting_bound hb hr]
  simp only [hs]

/-- A register that leaves DIALING without its receiver and its reservation. -/
def State.undialled (s : State) (r : RegNo) : State := (s.detachReceiver r false).returnReservation r

theorem State.endDialing_eq (ho : (s.reg r).origin = some o) (hrole : s.callingRole r o.terminal = true) : s.endDialing r c =
    (((s.undialled r).leaveCall o.terminal).modReg r fun g => { g with endCause := some c }).enterEnded r := by
  rw [State.endDialing, ho]
  exact congrArg (fun u : State => (u.modReg r fun g => { g with endCause := some c }).enterEnded r) (if_pos hrole)

theorem State.undialled_reg (s : State) (r q : RegNo) : (s.undialled r).reg q =
    if q = r then { s.reg r with receiver := none, walkNode := none, reservation := false } else s.reg q := by
  rw [State.undialled, State.returnReservation_reg, State.detachReceiver_reg, State.detachReceiver_reg, if_pos rfl]
  by_cases hq : q = r
  · rw [if_pos hq, if_pos hq]
  · rw [if_neg hq, if_neg hq, if_neg hq]

/-- What a register that leaves DIALING keeps: the blocks apart from its receiver, dial tone and its reservation. -/
theorem State.undialled_rest (s : State) (r : RegNo) : (s.undialled r).scan = s.scan ∧ (s.undialled r).att = s.att ∧
    (s.undialled r).receivers = (s.detachReceiver r false).receivers ∧ (s.undialled r).sig = (s.detachReceiver r false).sig := by
  simp [State.undialled]

theorem State.undialled_tickets (s : State) (r : RegNo) : (s.undialled r).tickets =
    if (s.reg r).reservation = true then { s.tickets with reserved := s.tickets.reserved - 1 } else s.tickets := by
  rw [State.undialled, State.returnReservation_tickets, State.detachReceiver_reg, if_pos rfl]
  simp

/-- Settles O15. -/
theorem endFromDialling : Obligations.EndFromDialling := by
  refine ⟨fun x s r b htakes hb hr hs => ?_, fun s k a hk ha => ?_, fun s r hs ht => ?_, fun s r c o k a ho hrole hk ha => ?_⟩
  · exact State.exec_of_takes htakes (State.runs_of_doneWith rfl (releaseCall_dialing hb hr hs))
  · have hdue : (Receiver.attached a).clearDue = true := Receiver.clearDue_brk ha
    refine congrArg Host.Outcome.next ?_
    rw [hk, if_pos hdue, State.takeReceiver, hk]
    exact if_pos hdue
  · refine congrArg Host.Outcome.next (if_pos ⟨hs, ?_⟩)
    exact ht.imp CallRegister.expired_iff.2 CallRegister.expired_iff.2
  · obtain ⟨hscan, hatt, hreceivers, hsig⟩ := s.undialled_rest r
    have hend := State.endDialing_eq (c := c) ho hrole
    have htscan : (s.endDialing r c).scan = ((s.undialled r).leaveCall o.terminal).scan := by rw [hend]; simp
    have htsig : (s.endDialing r c).sig = ((s.undialled r).leaveCall o.terminal).sig := by rw [hend]; simp
    have hreceiver (l : ReceiverNo) : (s.endDialing r c).receiver l = (s.detachReceiver r false).receiver l :=
      State.receiver_congr (by rw [hend]; simp [hreceivers]) l
    have hline := State.line_congr htscan
    have htrunk := State.trunk_congr htscan
    refine ⟨?_, fun q hq => ?_, ?_, ?_, fun l hl => ?_, fun n p hn => ?_, fun i hi => ?_, fun hclosed => ?_, ?_, fun j hm hj => ?_,
      ?_, ?_, ?_⟩
    · rw [hend, State.enterEnded_reg, if_pos rfl, State.modReg_reg, if_pos rfl, State.leaveCall_reg, State.undialled_reg, if_pos rfl]
    · rw [hend, State.enterEnded_reg, if_neg hq, State.modReg_reg, if_neg hq, State.leaveCall_reg, State.undialled_reg, if_neg hq]
    · rw [hend]
      exact State.enterEnded_cleared _ _
    · rw [hreceiver, State.detachReceiver_receiver false hk ha, if_pos rfl]
    · rw [hreceiver, State.detachReceiver_receiver false hk ha, if_neg hl]
    · subst hn
      refine ⟨?_, fun m hm => ?_, ?_, fun hdial => ?_⟩
      · rw [hline, Origin.terminal, State.leaveCall_line_line, if_pos rfl, State.line_congr hscan]
      · rw [hline, Origin.terminal, State.leaveCall_line_line, if_neg hm, State.line_congr hscan]
      · rw [htscan, Origin.terminal, State.leaveCall_line_scan, hscan]
      · rw [htsig, Origin.terminal, State.leaveCall_line_sig, hsig]
        exact State.detachReceiver_dialTone hk ha ho hdial
    · subst hi
      refine ⟨?_, fun j hj => ?_, ?_⟩
      · rw [htrunk, Origin.terminal, State.leaveCall_trunk_trunk, if_pos rfl, State.trunk_congr hscan]
      · rw [htrunk, Origin.terminal, State.leaveCall_trunk_trunk, if_neg hj, State.trunk_congr hscan]
      · rw [htscan, Origin.terminal, State.leaveCall_trunk_scan, hscan]
    · rw [hend]
      refine State.enterEnded_isPending ((State.isPending_congr (s := (s.undialled r).leaveCall o.terminal) (by simp) _ _).trans
        (State.leaveCall_lockout ?_))
      rw [State.accepted_congr hscan, hclosed]
    · rw [hend, ← State.undialled_tickets]
      simp
    · rw [hend, State.enterEnded, State.post_subject, if_neg hj, ← State.subject_congr hatt j]
      exact State.leaveCall_subject _ o.terminal hm
    · rw [htscan, (State.leaveCall_lists _ _).1, hscan]
    · rw [htscan, (State.leaveCall_lists _ _).2.1, hscan]
    · apply State.eq_of_fields <;> simp [hend, State.undialled]

end Sys2Proof.Machine
end

section
/-! SUPPORT. The expiry of the RING and ANSWER_WAIT timers (R117, R123). -/

namespace Sys2Proof.Machine

variable {s : State} {r : RegNo} {o : Origin}

/-- A ringing call whose called line has been given up, before its register enters TONE. -/
def State.unrung (s : State) (r : RegNo) : State :=
  match (s.reg r).destination with
  | some x => if s.calledRole r x.line then (s.sendRinging x.line none).toIdle (.line x.line) else s.sendRinging x.line none
  | none => s

theorem State.unrung_eq {d : Subscriber} (hd : (s.reg r).destination = some d) (hcalled : s.calledRole r d.line = true) :
    s.unrung r = (s.sendRinging d.line none).toIdle (.line d.line) := by
  rw [State.unrung, hd]
  exact if_pos hcalled

theorem State.unrung_rest (s : State) (r : RegNo) : s.unrung r = { s with scan := (s.unrung r).scan, sig := (s.unrung r).sig } := by
  unfold State.unrung
  (repeat' split) <;> apply State.eq_of_fields <;> simp

/-- The called line of a ringing call is IDLE, whatever its loop (R117, R33). -/
theorem State.unrung_line {d : Subscriber} (hd : (s.reg r).destination = some d) (hcalled : s.calledRole r d.line = true) :
    ((s.line d.line).accepted = .opened → (s.unrung r).line d.line = (s.line d.line).outOfCall .idle ∧
      (s.unrung r).scan.queue = s.scan.queue ∧ (s.unrung r).scan.deferred = s.scan.deferred) ∧
    ((s.line d.line).accepted = .closed → s.scan.queue.length < 32 →
      (s.unrung r).line d.line = { (s.line d.line).outOfCall .waiting with waitTimer := some 60000 } ∧
      (s.unrung r).scan.queue = s.scan.queue ++ [.line d.line (s.line d.line).originationParty]) := by
  have hscan : (s.sendRinging d.line none).scan = s.scan := by simp
  have hline := State.line_congr hscan d.line
  rw [State.unrung_eq hd hcalled]
  refine ⟨fun ha => ?_, fun ha hq => ?_⟩
  · rw [State.toIdle_opened (t := .line d.line) ((congrArg LineRec.accepted hline).trans ha), State.line, State.idled_line_scan, hscan]
    exact ⟨tget_tmod_same _ _ _, rfl, rfl⟩
  · rw [State.line, State.toIdle_line_room (hline ▸ ha) (hscan ▸ hq), hline, hscan]
    exact ⟨tget_tmod_same _ _ _, rfl⟩

theorem State.ringExpiry_eq (hs : (s.reg r).state = .ringing) (ht : (s.reg r).timer = some ⟨.ring, 0⟩) :
    s.ringExpiry r = (((s.unrung r).enterTone r .busy .noAnswer).post (.register r) .noAnswer).settle :=
  if_pos ⟨hs, CallRegister.expired_iff.2 ht⟩

/-- A call that nobody answered, in TONE with NO_ANSWER posted. -/
def State.unanswered (s : State) (r : RegNo) (x : Tone) : State := (s.enterTone r x .noAnswer).post (.register r) .noAnswer

theorem State.unanswered_reg (hreceiver : (s.reg r).receiver = none) (hwalk : (s.reg r).walkNode = none) (x : Tone) :
    (s.unanswered r x).reg r = { s.reg r with state := .tone, tone := some (x, .noAnswer), timer := some ⟨.tone, 30000⟩ } := by
  rw [State.unanswered, State.post_reg, State.enterTone_reg, if_pos rfl, ← hreceiver, ← hwalk]

theorem State.unanswered_reg_of_ne (s : State) (x : Tone) {q : RegNo} (hq : q ≠ r) : (s.unanswered r x).reg q = s.reg q := by
  rw [State.unanswered, State.post_reg, State.enterTone_reg, if_neg hq]

theorem State.unanswered_toneOf (ho : (s.reg r).origin = some o) (x : Tone) : (s.unanswered r x).toneOf o.terminal = some x := by
  rw [State.toneOf_congr (s := s.enterTone r x .noAnswer) (by simp [State.unanswered]), State.enterTone_toneOf x _ ho, if_pos rfl]

theorem State.unanswered_subject (s : State) (x : Tone) {j : Subject} (hj : j ≠ .register r) :
    (s.unanswered r x).subject j = s.subject j := by
  rw [State.unanswered, State.post_subject, if_neg hj]
  exact State.subject_congr (by simp) j

theorem State.unanswered_scan (s : State) (x : Tone) : (s.unanswered r x).scan = s.scan := by simp [State.unanswered]

theorem State.unanswered_ringing (hreceiver : (s.reg r).receiver = none) (x : Tone) (n : LineNo) :
    (tget (s.unanswered r x).sig.lineSignals n).ringing = (tget s.sig.lineSignals n).ringing := by
  rw [State.unanswered, (State.post_frame _ _ _).2.2.2.2.2.2.1]
  refine State.enterTone_ringing _ _ _ _ _ ?_
  rw [State.detachReceiver_none _ hreceiver]
  rfl

theorem State.unanswered_frame (hreceiver : (s.reg r).receiver = none) (x : Tone) : s.unanswered r x = { s with
    regs := (s.unanswered r x).regs, sig := (s.unanswered r x).sig, att := (s.unanswered r x).att } := by
  apply State.eq_of_fields <;> simp [State.unanswered, State.enterTone_receivers _ _ hreceiver]

/-- Settles O41. -/
theorem unansweredCallsGoToTone : Obligations.UnansweredCallsGoToTone := by
  intro s r o ho hreceiver hwalk
  have hreg : ∀ q, (s.unrung r).reg q = s.reg q := State.reg_congr (by rw [s.unrung_rest r])
  refine ⟨fun d hs ht hd hcalled => ⟨(s.unrung r).unanswered r .busy, ?_, ?_, fun q hq => ?_, ?_, ?_, fun ha => ?_, fun ha hq => ?_,
    fun n hn => ?_, State.post_pending _ _ _, fun j hj => ?_, ?_⟩, fun hs ht => ⟨s.unanswered r .congestion, ?_, ?_, fun q hq => ?_, ?_,
    State.post_pending _ _ _, fun j hj => ?_, ?_⟩, fun ht => ?_, fun ht => ?_⟩
  · exact congrArg Host.Outcome.next (State.ringExpiry_eq hs ht)
  · rw [State.unanswered_reg (by rw [hreg, hreceiver]) (by rw [hreg, hwalk]), hreg]
  · rw [State.unanswered_reg_of_ne _ _ hq, hreg]
  · exact State.unanswered_toneOf (by rw [hreg, ho]) _
  · rw [State.unanswered_ringing (by rw [hreg, hreceiver]), State.unrung_eq hd hcalled, State.toIdle_line_sig,
      State.sendRinging_signal, if_pos rfl]
  · obtain ⟨hopened, -⟩ := State.unrung_line hd hcalled
    rw [State.line_congr (State.unanswered_scan _ _), State.unanswered_scan]
    exact hopened ha
  · obtain ⟨-, hclosed⟩ := State.unrung_line hd hcalled
    rw [State.line_congr (State.unanswered_scan _ _), State.unanswered_scan]
    exact hclosed ha hq
  · rw [State.line_congr (State.unanswered_scan _ _), State.unrung_eq hd hcalled, State.toIdle_line_of_ne _ hn]
    exact State.line_congr (by simp) n
  · rw [State.unanswered_subject _ _ hj]
    exact State.subject_congr (by rw [s.unrung_rest r]) j
  · rw [State.unanswered_frame (by rw [hreg, hreceiver]), s.unrung_rest r]
  · exact congrArg Host.Outcome.next (if_pos ⟨hs, CallRegister.expired_iff.2 ht⟩)
  · exact State.unanswered_reg hreceiver hwalk _
  · exact State.unanswered_reg_of_ne _ _ hq
  · exact State.unanswered_toneOf ho _
  · exact State.unanswered_subject _ _ hj
  · exact State.unanswered_frame hreceiver _
  · exact congrArg Host.Outcome.next (if_neg fun h => ht (CallRegister.expired_iff.1 h.2))
  · exact congrArg Host.Outcome.next (if_neg fun h => ht (CallRegister.expired_iff.1 h.2))

end Sys2Proof.Machine
end

section
/-! SUPPORT. Ring and answer (R113 to R115). -/

namespace Sys2Proof.Machine

variable {s : State} {r : RegNo} {o : Origin}

theorem State.modLine_scan (s : State) (n : LineNo) (f : LineRec → LineRec) :
    (s.modLine n f).scan = { s.scan with lines := tmod s.scan.lines n f } := rfl

/-! ### Answer -/

/-- The called line of an answered call, ringing removed. -/
def State.unhooked (s : State) (r : RegNo) : State :=
  match (s.reg r).destination with
  | some x =>
    if s.calledRole r x.line then
      (s.sendRinging x.line none).modLine x.line fun l => { l with state := .termBusy, earlyOffHook := none }
    else s.sendRinging x.line none
  | none => s

theorem State.sendRinging_rest (s : State) (n : LineNo) (p : Option Party) : (s.sendRinging n p).sig = { s.sig with
    lineSignals := (s.sendRinging n p).sig.lineSignals, sent := (s.sendRinging n p).sig.sent } := by
  unfold State.sendRinging
  split <;> rfl

theorem State.sendRinging_on {n : LineNo} {p : Party} (h : (tget s.sig.lineSignals n).ringing = none) :
    (s.sendRinging n (some p)).sig.sent = s.sig.sent ++ [.ringOn n p] := by
  rw [State.sendRinging, if_neg (by rw [h]; simp)]
  rfl

theorem State.startMetering_trunk {i : TrunkNo} (h : (s.reg r).origin = some (.trunk i)) : s.startMetering r = s := by
  rw [State.startMetering, h]

theorem State.startMetering_noTerms (h : (s.routeEntry r).bind RouteEntry.terms = none) : s.startMetering r = s := by
  unfold State.startMetering
  split
  · next ht => exact absurd (h.symm.trans ht) (by simp)
  · rfl

/-- An answered call before its metering starts. -/
def State.answered (s : State) (r : RegNo) : State :=
  (((s.unhooked r).stopSender r).modReg r fun g => { g with state := .talk, timer := none }).post (.register r) .answer

theorem State.answerCall_eq (s : State) (r : RegNo) : s.answerCall r = (s.answered r).startMetering r := rfl

theorem State.unhooked_rest (s : State) (r : RegNo) : s.unhooked r = { s with
    scan := { s.scan with lines := (s.unhooked r).scan.lines }, sig := (s.unhooked r).sig } := by
  unfold State.unhooked
  (repeat' split) <;> apply State.eq_of_fields <;> simp [State.modLine_scan]

theorem State.unhooked_line {d : Subscriber} (hd : (s.reg r).destination = some d) (hcalled : s.calledRole r d.line = true) :
    (s.unhooked r).line d.line = { s.line d.line with state := .termBusy, earlyOffHook := none } := by
  rw [State.unhooked, hd]
  dsimp only
  rw [if_pos hcalled, State.modLine_line, if_pos rfl, State.sendRinging_line]

theorem State.unhooked_line_of_ne {d : Subscriber} (hd : (s.reg r).destination = some d) {n : LineNo} (hn : n ≠ d.line) :
    (s.unhooked r).line n = s.line n := by
  rw [State.unhooked, hd]
  dsimp only
  split
  · rw [State.modLine_line, if_neg hn, State.sendRinging_line]
  · rw [State.sendRinging_line]

theorem State.unhooked_ringing {d : Subscriber} (hd : (s.reg r).destination = some d) :
    (tget (s.unhooked r).sig.lineSignals d.line).ringing = none := by
  have hring : (tget (s.sendRinging d.line none).sig.lineSignals d.line).ringing = none := by
    rw [State.sendRinging_signal, if_pos rfl]
  rw [State.unhooked, hd]
  dsimp only
  split
  · exact hring
  · exact hring

theorem State.unhooked_sender (s : State) (r : RegNo) :
    (s.unhooked r).sig.senders = s.sig.senders ∧ (s.unhooked r).sig.senderSignals = s.sig.senderSignals := by
  unfold State.unhooked
  (repeat' split) <;> simp

theorem State.answered_rest (s : State) (r : RegNo) : (s.answered r).scan = (s.unhooked r).scan ∧
    (s.answered r).sig = ((s.unhooked r).stopSender r).sig ∧ (s.answered r).trans = s.trans := by
  refine ⟨by simp [State.answered], by simp [State.answered], ?_⟩
  simp [State.answered]
  rw [s.unhooked_rest r]

/-! ### Ring -/

section
variable {x : Side} {b : Byte} {level : Fin 4} {zone : Zone} (hb : b.toNat = r.val) (hr : s.handler (.register r) = some x)
  (hs : (s.reg r).state = .set)
include hb hr hs

theorem ringCall_local {d : Subscriber} (he : s.routeEntry r = some (.localCall level zone)) (hd : (s.reg r).destination = some d) :
    ringCall b x s = doneWith (s.startRinging r d) := by
  rw [ringCall, acting_bound hb hr, if_neg (not_not.2 hs)]
  simp only [he, hd]

theorem ringCall_outgoing {ticketed : Bool} {primary : GroupNo} {alternate : Option GroupNo} {digits : List Digit} {strip total : Nat}
    (he : s.routeEntry r = some (.outgoing level zone ticketed primary alternate digits strip total)) :
    ringCall b x s = refuse s .wrongState := by
  rw [ringCall, acting_bound hb hr, if_neg (not_not.2 hs)]
  simp only [he]

end

/-- A call whose called line rings. -/
def State.rung (s : State) (r : RegNo) (d : Subscriber) : State :=
  ((s.sendRinging d.line (some d.party)).modLine d.line fun l => { l with state := .termRinging, earlyOffHook := none }).modReg r
    fun g => { g with state := .ringing, timer := some ⟨.ring, 90000⟩ }

theorem State.startRinging_early {d : Subscriber} (h : (s.line d.line).earlyOffHook = some true) :
    s.startRinging r d = s.answerCall r := if_pos h

theorem State.startRinging_rung {d : Subscriber} (h : (s.line d.line).earlyOffHook = some false)
    (hcalled : s.calledRole r d.line = true) : s.startRinging r d = s.rung r d := by
  rw [State.startRinging, if_neg (by rw [h]; decide)]
  dsimp only
  rw [if_pos hcalled]
  rfl

theorem State.rung_sig (s : State) (r : RegNo) (d : Subscriber) : (s.rung r d).sig = (s.sendRinging d.line (some d.party)).sig := rfl

/-- Settles O37. -/
theorem ringAndAnswer : Obligations.RingAndAnswer := by
  refine ⟨fun x s r b htakes hb hr hs => ⟨fun level zone ticketed primary alternate digits strip total hroute => ?_,
    fun level zone d hroute hd hcalled => ⟨fun hearly => ?_, fun hearly => ?_⟩⟩, fun s r o ho hsends => ?_⟩
  · refine State.exec_of_takes htakes (State.runs_of_body rfl ?_)
    exact ringCall_outgoing hb hr hs hroute
  · refine State.exec_of_takes htakes (State.runs_of_doneWith rfl ?_)
    rw [ringCall_local hb hr hs hroute hd, State.startRinging_early hearly]
  · refine ⟨s.rung r d, State.exec_of_takes htakes (State.runs_of_doneWith rfl ?_), ?_, fun q hq => ?_, ?_, fun n hn => ?_, ?_,
      fun n hn => ?_, fun hring => ?_, ?_⟩
    · rw [ringCall_local hb hr hs hroute hd, State.startRinging_rung hearly hcalled]
    · rw [State.rung, State.modReg_reg, if_pos rfl, State.modLine_reg, State.sendRinging_reg]
    · rw [State.rung, State.modReg_reg, if_neg hq, State.modLine_reg, State.sendRinging_reg]
    · rw [State.rung, State.modReg_line, State.modLine_line, if_pos rfl, State.sendRinging_line]
    · rw [State.rung, State.modReg_line, State.modLine_line, if_neg hn, State.sendRinging_line]
    · rw [State.rung_sig, State.sendRinging_signal, if_pos rfl]
    · rw [State.rung_sig, State.sendRinging_signal, if_neg hn]
    · rw [State.rung_sig, State.sendRinging_on hring]
    · apply State.eq_of_fields <;> simp [State.rung, State.modLine_scan]
      exact State.sendRinging_rest _ _ _
  · obtain ⟨hscan, hsig, htrans⟩ := s.answered_rest r
    have hreg : ∀ q, (s.unhooked r).reg q = s.reg q := State.reg_congr (by rw [s.unhooked_rest r])
    obtain ⟨hsenders, hsenderSignals⟩ := s.unhooked_sender r
    have hsend : (s.unhooked r).sends r := fun k hk => by
      obtain ⟨b, hb, hr⟩ := hsends k (by rw [← hreg, hk])
      exact ⟨b, by rw [← hb, State.sender, hsenders]; rfl, hr⟩
    have hown : (s.answered r).reg r = { s.reg r with state := .talk, timer := none, sender := none } := by
      rw [State.answered, State.post_reg, State.modReg_reg, if_pos rfl, State.stopSender_reg hsend, if_pos rfl, hreg]
    have hroute : (s.answered r).routeEntry r = s.routeEntry r := by
      rw [State.routeEntry, hown, State.routeEntry]
      simp only [State.route_congr htrans]
    refine ⟨s.answered r, rfl, ?_, fun q hq => ?_, State.post_pending _ _ _, fun i hi => ?_, fun hterms => ?_,
      fun d hd => ⟨?_, fun hcalled => ?_, fun n hn => ?_⟩, fun hd => ?_, fun k b hk hb => ?_, fun k hk => ?_, fun j hj => ?_, ?_⟩
    · exact hown
    · rw [State.answered, State.post_reg, State.modReg_reg, if_neg hq, State.stopSender_reg hsend, if_neg hq, hreg]
    · exact State.startMetering_trunk (s := s.answered r) (i := i) (by rw [hown, ← hi, ho])
    · refine State.startMetering_noTerms (s := s.answered r) ?_
      exact (congrArg (Option.bind · RouteEntry.terms) hroute).trans hterms
    · rw [hsig, (State.stopSender_sig _ _).1, State.unhooked_ringing hd]
    · rw [State.line_congr hscan, State.unhooked_line hd hcalled]
    · rw [State.line_congr hscan, State.unhooked_line_of_ne hd hn]
    · rw [hscan, State.unhooked, hd]
    · obtain ⟨b', hb', hr⟩ := hsends k hk
      obtain rfl : b = b' := by simpa using hb.symm.trans hb'
      obtain ⟨hsender, hsignal⟩ := State.stopSender_sender (s := s.unhooked r) (k := k) (b := b) (by rw [hreg, hk])
        (by rw [← hb, State.sender, hsenders]; rfl) hr
      exact ⟨(State.sender_congr hsig k).trans hsender, by rw [hsig, hsignal]⟩
    · rw [State.sender_congr hsig, State.stopSender_sender_of_ne hsend (by rw [hreg]; exact hk), State.sender, hsenders]
      rfl
    · rw [State.answered, State.post_subject, if_neg hj]
      refine State.subject_congr ?_ j
      simp only [State.modReg_frame, State.stopSender_frame]
      rw [s.unhooked_rest r]
    · apply State.eq_of_fields <;> simp [State.answered] <;> rw [s.unhooked_rest r]

end Sys2Proof.Machine
end

section
/-! SUPPORT. Send and the phases of a pulse sender (R119 to R121). -/

namespace Sys2Proof.Machine

variable {s : State} {r : RegNo} {k : SenderNo} {b : Sending}

/-- The first entry of a table that meets a test. -/
theorem tfind_head_eq {α : Type} {n : Nat} {p : Fin n → α → Bool} {v : Vector α n} {i : Fin n} (hi : p i (tget v i) = true)
    (hlow : ∀ j, j < i → p j (tget v j) = false) : (tfind p v).head? = some i := by
  cases hhead : (tfind p v).head? with
  | none =>
    have hmem := (mem_tfind p v i).2 hi
    rw [List.head?_eq_none_iff.1 hhead] at hmem
    cases hmem
  | some j =>
    obtain ⟨hj, hbefore⟩ := tfind_head p v j hhead
    refine congrArg some (le_antisymm (not_lt.1 fun hlt => ?_) (not_lt.1 fun hlt => ?_))
    · exact absurd hi (by simp [hbefore i hlt])
    · exact absurd hj (by simp [hlow j hlt])

/-! ### Send -/

/-- The lowest FREE sender. -/
theorem State.freeSender_eq (hk : s.sender k = .free) (hl : ∀ l, l < k → s.sender l ≠ .free) : s.freeSender = some k :=
  tfind_head_eq (decide_eq_true hk) fun l hlt => decide_eq_false (hl l hlt)

theorem State.freeSender_none (h : ∀ k, s.sender k ≠ .free) : s.freeSender = none := by
  rw [State.freeSender, List.head?_eq_none_iff, List.eq_nil_iff_forall_not_mem]
  exact fun k hk => h k (of_decide_eq_true ((mem_tfind _ _ _).1 hk))

theorem Path.trunk_outElem {p : Path} {o : OutNo} (h : p.middle = some (outElem o)) : p.trunk = some o := by
  rw [Path.trunk, h]
  simp [outElem]

section
variable {x : Side} {b : Byte} {level : Fin 4} {zone : Zone} {ticketed : Bool} {primary : GroupNo} {alternate : Option GroupNo}
  {digits : List Digit} {strip total : Nat}
  (hb : b.toNat = r.val) (hr : s.handler (.register r) = some x) (hs : (s.reg r).state = .set)
include hb hr hs

theorem sendCall_local (he : s.routeEntry r = some (.localCall level zone)) : sendCall b x s = refuse s .wrongState := by
  rw [sendCall, acting_bound hb hr, if_neg (not_not.2 hs)]
  simp only [he]

variable (he : s.routeEntry r = some (.outgoing level zone ticketed primary alternate digits strip total))
include he

theorem sendCall_nothing (hd : sendString digits strip (s.reg r).digits = []) : sendCall b x s = doneWith (s.awaitAnswer r) := by
  rw [sendCall, acting_bound hb hr, if_neg (not_not.2 hs)]
  simp only [he, hd]
  rfl

theorem sendCall_noUnit (hd : sendString digits strip (s.reg r).digits ≠ []) (hk : s.freeSender = none) :
    sendCall b x s = refuse s .noUnit := by
  rw [sendCall, acting_bound hb hr, if_neg (not_not.2 hs)]
  simp only [he, hk]
  exact if_neg (mt List.isEmpty_iff.1 hd)

theorem sendCall_attach {o : OutNo} (hd : sendString digits strip (s.reg r).digits ≠ []) (hk : s.freeSender = some k)
    (ho : (s.reg r).path.trunk = some o) :
    sendCall b x s = doneWith (s.startSending r k o (sendString digits strip (s.reg r).digits)) := by
  rw [sendCall, acting_bound hb hr, if_neg (not_not.2 hs)]
  simp only [he, hk, ho]
  exact if_neg (mt List.isEmpty_iff.1 hd)

end

theorem State.awaitAnswer_reg (s : State) (r q : RegNo) : (s.awaitAnswer r).reg q =
    if q = r then { s.reg r with state := .awaitAnswer, timer := some ⟨.answerWait, 120000⟩ } else s.reg q := by
  rw [State.awaitAnswer, State.post_reg, State.modReg_reg]
  rfl

theorem State.awaitAnswer_sent (s : State) (r : RegNo) : (s.awaitAnswer r).isPending (.register r) .sent = true :=
  State.post_pending _ _ _

/-- A sender that attaches to a trunk. -/
theorem State.startSending_sig {o : OutNo} (digits : List Digit) (hsig : tget s.sig.senderSignals k = ⟨none, .closed⟩) :
    (s.startSending r k o digits).sig = { s.sig with
      senders := tset s.sig.senders k (.busy ⟨false, r, o, digits, 0, .leadPause, 0, 300⟩)
      senderSignals := tset s.sig.senderSignals k ⟨some o, .closed⟩, sent := s.sig.sent ++ [.senderAttach k o] } := by
  have hne : tget (s.setSender k (.busy ⟨false, r, o, digits, 0, .leadPause, 0, 300⟩)).sig.senderSignals k ≠ ⟨some o, .closed⟩ := by
    rw [(State.setSender_sig _ _ _).2.2.2, hsig]
    simp
  rw [State.startSending, (State.modReg_frame _ _ _).2.2.2.2.2.1, State.sendSenderAttach, State.sendSender]
  exact (congrArg State.sig (if_neg hne)).trans rfl

theorem State.startSending_rest (s : State) (r : RegNo) (k : SenderNo) (o : OutNo) (digits : List Digit) :
    s.startSending r k o digits = { s with
      regs := (s.startSending r k o digits).regs, sig := (s.startSending r k o digits).sig } := by
  apply State.eq_of_fields <;> simp [State.startSending]

/-- Settles O38. -/
theorem sendAttachesASender : Obligations.SendAttachesASender := by
  intro x s r b htakes hb hr hs
  refine ⟨fun level zone he => State.exec_of_takes htakes (State.runs_of_body rfl (sendCall_local hb hr hs he)),
    fun level zone ticketed primary alternate digits strip total he => ⟨fun hd => ⟨s.awaitAnswer r, ?_, ?_, fun q hq => ?_,
      s.awaitAnswer_sent r, ?_⟩, fun hd hk => ?_, fun k o hd hk hl hp hsig => ⟨s.startSending r k o (digits ++ (s.reg r).digits.drop strip), ?_, ?_, fun q hq => ?_, ?_,
      fun l hl => ?_, ?_, ?_, ?_⟩⟩⟩
  · exact State.exec_of_takes htakes (State.runs_of_doneWith rfl (sendCall_nothing hb hr hs he hd))
  · rw [State.awaitAnswer_reg, if_pos rfl]
  · rw [State.awaitAnswer_reg, if_neg hq]
  · apply State.eq_of_fields <;> simp [State.awaitAnswer]
  · exact State.exec_of_takes htakes (State.runs_of_body rfl (sendCall_noUnit hb hr hs he hd (State.freeSender_none hk)))
  · exact State.exec_of_takes htakes (State.runs_of_doneWith rfl
      (sendCall_attach hb hr hs he hd (State.freeSender_eq hk hl) (Path.trunk_outElem hp)))
  · rw [State.startSending, State.modReg_reg, if_pos rfl, State.sendSenderAttach_reg, State.setSender_reg]
  · rw [State.startSending, State.modReg_reg, if_neg hq, State.sendSenderAttach_reg, State.setSender_reg]
  · rw [State.sender, State.startSending_sig _ hsig]
    exact tget_tset_same _ _ _
  · rw [State.sender, State.startSending_sig _ hsig]
    exact (tget_tset _ _ _ _).trans (if_neg hl)
  · rw [State.startSending_sig _ hsig]
    exact tget_tset_same _ _ _
  · rw [State.startSending_sig _ hsig]
  · refine (State.startSending_rest _ _ _ _ _).trans ?_
    rw [State.startSending_sig _ hsig]

/-! ### The end of a phase -/

theorem execSenderPhaseEnd_running (hk : s.sender k = .busy b) (h : b.phaseTime ≠ 0) : exec (.senderPhaseEnd k) s = .next s := by
  refine congrArg Host.Outcome.next ?_
  rw [State.senderPhase, hk]
  exact if_pos h

section
variable (hk : s.sender k = .busy b) (h : b.phaseTime = 0)
include hk h

/-- A pause ends in the first BREAK of its digit. -/
theorem State.senderPhase_pause (hp : b.phase = .leadPause ∨ b.phase = .digitPause) :
    s.senderPhase k = s.senderBreak k b (((b.digits[b.position]?).map digitPulses).getD 0) := by
  rw [State.senderPhase, hk]
  dsimp only
  rw [if_neg (not_not.2 h)]
  rcases hp with hp | hp <;> simp only [hp]

theorem State.senderPhase_brk (hp : b.phase = .brk) : s.senderPhase k =
    (s.setSender k (.busy { b with phase := .make, pulsesLeft := b.pulsesLeft - 1, phaseTime := 34 })).sendSenderLoop k .closed := by
  rw [State.senderPhase, hk]
  dsimp only
  rw [if_neg (not_not.2 h)]
  simp only [hp]
  rfl

theorem State.senderPhase_pulse (hp : b.phase = .make) (hleft : 0 < b.pulsesLeft) :
    s.senderPhase k = s.senderBreak k b b.pulsesLeft := by
  rw [State.senderPhase, hk]
  dsimp only
  rw [if_neg (not_not.2 h)]
  simp only [hp]
  exact if_pos hleft

theorem State.senderPhase_digit (hp : b.phase = .make) (hleft : b.pulsesLeft = 0) (hmore : b.position + 1 < b.digits.length) :
    s.senderPhase k = s.setSender k (.busy { b with phase := .digitPause, position := b.position + 1, phaseTime := 800 }) := by
  rw [State.senderPhase, hk]
  dsimp only
  rw [if_neg (not_not.2 h)]
  simp only [hp]
  exact (if_neg (by omega)).trans (if_pos hmore)

theorem State.senderPhase_last (hp : b.phase = .make) (hleft : b.pulsesLeft = 0) (hlast : b.digits.length ≤ b.position + 1) :
    s.senderPhase k = (s.detachSender k).awaitAnswer b.register := by
  rw [State.senderPhase, hk]
  dsimp only
  rw [if_neg (not_not.2 h)]
  simp only [hp]
  exact (if_neg (by omega)).trans (if_neg (by omega))

end

theorem State.awaitAnswer_sig (s : State) (r : RegNo) : (s.awaitAnswer r).sig = s.sig := by simp [State.awaitAnswer]

/-- Settles O39. -/
theorem senderMovesPhaseByPhase : Obligations.SenderMovesPhaseByPhase := by
  intro s k b hk
  refine ⟨fun h => execSenderPhaseEnd_running hk (by omega), fun h => ⟨fun hp => ?_, fun hp => ?_, fun hp hleft => ?_,
    fun hp hleft hmore => ?_, fun hp hleft hlast => ⟨(s.detachSender k).awaitAnswer b.register, ?_, ?_, fun q hq => ?_,
      State.awaitAnswer_sent _ _, ?_, fun l hl => ?_, ?_, ?_⟩⟩, fun l hl => ?_⟩
  · exact congrArg Host.Outcome.next (State.senderPhase_pause hk h hp)
  · exact congrArg Host.Outcome.next (State.senderPhase_brk hk h hp)
  · exact congrArg Host.Outcome.next (State.senderPhase_pulse hk h hp hleft)
  · exact congrArg Host.Outcome.next (State.senderPhase_digit hk h hp hleft hmore)
  · exact congrArg Host.Outcome.next (State.senderPhase_last hk h hp hleft hlast)
  · rw [State.awaitAnswer_reg, if_pos rfl, State.detachSender_busy hk, State.modReg_reg, if_pos rfl, State.setSender_reg,
      State.sendSenderDetach_reg, State.sendSenderLoop_reg]
  · rw [State.awaitAnswer_reg, if_neg hq, State.detachSender_busy hk, State.modReg_reg, if_neg hq, State.setSender_reg,
      State.sendSenderDetach_reg, State.sendSenderLoop_reg]
  · rw [State.sender_congr (State.awaitAnswer_sig _ _), State.detachSender_busy hk, State.modReg_sender, State.setSender_sender,
      if_pos rfl]
  · rw [State.sender_congr (State.awaitAnswer_sig _ _), State.detachSender_busy hk, State.modReg_sender, State.setSender_sender,
      if_neg hl, State.sendSenderDetach_sender, State.sendSenderLoop_sender]
  · rw [State.awaitAnswer_sig, State.detachSender_busy hk, (State.modReg_frame _ _ _).2.2.2.2.2.1, (State.setSender_sig _ _ _).2.2.2,
      State.sendSenderDetach, State.sendSender_signal, if_pos rfl]
  · apply State.eq_of_fields <;> simp [State.awaitAnswer]
  · refine congrArg Host.Outcome.next ?_
    rw [State.senderPhase]
    rcases hl with hl | hl <;> rw [hl]

end Sys2Proof.Machine
end

section
/-! SUPPORT. The time an outpulsing takes (R120). -/

namespace Sys2Proof.Machine

variable {s : State} {k : SenderNo} {b : Sending}

/-- The time of the digits after the one in progress. -/
def Sending.laterTime (b : Sending) : Nat := ((b.digits.drop (b.position + 1)).map fun d => 800 + digitTime d).sum

theorem sum_digitTime (ds : List Digit) :
    (ds.map fun d => 800 + digitTime d).sum = 800 * ds.length + 100 * (ds.map digitPulses).sum := by
  induction ds with
  | nil => rfl
  | cons d ds ih =>
    simp only [List.map_cons, List.sum_cons, ih, List.length_cons]
    simp only [digitTime]
    omega

theorem digitPulses_pos (d : Digit) : 1 ≤ digitPulses d := by
  unfold digitPulses
  split <;> omega

/-! ### The time left in each phase -/

theorem Sending.timeLeft_pause {d : Digit} (hp : b.phase = .leadPause ∨ b.phase = .digitPause) (hd : b.digits[b.position]? = some d) :
    b.timeLeft = b.phaseTime + 100 * digitPulses d + b.laterTime := by
  rw [Sending.timeLeft]
  rcases hp with hp | hp <;> simp only [hp, hd] <;> rfl

theorem Sending.timeLeft_brk (hp : b.phase = .brk) :
    b.timeLeft = b.phaseTime + 34 + 100 * (b.pulsesLeft - 1) + b.laterTime := by
  rw [Sending.timeLeft]
  simp only [hp]
  rfl

theorem Sending.timeLeft_make (hp : b.phase = .make) : b.timeLeft = b.phaseTime + 100 * b.pulsesLeft + b.laterTime := by
  rw [Sending.timeLeft]
  simp only [hp]
  rfl

theorem Sending.laterTime_more {d : Digit} (h : b.digits[b.position + 1]? = some d) : b.laterTime =
    800 + 100 * digitPulses d + ((b.digits.drop (b.position + 1 + 1)).map fun d => 800 + digitTime d).sum := by
  obtain ⟨hlt, hd⟩ := List.getElem?_eq_some_iff.1 h
  rw [Sending.laterTime, List.drop_eq_getElem_cons hlt, List.map_cons, List.sum_cons, hd]
  rfl

/-! ### The next phase -/

/-- A busy sender goes on to a running phase with the same time left. -/
structure Sending.Continues (b c : Sending) : Prop where
  left : c.timeLeft = b.timeLeft
  running : 0 < c.phaseTime
  position : c.position < c.digits.length
  pulses : c.phase = .brk → 1 ≤ c.pulsesLeft

/-- A BREAK that leaves `n` pulses, from a phase that has run out with `n` pulses to come. -/
theorem Sending.continues_brk {n : Nat} (hpos : b.position < b.digits.length) (hn : 1 ≤ n)
    (hleft : b.timeLeft = 100 * n + b.laterTime) : b.Continues { b with phase := .brk, pulsesLeft := n, phaseTime := 66 } where
  left := by
    rw [hleft, Sending.timeLeft_brk rfl]
    simp only [Sending.laterTime]
    omega
  running := by simp
  position := hpos
  pulses _ := hn

theorem Sending.continues_make (hpos : b.position < b.digits.length) (hbrk : b.phase = .brk) (hrun : b.phaseTime = 0) :
    b.Continues { b with phase := .make, pulsesLeft := b.pulsesLeft - 1, phaseTime := 34 } where
  left := by
    rw [Sending.timeLeft_brk hbrk, hrun, Sending.timeLeft_make rfl]
    simp only [Sending.laterTime]
  running := by simp
  position := hpos
  pulses h := by simp at h

theorem Sending.continues_digit (hmore : b.position + 1 < b.digits.length) (hmake : b.phase = .make) (hrun : b.phaseTime = 0)
    (hleft : b.pulsesLeft = 0) : b.Continues { b with phase := .digitPause, position := b.position + 1, phaseTime := 800 } where
  left := by
    have hd : b.digits[b.position + 1]? = some b.digits[b.position + 1] := List.getElem?_eq_getElem hmore
    rw [Sending.timeLeft_make hmake, hrun, hleft, Sending.laterTime_more hd, Sending.timeLeft_pause (.inr rfl) hd]
    simp only [Sending.laterTime]
    omega
  running := by simp
  position := hmore
  pulses h := by simp at h

/-- A sender whose last make has run out has no time left, and any other has some. -/
theorem Sending.last_iff (hpos : b.position < b.digits.length) (hrun : b.phaseTime = 0) :
    b.timeLeft = 0 ↔ b.phase = .make ∧ b.pulsesLeft = 0 ∧ b.digits.length ≤ b.position + 1 := by
  have hpause (hp : b.phase = .leadPause ∨ b.phase = .digitPause) : b.timeLeft ≠ 0 := by
    have hd := List.getElem?_eq_getElem hpos
    have hpulses := digitPulses_pos b.digits[b.position]
    rw [Sending.timeLeft_pause hp hd]
    omega
  cases hp : b.phase with
  | leadPause => simpa using hpause (.inl hp)
  | digitPause => simpa using hpause (.inr hp)
  | brk =>
    rw [Sending.timeLeft_brk hp]
    simp
  | make =>
    rw [Sending.timeLeft_make hp, hrun]
    by_cases hmore : b.position + 1 < b.digits.length
    · rw [Sending.laterTime_more (List.getElem?_eq_getElem hmore)]
      omega
    · have hlater : b.laterTime = 0 := by rw [Sending.laterTime, List.drop_of_length_le (by omega)]; rfl
      simp only [hlater, true_and]
      omega

theorem State.sendSenderLoop_own (s : State) (k : SenderNo) (c : Sending) (x : Loop) :
    ((s.setSender k (.busy c)).sendSenderLoop k x).sender k = .busy c := by
  rw [State.sendSenderLoop_sender, State.setSender_sender, if_pos rfl]

/-- The end of a phase that is not the last. -/
theorem State.senderPhase_continues (hk : s.sender k = .busy b) (hpos : b.position < b.digits.length)
    (hrun : b.phaseTime = 0) (hleft : b.timeLeft ≠ 0) : ∃ c, (s.senderPhase k).sender k = .busy c ∧ b.Continues c := by
  have hpause (hp : b.phase = .leadPause ∨ b.phase = .digitPause) :
      ∃ c, (s.senderPhase k).sender k = .busy c ∧ b.Continues c := by
    have hd := List.getElem?_eq_getElem hpos
    rw [State.senderPhase_pause hk hrun hp, hd]
    refine ⟨_, s.sendSenderLoop_own k _ _, Sending.continues_brk hpos (digitPulses_pos _) ?_⟩
    rw [Sending.timeLeft_pause hp hd, hrun, Nat.zero_add]
    rfl
  cases hp : b.phase with
  | leadPause => exact hpause (.inl hp)
  | digitPause => exact hpause (.inr hp)
  | brk =>
    rw [State.senderPhase_brk hk hrun hp]
    exact ⟨_, s.sendSenderLoop_own k _ _, Sending.continues_make hpos hp hrun⟩
  | make =>
    by_cases hpulses : b.pulsesLeft = 0
    · have hmore : b.position + 1 < b.digits.length := not_le.1 fun h => hleft ((Sending.last_iff hpos hrun).2 ⟨hp, hpulses, h⟩)
      rw [State.senderPhase_digit hk hrun hp hpulses hmore]
      exact ⟨_, (State.setSender_sender _ _ _ _).trans (if_pos rfl), Sending.continues_digit hmore hp hrun hpulses⟩
    · rw [State.senderPhase_pulse hk hrun hp (Nat.pos_of_ne_zero hpulses)]
      refine ⟨_, s.sendSenderLoop_own k _ _, Sending.continues_brk hpos (Nat.pos_of_ne_zero hpulses) ?_⟩
      rw [Sending.timeLeft_make hp, hrun, Nat.zero_add]

theorem Sending.timeLeft_pass (h : 0 < b.phaseTime) : ({ b with phaseTime := b.phaseTime - 1 } : Sending).timeLeft + 1 = b.timeLeft := by
  rw [Sending.timeLeft, Sending.timeLeft]
  dsimp only
  split <;> omega

theorem State.passMillisecond_sender (s : State) (k : SenderNo) : s.passMillisecond.sender k = (s.sender k).pass :=
  tget_tmap (fun _ x => Sender.pass x) s.sig.senders k

/-- Settles O40. -/
theorem outpulsingTakesTheStatedTime : Obligations.OutpulsingTakesTheStatedTime := by
  refine ⟨fun r o digits hne => ?_, fun s k b hk hpos hbrk => ⟨fun hrun => ?_, fun hrun hleft => ?_, fun hleft => ?_⟩⟩
  · obtain ⟨d, ds, rfl⟩ := List.exists_cons_of_ne_nil hne
    rw [Sending.timeLeft_pause (.inl rfl) (d := d) rfl, Sending.laterTime, sum_digitTime]
    simp only [List.map_cons, List.sum_cons, List.length_cons, List.drop_succ_cons, List.drop_zero]
    omega
  · refine ⟨_, ?_, Sending.timeLeft_pass hrun⟩
    rw [State.passMillisecond_sender, hk]
    rfl
  · obtain ⟨c, hc, hcont⟩ := State.senderPhase_continues hk hpos hrun hleft
    exact ⟨_, c, rfl, hc, hcont.left, hcont.running, hcont.position, hcont.pulses⟩
  · have hrun : b.phaseTime = 0 := by
      rw [Sending.timeLeft] at hleft
      split at hleft <;> omega
    obtain ⟨hp, hpulses, hlast⟩ := (Sending.last_iff hpos hrun).1 hleft
    refine ⟨_, rfl, ?_⟩
    rw [State.senderPhase_last hk hrun hp hpulses hlast, State.awaitAnswer_reg, if_pos rfl]

end Sys2Proof.Machine
end

section
/-! SUPPORT. Breaks and makes (R43 to R45, R48). -/

namespace Sys2Proof.Machine

variable {s : State} {r : RegNo} {k : ReceiverNo} {a : Attachment} {o : Origin}

/-! ### A digit error -/

theorem State.enterTone_receiver (x : Tone) (c : ToneCause) (h : (s.reg r).receiver = some k) (hk : s.receiver k = .attached a)
    (l : ReceiverNo) : (s.enterTone r x c).receiver l =
      if l = k then (if a.blockAfterUse then .blocked else .free) else s.receiver l := by
  rw [← State.detachReceiver_receiver false h hk]
  exact State.receiver_congr (by simp [State.enterTone]) l

theorem State.enterTone_rest (s : State) (r : RegNo) (x : Tone) (c : ToneCause) : s.enterTone r x c = { s with
    regs := (s.enterTone r x c).regs, receivers := (s.enterTone r x c).receivers, sig := (s.enterTone r x c).sig } := by
  apply State.eq_of_fields <;> simp

theorem State.digitError_reg (s : State) (r q : RegNo) : (s.digitError r).reg q = if q = r then { s.reg r with
    state := .tone, tone := some (.nu, .digitError), timer := some ⟨.tone, 30000⟩, receiver := none, walkNode := none }
    else s.reg q := by
  rw [State.digitError, State.post_reg, State.enterTone_reg]

theorem State.digitError_sig (s : State) (r : RegNo) : (s.digitError r).sig = (s.enterTone r .nu .digitError).sig := by
  simp [State.digitError]

theorem State.digitError_receivers (s : State) (r : RegNo) :
    (s.digitError r).receivers = (s.enterTone r .nu .digitError).receivers := by simp [State.digitError]

theorem State.digitError_subject (s : State) (r : RegNo) {j : Subject} (hj : j ≠ .register r) :
    (s.digitError r).subject j = s.subject j := by
  rw [State.digitError, State.post_subject, if_neg hj]
  exact State.subject_congr (by simp) j

theorem State.digitError_rest (s : State) (r : RegNo) : s.digitError r = { s with
    regs := (s.digitError r).regs, receivers := (s.digitError r).receivers, sig := (s.digitError r).sig
    att := (s.digitError r).att } := by
  apply State.eq_of_fields <;> simp [State.digitError]

/-! ### A pulse -/

/-- A receiver with one more pulse counted, dial tone removed. -/
def State.pulsed (s : State) (k : ReceiverNo) (a : Attachment) : State :=
  (if a.dialTone then s.removeDialTone a.register else s).setReceiver k
    (.attached { a with phase := .make, pulses := a.pulses + 1, makeTime := 0, dialTone := false })

theorem State.pulsed_receiver (s : State) (k l : ReceiverNo) (a : Attachment) : (s.pulsed k a).receiver l = if l = k then
    .attached { a with phase := .make, pulses := a.pulses + 1, makeTime := 0, dialTone := false } else s.receiver l := by
  rw [State.pulsed, State.setReceiver_receiver]
  by_cases hl : l = k
  · rw [if_pos hl, if_pos hl]
  · rw [if_neg hl, if_neg hl]
    exact State.receiver_congr (by split <;> simp) l

theorem State.pulsed_rest (s : State) (k : ReceiverNo) (a : Attachment) :
    s.pulsed k a = { s with receivers := (s.pulsed k a).receivers, sig := (s.pulsed k a).sig } := by
  unfold State.pulsed
  split <;> apply State.eq_of_fields <;> simp

theorem State.pulsed_dialTone {n : LineNo} {p : Party} (h : a.dialTone = true) (ho : (s.reg a.register).origin = some (.line n p)) :
    (tget (s.pulsed k a).sig.lineSignals n).dialTone = false := by
  rw [State.pulsed, if_pos h, (State.setReceiver_frame _ _ _).2.2.2.2.2.1, State.removeDialTone_line ho, State.sendDialTone_signal,
    if_pos rfl]

theorem State.pulsed_sig (h : a.dialTone = false) : (s.pulsed k a).sig = s.sig := by
  rw [State.pulsed, if_neg (by simp [h]), (State.setReceiver_frame _ _ _).2.2.2.2.2.1]

/-! ### The classes of a break -/

theorem State.beginBreak_make (hk : s.receiver k = .attached a) (ha : a.phase = .make) :
    s.beginBreak k = s.setReceiver k (.attached { a with phase := .brk 0 }) := by
  rw [State.beginBreak, hk]
  simp only [ha]

section
variable {l : Nat} (hk : s.receiver k = .attached a) (ha : a.phase = .brk l)
include hk ha

theorem State.endBreak_ignored (hl : l < 24) : s.endBreak k = s.setReceiver k (.attached { a with phase := .make }) := by
  rw [State.endBreak, hk]
  simp only [ha]
  exact if_pos hl

theorem State.endBreak_pulse (hlow : 24 ≤ l) (hhigh : l ≤ 100) (hp : a.pulses < 10) : s.endBreak k = s.pulsed k a := by
  rw [State.endBreak, hk]
  simp only [ha]
  exact (if_neg (not_lt.2 hlow)).trans ((if_pos hhigh).trans (if_pos hp))

theorem State.endBreak_eleventh (hlow : 24 ≤ l) (hhigh : l ≤ 100) (hp : a.pulses = 10) :
    s.endBreak k = (s.pulsed k a).digitError a.register := by
  rw [State.endBreak, hk]
  simp only [ha]
  exact (if_neg (not_lt.2 hlow)).trans ((if_pos hhigh).trans (if_neg (by omega)))

theorem State.endBreak_long (hl : 100 < l) : s.endBreak k = s.digitError a.register := by
  rw [State.endBreak, hk]
  simp only [ha]
  exact (if_neg (show ¬l < 24 by omega)).trans (if_neg (not_le.2 hl))

end

/-- A digit error takes its register to TONE from the state itself or from that with an eleventh pulse counted. -/
theorem State.endBreak_error {l : Nat} (hk : s.receiver k = .attached a) (ha : a.phase = .brk l)
    (hl : 100 < l ∨ (24 ≤ l ∧ a.pulses = 10)) : ∃ (v : State) (b : Attachment), s.endBreak k = v.digitError a.register ∧
      v.receiver k = .attached b ∧ b.blockAfterUse = a.blockAfterUse ∧ (∀ j, j ≠ k → v.receiver j = s.receiver j) ∧
      v = { s with receivers := v.receivers, sig := v.sig } := by
  by_cases hlong : 100 < l
  · exact ⟨s, a, State.endBreak_long hk ha hlong, hk, rfl, fun _ _ => rfl, rfl⟩
  · obtain ⟨hlow, hp⟩ := hl.resolve_left hlong
    exact ⟨_, _, State.endBreak_eleventh hk ha hlow (not_lt.1 hlong) hp, (s.pulsed_receiver k k a).trans (if_pos rfl), rfl,
      fun j hj => (s.pulsed_receiver k j a).trans (if_neg hj), s.pulsed_rest k a⟩

/-- Settles O24. -/
theorem breaksAreClassifiedByLength : Obligations.BreaksAreClassifiedByLength := by
  intro s k a hk
  refine ⟨State.beginBreak_make hk, fun l ha => ⟨State.endBreak_ignored hk ha, fun hlow hhigh hp => ?_, fun hl o ho hr => ?_⟩⟩
  · rw [State.endBreak_pulse hk ha hlow hhigh hp]
    exact ⟨(s.pulsed_receiver k k a).trans (if_pos rfl), fun j hj => (s.pulsed_receiver k j a).trans (if_neg hj),
      fun n p => State.pulsed_dialTone, State.pulsed_sig, s.pulsed_rest k a⟩
  · obtain ⟨v, b, hend, hb, hblock, hothers, hrest⟩ := State.endBreak_error hk ha hl
    have hreg : ∀ q, v.reg q = s.reg q := State.reg_congr (by rw [hrest])
    have hreceiver (j : ReceiverNo) : (v.digitError a.register).receiver j =
        if j = k then (if a.blockAfterUse then .blocked else .free) else v.receiver j := by
      rw [← hblock, ← State.enterTone_receiver .nu .digitError ((congrArg CallRegister.receiver (hreg _)).trans hr) hb]
      exact State.receiver_congr (State.digitError_receivers _ _) j
    have horigin : (v.reg a.register).origin = some o := by rw [hreg, ho]
    rw [hend]
    refine ⟨?_, fun q hq => ?_, (hreceiver k).trans (if_pos rfl), fun j hj => ?_, ?_, fun n p hn => ?_, State.post_pending _ _ _,
      fun j hj => ?_, ?_⟩
    · rw [State.digitError_reg, if_pos rfl, hreg]
    · rw [State.digitError_reg, if_neg hq, hreg]
    · rw [hreceiver, if_neg hj, hothers j hj]
    · rw [State.toneOf_congr (State.digitError_sig _ _), State.enterTone_toneOf _ _ horigin, if_pos rfl]
    · rw [State.digitError_sig, State.enterTone_dialTone (p := p) _ _ (by rw [horigin, hn])]
    · rw [State.digitError_subject _ _ hj]
      exact State.subject_congr (by rw [hrest]) j
    · rw [State.digitError_rest]
      rw [hrest]

end Sys2Proof.Machine
end

section
/-! SUPPORT. Digit ends and the walk of a digit (R47, R50, R58, R59, R62). -/

namespace Sys2Proof.Machine

variable {s : State} {r : RegNo} {k : ReceiverNo} {a : Attachment} {o : Origin}

/-! ### The digit end -/

theorem Receiver.digitEndDue_iff : (Receiver.attached a).digitEndDue = true ↔ a.phase = .make ∧ 160 ≤ a.makeTime ∧ 1 ≤ a.pulses := by
  obtain ⟨block, register, phase, pulses, makeTime, dialTone⟩ := a
  cases phase with
  | brk t => simp [Receiver.digitEndDue]
  | make =>
    rw [Receiver.digitEndDue, Bool.and_eq_true, decide_eq_true_iff, decide_eq_true_iff]
    exact ⟨fun h => ⟨rfl, h⟩, fun h => h.2⟩

theorem digitOfPulses_digitPulses (d : Digit) : digitOfPulses (digitPulses d) = d := by
  apply Fin.ext
  unfold digitOfPulses digitPulses
  split
  · next h => simp [h]
  · exact Nat.mod_eq_of_lt d.isLt

/-- A receiver at a digit end, its digit appended. -/
def State.appended (s : State) (k : ReceiverNo) (a : Attachment) (d : Digit) : State :=
  (s.setReceiver k (.attached { a with pulses := 0, makeTime := 0 })).modReg a.register fun g => { g with digits := g.digits ++ [d] }

/-- A register after a digit was walked: still DIALING it runs a dialling timer. -/
def State.timed (s : State) (r : RegNo) : State :=
  if (s.reg r).state = .dialing then s.modReg r fun g => { g with timer := some (s.diallingTimer r) } else s

theorem State.endDigit_eq (s : State) (k : ReceiverNo) (a : Attachment) : s.endDigit k a =
    ((s.appended k a (digitOfPulses a.pulses)).translate a.register (digitOfPulses a.pulses)).timed a.register := rfl

section
variable {level : Fin 4} {zone : Zone} {ticketed : Bool} {primary : GroupNo} {alternate : Option GroupNo} {digits : List Digit}
  {strip : Nat}

theorem State.diallingTimer_open
    (he : s.routeEntry r = some (.outgoing level zone ticketed primary alternate digits strip 0)) :
    s.diallingTimer r = ⟨.endOfDialing, 4000⟩ := by
  rw [State.diallingTimer, he]
  rfl

end

theorem State.diallingTimer_closed (he : ∀ level zone ticketed primary alternate digits strip,
    s.routeEntry r ≠ some (.outgoing level zone ticketed primary alternate digits strip 0)) :
    s.diallingTimer r = ⟨.interdigit, 15000⟩ := by
  unfold State.diallingTimer
  split
  · next h => exact absurd h (he _ _ _ _ _ _ _)
  · rfl

theorem execDigitEnd_due (hk : s.receiver k = .attached a) (h : (Receiver.attached a).digitEndDue = true) :
    exec (.digitEnd k) s = .next (s.endDigit k a).settle := by
  have hclear : (Receiver.attached a).clearDue = false := Receiver.clearDue_make (Receiver.digitEndDue_iff.1 h).1
  refine congrArg Host.Outcome.next ?_
  rw [hk, if_pos h, State.takeReceiver, hk]
  dsimp only
  rw [if_neg (by rw [hclear]; exact Bool.false_ne_true), if_pos h]

theorem execDigitEnd_notDue (hk : s.receiver k = .attached a) (h : (Receiver.attached a).digitEndDue = false) :
    exec (.digitEnd k) s = .next s := by
  refine congrArg Host.Outcome.next (if_neg ?_)
  rw [hk, h]
  exact Bool.false_ne_true

theorem execClear_notDue (hk : s.receiver k = .attached a) (h : (Receiver.attached a).clearDue = false) :
    exec (.clear k) s = .next s := by
  refine congrArg Host.Outcome.next (if_neg ?_)
  rw [hk, h]
  exact Bool.false_ne_true

/-- Settles O25. -/
theorem digitEndAppendsAndWalks : Obligations.DigitEndAppendsAndWalks := by
  intro s k a hk
  refine ⟨fun d hphase htime hpulses => ?_, fun h => execDigitEnd_notDue hk (Bool.eq_false_iff.2 fun hdue => ?_),
    fun h => execClear_notDue hk ?_⟩
  · have hdigit : digitOfPulses a.pulses = d := by rw [← hpulses, digitOfPulses_digitPulses]
    have hdue : (Receiver.attached a).digitEndDue = true :=
      Receiver.digitEndDue_iff.2 ⟨hphase, le_of_eq htime.symm, hpulses ▸ digitPulses_pos d⟩
    have hexec := execDigitEnd_due hk hdue
    rw [State.endDigit_eq, hdigit] at hexec
    refine ⟨s.appended k a d, _, ?_, fun q hq => ?_, ?_, fun j hj => ?_, ?_, rfl, fun hstate => ?_, fun timer hstate htimer => ?_⟩
    · rw [State.appended, State.modReg_reg, if_pos rfl, State.setReceiver_reg]
    · rw [State.appended, State.modReg_reg, if_neg hq, State.setReceiver_reg]
    · exact (State.setReceiver_receiver _ _ _ _).trans (if_pos rfl)
    · exact (State.setReceiver_receiver _ _ _ _).trans (if_neg hj)
    · apply State.eq_of_fields <;> simp [State.appended]
    · rw [hexec, State.timed, if_neg hstate]
    · rw [hexec, State.timed, if_pos hstate]
      obtain ⟨rfl, _, _, _, _, _, _, _, he⟩ | ⟨rfl, he⟩ := htimer
      · rw [State.diallingTimer_open he]
      · rw [State.diallingTimer_closed he]
  · obtain ⟨hphase, htime, hpulses⟩ := Receiver.digitEndDue_iff.1 hdue
    exact h.elim (· hphase) fun h => by omega
  · cases hphase : a.phase with
    | make => exact Receiver.clearDue_make hphase
    | brk l => exact (Receiver.clearDue_brk hphase).trans (decide_eq_false (not_le.2 (h l hphase)))

end Sys2Proof.Machine
end

section
/-! SUPPORT. The walk of a digit and the checks of a route result (R58 to R62). -/

namespace Sys2Proof.Machine

variable {s : State} {r : RegNo} {o : Origin} {d : Digit}

/-! ### A string refused at a node -/

theorem State.modReg_modReg (s : State) (r : RegNo) (f g : CallRegister → CallRegister) :
    (s.modReg r f).modReg r g = s.modReg r (g ∘ f) := by
  have hregs : ((s.modReg r f).modReg r g).regs = (s.modReg r (g ∘ f)).regs := by
    refine table_ext fun q => ?_
    refine (State.modReg_reg (s.modReg r f) r q g).trans (.trans ?_ (State.modReg_reg s r q (g ∘ f)).symm)
    rw [State.modReg_reg, State.modReg_reg, if_pos rfl]
    by_cases hq : q = r
    · rw [if_pos hq, if_pos hq]
      rfl
    · rw [if_neg hq, if_neg hq, if_neg hq]
  apply State.eq_of_fields <;> simp [hregs]

/-- A detachment ends the walk, wherever it stood. -/
theorem State.detachReceiver_walked (s : State) (r : RegNo) (x : Option NodeNo) (quiet : Bool) :
    (s.modReg r fun g => { g with walkNode := x }).detachReceiver r quiet = s.detachReceiver r quiet := by
  have hreceiver : ((s.modReg r fun g => { g with walkNode := x }).reg r).receiver = (s.reg r).receiver := by
    rw [State.modReg_reg, if_pos rfl]
  rw [State.detachReceiver, State.detachReceiver, hreceiver, State.modReg_modReg]
  rfl

theorem State.refuseString_walked (s : State) (r : RegNo) (x : Option NodeNo) (y : Tone) (c : ToneCause) (k : EventKind) :
    (s.modReg r fun g => { g with walkNode := x }).refuseString r y c k = s.refuseString r y c k := by
  rw [State.refuseString, State.refuseString, State.enterTone, State.enterTone, State.detachReceiver_walked]

/-! ### The walk -/

section
variable {n : NodeNo} (hn : (s.reg r).walkNode = some n)
include hn

theorem State.translate_node {m : NodeNo} (hslot : tget (tget s.trans.nodes n) d = .node m) : s.translate r d =
    if 14 ≤ (s.reg r).digits.length then s.refuseString r .nu .vacant .vacant else s.modReg r fun g => { g with walkNode := some m } := by
  rw [State.translate, hn]
  dsimp only
  rw [hslot]
  dsimp only
  rw [State.refuseVacant, State.refuseString_walked]
  rfl

theorem State.translate_vacant (hslot : tget (tget s.trans.nodes n) d = .vacant) :
    s.translate r d = s.refuseString r .nu .vacant .vacant := by
  rw [State.translate, hn]
  dsimp only
  rw [hslot]
  rfl

theorem State.translate_route {t : RouteNo} (hslot : tget (tget s.trans.nodes n) d = .route t) :
    s.translate r d = s.routeResult r t := by
  rw [State.translate, hn]
  dsimp only
  rw [hslot]

end

/-! ### The checks -/

/-- The outcome of the checks of a route result for the caller `o` (R62). -/
def State.routeCheck (s : State) (r : RegNo) (t : RouteNo) (o : Origin) : RouteCheck :=
  s.checkRoute (s.route t).entry (s.accessLevel o.terminal) (decide ((s.reg r).digits.length < 12))

/-- What an accepted route result does (R63). -/
def State.acceptRoute (s : State) (r : RegNo) (t : RouteNo) : State :=
  match (s.route t).entry with
  | .outgoing _ _ _ _ _ _ _ total =>
    if stringComplete total (s.reg r).digits.length then (s.recordRoute r t).completeString r else s.recordRoute r t
  | _ => s.recordRoute r t

section
variable {t : RouteNo} (ho : (s.reg r).origin = some o)
include ho

theorem State.routeResult_refused (h : s.routeCheck r t o = .invalidRoute ∨ s.routeCheck r t o = .noRoom) :
    s.routeResult r t = s.refuseString r .nu .vacant .vacant := by
  unfold State.routeCheck at h
  rcases h with h | h <;> simp only [State.routeResult, ho, Option.map_some, Option.getD_some, h] <;> rfl

theorem State.routeResult_barred (h : s.routeCheck r t o = .level) : s.routeResult r t = s.refuseString r .nu .barred .barred := by
  unfold State.routeCheck at h
  simp only [State.routeResult, ho, Option.map_some, Option.getD_some, h]

theorem State.routeResult_full (h : s.routeCheck r t o = .ticketsFull) :
    s.routeResult r t = s.refuseString r .congestion .congestion .congestion := by
  unfold State.routeCheck at h
  simp only [State.routeResult, ho, Option.map_some, Option.getD_some, h]

theorem State.routeResult_accepted (h : s.routeCheck r t o = .accepted) : s.routeResult r t = s.acceptRoute r t := by
  unfold State.routeCheck at h
  simp only [State.routeResult, ho, Option.map_some, Option.getD_some, h]
  rfl

end

section
variable {t : RouteNo} {required : Fin 4} {zone : Zone}

theorem State.routeCheck_local (s : State) (r : RegNo) (o : Origin) (he : (s.route t).entry = .localCall required zone) :
    s.routeCheck r t o = if 12 ≤ (s.reg r).digits.length then .noRoom
      else if s.accessLevel o.terminal < required.val then .level else .accepted := by
  rw [State.routeCheck, he]
  simp [State.checkRoute, RouteEntry.terms, RouteEntry.isLocal]

variable {ticketed : Bool} {primary : GroupNo} {alternate : Option GroupNo} {digits : List Digit} {strip total : Nat}

theorem State.routeCheck_outgoing (s : State) (r : RegNo) (o : Origin)
    (he : (s.route t).entry = .outgoing required zone ticketed primary alternate digits strip total) :
    s.routeCheck r t o = if s.accessLevel o.terminal < required.val then .level
      else if ticketed = true ∧ 64 ≤ s.tickets.stored.length + s.tickets.reserved then .ticketsFull else .accepted := by
  rw [State.routeCheck, he]
  simp only [State.checkRoute, RouteEntry.terms, RouteEntry.isLocal]
  exact if_neg fun h => Bool.false_ne_true h.1

theorem State.acceptRoute_outgoing (s : State) (r : RegNo)
    (he : (s.route t).entry = .outgoing required zone ticketed primary alternate digits strip total) : s.acceptRoute r t =
      if stringComplete total (s.reg r).digits.length then (s.recordRoute r t).completeString r else s.recordRoute r t := by
  simp only [State.acceptRoute, he]

theorem State.acceptRoute_local (s : State) (r : RegNo) (he : (s.route t).entry = .localCall required zone) :
    s.acceptRoute r t = s.recordRoute r t := by simp only [State.acceptRoute, he]

end

theorem stringComplete_iff {total held : Nat} : stringComplete total held = true ↔ total ≤ held ∧ 1 ≤ total ∨ total = 0 ∧ 14 ≤ held := by
  have h : stringComplete total held = if total = 0 then decide (14 ≤ held) else decide (total ≤ held) := rfl
  rw [h]
  split <;> simp only [decide_eq_true_eq] <;> omega

/-- Settles O26. -/
theorem digitsAreWalkedAndRoutesChecked : Obligations.DigitsAreWalkedAndRoutesChecked := by
  intro s r d n o hn ho
  refine ⟨fun m hslot hheld => ?_, fun m hslot hheld => ?_, State.translate_vacant hn, fun t hslot => ?_⟩
  · rw [State.translate_node hn hslot, if_neg (not_le.2 hheld)]
  · rw [State.translate_node hn hslot, if_pos hheld]
  · rw [State.translate_route hn hslot]
    refine ⟨fun he => State.routeResult_refused ho (.inl ?_), fun level zone he => ⟨fun hroom => ?_, fun hroom hlevel => ?_,
      fun hroom hlevel => ?_⟩, fun level zone ticketed primary alternate digits strip total he => ⟨fun hlevel => ?_,
      fun hlevel hticketed hfull => ?_, fun hlevel hplaces => ?_⟩⟩
    · rw [State.routeCheck, he]
      rfl
    · exact State.routeResult_refused ho (.inr ((s.routeCheck_local r o he).trans (if_pos hroom)))
    · refine State.routeResult_barred ho ((s.routeCheck_local r o he).trans ?_)
      rw [if_neg (not_le.2 hroom), if_pos hlevel]
    · rw [State.routeResult_accepted ho, State.acceptRoute_local s r he]
      rw [State.routeCheck_local s r o he, if_neg (not_le.2 hroom), if_neg (not_lt.2 hlevel)]
    · exact State.routeResult_barred ho ((s.routeCheck_outgoing r o he).trans (if_pos hlevel))
    · refine State.routeResult_full ho ((s.routeCheck_outgoing r o he).trans ?_)
      rw [if_neg (not_lt.2 hlevel), if_pos ⟨hticketed, hfull⟩]
    · have haccepted : s.routeCheck r t o = .accepted := by
        rw [State.routeCheck_outgoing s r o he, if_neg (not_lt.2 hlevel), if_neg]
        rintro ⟨hticketed, hfull⟩
        exact hplaces.elim (fun h => by simp [h] at hticketed) fun h => absurd hfull (not_le.2 h)
      rw [State.routeResult_accepted ho haccepted, State.acceptRoute_outgoing s r he]
      refine ⟨fun h => if_pos (stringComplete_iff.2 h), fun h => if_neg fun hc => ?_⟩
      have hcomplete := stringComplete_iff.1 hc
      omega

end Sys2Proof.Machine
end

section
/-! SUPPORT. Refused strings and accepted route results (R49, R60, R63, R64, R162). -/

namespace Sys2Proof.Machine

variable {s : State} {r : RegNo} {o : Origin} {t : RouteNo}

/-! ### The open of a terminal caught in a break (R49) -/

theorem State.openAtDetachment_closed (ho : (s.reg r).origin = some o) (ha : s.accepted o.terminal = .closed) :
    s.openAtDetachment r = s := by
  rw [State.openAtDetachment, ho]
  exact if_neg (by rw [ha]; decide)

theorem State.openAtDetachment_line {n : LineNo} {p : Party} (ho : (s.reg r).origin = some (.line n p))
    (ha : (s.line n).accepted = .opened) : s.openAtDetachment r = s.release r .callingClear := by
  rw [State.openAtDetachment, ho]
  exact if_pos ha

theorem State.openAtDetachment_trunk {i : TrunkNo} (ho : (s.reg r).origin = some (.trunk i)) (ha : (s.trunk i).accepted = .opened) :
    s.openAtDetachment r = s.setClearTimer i (some 0) := by
  rw [State.openAtDetachment, ho]
  exact if_pos ha

/-- A state with the origin of `r` and the scanner of `s` takes the open of the terminal as `s` shows it. -/
theorem State.openAtDetachment_cases {u : State} (ho : (u.reg r).origin = some o) (hscan : u.scan = s.scan) :
    (s.accepted o.terminal = .closed → u.openAtDetachment r = u) ∧
    (∀ n p, o = .line n p → (s.line n).accepted = .opened → u.openAtDetachment r = u.release r .callingClear) ∧
    ∀ i, o = .trunk i → (s.trunk i).accepted = .opened → u.openAtDetachment r = u.setClearTimer i (some 0) := by
  refine ⟨fun ha => State.openAtDetachment_closed ho ((State.accepted_congr hscan _).trans ha), ?_, ?_⟩
  · rintro n p rfl ha
    exact State.openAtDetachment_line ho ((congrArg LineRec.accepted (State.line_congr hscan n)).trans ha)
  · rintro i rfl ha
    exact State.openAtDetachment_trunk ho ((congrArg TrunkRec.accepted (State.trunk_congr hscan i)).trans ha)

/-! ### An accepted route result -/

/-- The route asks for a ticket (R61). -/
def Route.ticketed (z : Route) : Bool := (z.entry.terms).any fun y => y.2.2

/-- A route result recorded, its reference counted. -/
def State.routed (s : State) (r : RegNo) (t : RouteNo) : State :=
  (s.modReg r fun g => { g with route := some t, walkNode := none, directoryDigits := 0 }).modRefCount t (· + 1)

theorem State.recordRoute_ticketed (h : (s.route t).ticketed = true) : s.recordRoute r t = (s.routed r t).takeReservation r := by
  unfold Route.ticketed at h
  unfold State.recordRoute
  dsimp only
  split
  · rfl
  · next hne =>
    exfalso
    cases he : (s.route t).entry with
    | invalid => simp [he, RouteEntry.terms] at h
    | localCall level zone => simp [he, RouteEntry.terms] at h
    | outgoing level zone ticketed primary alternate digits strip total =>
      simp only [he, RouteEntry.terms, Option.any_some] at h
      subst h
      exact hne _ _ _ _ _ _ _ he

theorem State.recordRoute_plain (h : (s.route t).ticketed = false) : s.recordRoute r t = s.routed r t := by
  unfold Route.ticketed at h
  unfold State.recordRoute
  dsimp only
  split
  · next he => simp [he, RouteEntry.terms] at h
  · rfl

theorem State.routed_reg (s : State) (r q : RegNo) (t : RouteNo) : (s.routed r t).reg q =
    if q = r then { s.reg r with route := some t, walkNode := none, directoryDigits := 0 } else s.reg q :=
  State.modReg_reg _ _ _ _

theorem State.routed_rest (s : State) (r : RegNo) (t : RouteNo) : s.routed r t = { s with
    regs := (s.routed r t).regs, trans := { s.trans with routes := (s.routed r t).trans.routes } } := rfl

theorem State.routed_route (s : State) (r : RegNo) (t v : RouteNo) : (s.routed r t).route v =
    if v = t then { s.route t with refCount := (s.route t).refCount + 1 } else s.route v := by
  exact tget_tmod _ _ _ _

/-! ### A reservation -/

/-- A reservation taken, before TICKETS_HIGH is thought of. -/
def State.reserved (s : State) (r : RegNo) : State := { s.modReg r (fun g => { g with reservation := true }) with
  tickets := { s.tickets with reserved := s.tickets.reserved + 1 } }

theorem State.takeReservation_high (h : s.tickets.stored.length + s.tickets.reserved = 55) :
    s.takeReservation r = (s.reserved r).post .maintenance .ticketsHigh :=
  if_pos (show (s.reserved r).ticketTotal = Config.ticketsHigh from congrArg (· + 1) h)

theorem State.takeReservation_low (h : s.tickets.stored.length + s.tickets.reserved ≠ 55) :
    s.takeReservation r = s.reserved r := if_neg fun he => h (Nat.succ.inj he)

theorem State.takeReservation_rest (s : State) (r : RegNo) : s.takeReservation r = { s with
    regs := (s.reserved r).regs, tickets := { s.tickets with reserved := s.tickets.reserved + 1 }, att := (s.takeReservation r).att } := by
  by_cases h : s.tickets.stored.length + s.tickets.reserved = 55
  · rw [State.takeReservation_high h]
    apply State.eq_of_fields <;> simp [State.reserved]
  · rw [State.takeReservation_low h]
    rfl

theorem State.reserved_reg (s : State) (r q : RegNo) :
    (s.reserved r).reg q = if q = r then { s.reg r with reservation := true } else s.reg q :=
  State.modReg_reg s r q fun g => { g with reservation := true }

theorem State.takeReservation_reg (s : State) (r q : RegNo) :
    (s.takeReservation r).reg q = if q = r then { s.reg r with reservation := true } else s.reg q := by
  rw [← State.reserved_reg]
  exact State.reg_congr (by rw [s.takeReservation_rest r]) q

/-- What recording a route result makes of the state, for a route that asks for a ticket or not (R63, R64, R162). -/
structure Recorded (s : State) (r : RegNo) (t : RouteNo) (ticketed : Bool) (u : State) : Prop where
  own : u.reg r = { s.reg r with
    route := some t, walkNode := none, directoryDigits := 0, reservation := ticketed || (s.reg r).reservation }
  others : ∀ q, q ≠ r → u.reg q = s.reg q
  route : u.route t = { s.route t with refCount := (s.route t).refCount + 1 }
  routes : ∀ v, v ≠ t → u.route v = s.route v
  tickets : u.tickets = { s.tickets with reserved := s.tickets.reserved + ticketed.toNat }
  high : ticketed = true → s.tickets.stored.length + s.tickets.reserved = 55 → u.isPending .maintenance .ticketsHigh = true
  low : ticketed = false ∨ s.tickets.stored.length + s.tickets.reserved ≠ 55 → u.att = s.att
  rest : u = { s with
    regs := u.regs, trans := { s.trans with routes := u.trans.routes }, tickets := u.tickets, att := u.att }

theorem State.routed_recorded (s : State) (r : RegNo) (t : RouteNo) : Recorded s r t false (s.routed r t) where
  own := (s.routed_reg r r t).trans (if_pos rfl)
  others q hq := (s.routed_reg r q t).trans (if_neg hq)
  route := (s.routed_route r t t).trans (if_pos rfl)
  routes v hv := (s.routed_route r t v).trans (if_neg hv)
  tickets := rfl
  high h := by simp at h
  low _ := rfl
  rest := rfl

theorem State.routed_reserved (s : State) (r : RegNo) (t : RouteNo) : Recorded s r t true ((s.routed r t).takeReservation r) where
  own := by
    rw [State.takeReservation_reg, if_pos rfl, State.routed_reg, if_pos rfl]
    rfl
  others q hq := by rw [State.takeReservation_reg, if_neg hq, State.routed_reg, if_neg hq]
  route := by
    rw [State.takeReservation_rest]
    exact (s.routed_route r t t).trans (if_pos rfl)
  routes v hv := by
    rw [State.takeReservation_rest]
    exact (s.routed_route r t v).trans (if_neg hv)
  tickets := by
    rw [State.takeReservation_rest]
    rfl
  high _ h := by
    rw [State.takeReservation_high (s := s.routed r t) h]
    exact State.post_pending _ _ _
  low h := by
    rw [State.takeReservation_low (s := s.routed r t) (h.resolve_left (by simp))]
    rfl
  rest := by
    rw [State.takeReservation_rest]
    rfl

theorem State.recordRoute_recorded (s : State) (r : RegNo) (t : RouteNo) :
    Recorded s r t (s.route t).ticketed (s.recordRoute r t) := by
  cases h : (s.route t).ticketed with
  | false =>
    rw [State.recordRoute_plain h]
    exact s.routed_recorded r t
  | true =>
    rw [State.recordRoute_ticketed h]
    exact s.routed_reserved r t

/-! ### A refused string -/

/-- A register refused by the Translator, before an open loop is taken. -/
def State.refused (s : State) (r : RegNo) (y : Tone) (c : ToneCause) (e : EventKind) : State :=
  (s.enterTone r y c).post (.register r) e

theorem State.refused_rest (s : State) (r : RegNo) (y : Tone) (c : ToneCause) (e : EventKind) : s.refused r y c e = { s with
    regs := (s.refused r y c e).regs, receivers := (s.refused r y c e).receivers, sig := (s.refused r y c e).sig
    att := (s.refused r y c e).att } := by
  apply State.eq_of_fields <;> simp [State.refused]

theorem State.refused_reg (s : State) (r q : RegNo) (y : Tone) (c : ToneCause) (e : EventKind) : (s.refused r y c e).reg q =
    if q = r then { s.reg r with
      state := .tone, tone := some (y, c), timer := some ⟨.tone, 30000⟩, receiver := none, walkNode := none } else s.reg q := by
  rw [State.refused, State.post_reg, State.enterTone_reg]

theorem State.refused_sig (s : State) (r : RegNo) (y : Tone) (c : ToneCause) (e : EventKind) :
    (s.refused r y c e).sig = (s.enterTone r y c).sig := by simp [State.refused]

theorem State.refused_receiver (s : State) (r : RegNo) (y : Tone) (c : ToneCause) (e : EventKind) (k : ReceiverNo) :
    (s.refused r y c e).receiver k = (s.enterTone r y c).receiver k := State.receiver_congr (by simp [State.refused]) k

theorem State.refused_subject (s : State) (y : Tone) (c : ToneCause) (e : EventKind) {j : Subject} (hj : j ≠ .register r) :
    (s.refused r y c e).subject j = s.subject j := by
  rw [State.refused, State.post_subject, if_neg hj]
  exact State.subject_congr (by simp) j

/-- Settles O27. -/
theorem refusalsAndRouteResultsAreRecorded : Obligations.RefusalsAndRouteResultsAreRecorded := by
  refine fun s r => ⟨fun y c e o k a ho hk ha => ?_, fun t => ?_⟩
  · have horigin : ((s.refused r y c e).reg r).origin = some o := by rw [State.refused_reg, if_pos rfl, ho]
    have hscan : (s.refused r y c e).scan = s.scan := by rw [State.refused_rest]
    obtain ⟨hclosed, hline, htrunk⟩ := State.openAtDetachment_cases horigin hscan
    refine ⟨s.refused r y c e, hclosed, hline, htrunk, ?_, fun q hq => ?_, ?_, fun j hj => ?_, ?_, fun z hz => ?_, fun n p hn => ?_,
      State.post_pending _ _ _, fun j hj => State.refused_subject s y c e hj, s.refused_rest r y c e⟩
    · rw [State.refused_reg, if_pos rfl]
    · rw [State.refused_reg, if_neg hq]
    · rw [State.refused_receiver, State.enterTone_receiver y c hk ha, if_pos rfl]
    · rw [State.refused_receiver, State.enterTone_receiver y c hk ha, if_neg hj]
    · rw [State.toneOf_congr (State.refused_sig _ _ _ _ _), State.enterTone_toneOf y c ho, if_pos rfl]
    · rw [State.toneOf_congr (State.refused_sig _ _ _ _ _), State.enterTone_toneOf y c ho, if_neg hz]
    · rw [State.refused_sig]
      exact State.enterTone_dialTone (p := p) y c (by rw [ho, hn])
  · have h := s.recordRoute_recorded r t
    exact ⟨h.own, h.others, h.route, h.routes, h.tickets, h.high, h.low, h.rest⟩

end Sys2Proof.Machine
end

section
/-! SUPPORT. The completion of a digit string (R49, R52, R65 to R67). -/

namespace Sys2Proof.Machine

variable {s : State} {r : RegNo} {o : Origin} {d : Digit} {k : ReceiverNo} {a : Attachment}

/-! ### Completion -/

/-- A completed string, before an open loop is taken. -/
def State.completed (s : State) (r : RegNo) : State :=
  (((s.modReg r fun g => { g with timer := none }).detachReceiver r false).modReg r fun g => { g with state := .translated }).post
    (.register r) .translated

theorem State.completeString_eq (s : State) (r : RegNo) : s.completeString r = (s.completed r).openAtDetachment r := rfl

theorem State.completed_reg (s : State) (r q : RegNo) : (s.completed r).reg q = if q = r then { s.reg r with
    state := .translated, timer := none, receiver := none, walkNode := none } else s.reg q := by
  rw [State.completed, State.post_reg, State.modReg_reg, State.detachReceiver_reg, State.detachReceiver_reg, if_pos rfl,
    State.modReg_reg, State.modReg_reg, if_pos rfl]
  by_cases hq : q = r
  · rw [if_pos hq, if_pos hq]
  · rw [if_neg hq, if_neg hq, if_neg hq, if_neg hq]

theorem State.completed_rest (s : State) (r : RegNo) : s.completed r = { s with
    regs := (s.completed r).regs, receivers := (s.completed r).receivers, sig := (s.completed r).sig, att := (s.completed r).att } := by
  apply State.eq_of_fields <;> simp [State.completed]

theorem State.completed_units (s : State) (r : RegNo) :
    (s.completed r).receivers = ((s.modReg r fun g => { g with timer := none }).detachReceiver r false).receivers ∧
      (s.completed r).sig = ((s.modReg r fun g => { g with timer := none }).detachReceiver r false).sig := by
  simp [State.completed]

/-! ### Digits after a route result -/

theorem State.translate_counted {level : Fin 4} {zone : Zone} (hw : (s.reg r).walkNode = none)
    (he : s.routeEntry r = some (.localCall level zone)) : s.translate r d = s.directoryDigit r := by
  rw [State.translate, hw]
  dsimp only
  rw [he]

theorem State.translate_outgoing {level : Fin 4} {zone : Zone} {ticketed : Bool} {primary : GroupNo} {alternate : Option GroupNo}
    {digits : List Digit} {strip total : Nat} (hw : (s.reg r).walkNode = none)
    (he : s.routeEntry r = some (.outgoing level zone ticketed primary alternate digits strip total)) :
    s.translate r d = if stringComplete total (s.reg r).digits.length then s.completeString r else s := by
  rw [State.translate, hw]
  dsimp only
  rw [he]

theorem State.modReg_congr {f g : CallRegister → CallRegister} (h : f (s.reg r) = g (s.reg r)) : s.modReg r f = s.modReg r g := by
  have hregs : (s.modReg r f).regs = (s.modReg r g).regs := by
    refine table_ext fun q => ?_
    refine (State.modReg_reg s r q f).trans (.trans ?_ (State.modReg_reg s r q g).symm)
    rw [h]
  apply State.eq_of_fields <;> simp [hregs]

theorem State.directoryDigit_early (h : (s.reg r).directoryDigits < 2) :
    s.directoryDigit r = s.modReg r fun g => { g with directoryDigits := g.directoryDigits + 1 } := by
  have hcount : s.modReg r (fun g => { g with directoryDigits := (s.reg r).directoryDigits + 1 }) =
      s.modReg r fun g => { g with directoryDigits := g.directoryDigits + 1 } := State.modReg_congr rfl
  rw [← hcount]
  exact if_pos (Nat.succ_lt_succ h)

theorem directorySlotOf_append (first : List Digit) (d1 d2 d3 : Digit) :
    (directorySlotOf (first ++ [d1, d2, d3])).val = 100 * d1.val + 10 * d2.val + d3.val := by
  simp [directorySlotOf]

/-- The register with its third directory digit counted. -/
def State.counted (s : State) (r : RegNo) : State := s.modReg r fun g => { g with directoryDigits := 3 }

section
variable (h : (s.reg r).directoryDigits = 2)
include h

theorem State.directoryDigit_unmapped (hslot : tget s.trans.directory (directorySlotOf (s.reg r).digits) = none) :
    s.directoryDigit r = (s.counted r).refuseString r .nu .vacant .vacant := by
  rw [State.directoryDigit, h]
  rw [if_neg (by decide), hslot]
  rfl

variable {x : Subscriber} (hslot : tget s.trans.directory (directorySlotOf (s.reg r).digits) = some x)
include hslot

theorem State.directoryDigit_outOfService (hx : (s.line x.line).state = .outOfService) :
    s.directoryDigit r = (s.counted r).refuseString r .nu .vacant .vacant := by
  rw [State.directoryDigit, h]
  rw [if_neg (by decide), hslot]
  exact if_pos hx

theorem State.directoryDigit_mapped (hx : (s.line x.line).state ≠ .outOfService) :
    s.directoryDigit r = ((s.counted r).modReg r fun g => { g with destination := some x }).completeString r := by
  rw [State.directoryDigit, h]
  rw [if_neg (by decide), hslot]
  exact if_neg hx

end

/-- Settles O28. -/
theorem stringsComplete : Obligations.StringsComplete := by
  refine fun s r => ⟨fun o k a ho hk ha => ?_, fun hs ht => congrArg Host.Outcome.next (if_pos ⟨hs, CallRegister.expired_iff.2 ht⟩),
    fun ht => congrArg Host.Outcome.next (if_neg fun h => ht (CallRegister.expired_iff.1 h.2)), fun d level zone hw he => ⟨fun h => ?_,
    fun first d1 d2 d3 slot h hd hslot => ?_⟩, fun d level zone ticketed primary alternate digits strip total hw he => ⟨fun h => ?_, fun h => ?_⟩⟩
  · obtain ⟨hreceivers, hsig⟩ := s.completed_units r
    have hown : ((s.modReg r fun g => { g with timer := none }).reg r).receiver = some k := by rw [State.modReg_reg, if_pos rfl, hk]
    have horigin : ((s.modReg r fun g => { g with timer := none }).reg r).origin = some o := by rw [State.modReg_reg, if_pos rfl, ho]
    have hreceiver (j : ReceiverNo) : (s.completed r).receiver j =
        if j = k then (if a.blockAfterUse then .blocked else .free) else s.receiver j :=
      (State.receiver_congr hreceivers j).trans (State.detachReceiver_receiver false hown ha j)
    have hcompleted : ((s.completed r).reg r).origin = some o := by rw [State.completed_reg, if_pos rfl, ho]
    have hscan : (s.completed r).scan = s.scan := by rw [State.completed_rest]
    obtain ⟨hclosed, hline, htrunk⟩ := State.openAtDetachment_cases hcompleted hscan
    refine ⟨s.completed r, hclosed, hline, htrunk, ?_, fun q hq => ?_, (hreceiver k).trans (if_pos rfl),
      fun j hj => (hreceiver j).trans (if_neg hj), fun n p hn hdial => ?_, State.post_pending _ _ _, fun j hj => ?_, s.completed_rest r⟩
    · rw [State.completed_reg, if_pos rfl]
    · rw [State.completed_reg, if_neg hq]
    · rw [hsig, State.detachReceiver_dialTone (p := p) hown ha (by rw [horigin, hn]) hdial]
    · rw [State.completed, State.post_subject, if_neg hj]
      exact State.subject_congr (by simp) j
  · rw [State.translate_counted hw he, State.directoryDigit_early h]
  · obtain rfl : directorySlotOf (s.reg r).digits = slot := by
      apply Fin.ext
      rw [hd, directorySlotOf_append, hslot]
    rw [State.translate_counted hw he]
    exact ⟨State.directoryDigit_unmapped h, fun x hx => ⟨State.directoryDigit_outOfService h hx, State.directoryDigit_mapped h hx⟩⟩
  · rw [State.translate_outgoing hw he, if_neg]
    intro hc
    have hcomplete := stringComplete_iff.1 hc
    split at h <;> omega
  · rw [State.translate_outgoing hw he, if_pos]
    refine stringComplete_iff.2 ?_
    split at h <;> omega

end Sys2Proof.Machine
end

section
/-! SUPPORT. Promotion and service, one terminal at a time (R3, R31, R32, R41). -/

namespace Sys2Proof.Machine

variable {s : State} {r : RegNo} {k : ReceiverNo} {e : Origin} {rest : List Origin}

/-! ### Promotion -/

theorem State.setWaiting_rest (s : State) (t : Terminal) (d : Bool) (x : Option Nat) :
    s.setWaiting t d x = { s with scan := (s.setWaiting t d x).scan } := by cases t <;> rfl

theorem State.promote_rest (s : State) : s.promote = { s with scan := s.promote.scan } := by
  obtain ⟨e, rest, hd, hq⟩ | hnone := s.promote_cases
  · rw [State.promote_room hd hq, s.setWaiting_rest]
  · rw [State.promote_none hnone]

section
variable (hd : s.scan.deferred = e :: rest) (hq : s.scan.queue.length < Config.queuePlaces)
include hd hq

theorem State.promote_lists : s.promote.scan.queue = joinQueue s.scan.queue e ∧ s.promote.scan.deferred = rest := by
  rw [State.promote_room hd hq]
  exact ⟨rfl, rfl⟩

theorem State.promote_line (m : LineNo) :
    s.promote.line m = (s.setWaiting e.terminal false (s.waitTimer e.terminal)).line m := by
  rw [State.promote_room hd hq]
  rfl

theorem State.promote_trunk (i : TrunkNo) :
    s.promote.trunk i = (s.setWaiting e.terminal false (s.waitTimer e.terminal)).trunk i := by
  rw [State.promote_room hd hq]
  rfl

theorem execDeferredPromotion_room : exec .deferredPromotion s = .next (State.serve 12 s.promote) := by
  refine congrArg Host.Outcome.next (if_pos ?_)
  rw [hd, Bool.and_eq_true]
  exact ⟨rfl, decide_eq_true hq⟩

end

theorem execDeferredPromotion_none (h : s.scan.deferred = [] ∨ Config.queuePlaces ≤ s.scan.queue.length) :
    exec .deferredPromotion s = .next s := by
  refine congrArg Host.Outcome.next (if_neg fun hc => ?_)
  obtain ⟨hd, hq⟩ := Bool.and_eq_true_iff.1 hc
  rcases h with h | h
  · rw [h] at hd
    exact Bool.noConfusion hd
  · exact absurd (of_decide_eq_true hq) (not_lt.2 h)

/-- The promotion of a line. -/
theorem State.setWaiting_line (s : State) (n m : LineNo) :
    (s.setWaiting (.line n) false (s.waitTimer (.line n))).line m = if m = n then { s.line n with state := .waiting } else s.line m :=
  State.modLine_line _ _ _ _

theorem State.setWaiting_trunk (s : State) (i j : TrunkNo) :
    (s.setWaiting (.trunk i) false (s.waitTimer (.trunk i))).trunk j = if j = i then { s.trunk i with state := .waiting } else s.trunk j :=
  State.modTrunk_trunk _ _ _ _

/-! ### Service -/

theorem State.freeRegister_eq (hr : (s.reg r).state = .free) (hl : ∀ q, q < r → (s.reg q).state ≠ .free) : s.freeRegister = some r :=
  tfind_head_eq (decide_eq_true hr) fun q hq => decide_eq_false (hl q hq)

theorem State.freeRegister_none (h : ∀ r, (s.reg r).state ≠ .free) : s.freeRegister = none := by
  rw [State.freeRegister, List.head?_eq_none_iff, List.eq_nil_iff_forall_not_mem]
  exact fun r hr => h r (of_decide_eq_true ((mem_tfind _ _ _).1 hr))

theorem State.freeReceiver_eq (hk : s.receiver k = .free) (hl : ∀ l, l < k → s.receiver l ≠ .free) : s.freeReceiver = some k :=
  tfind_head_eq (decide_eq_true hk) fun l hlt => decide_eq_false (hl l hlt)

theorem State.freeReceiver_none (h : ∀ k, s.receiver k ≠ .free) : s.freeReceiver = none := by
  rw [State.freeReceiver, List.head?_eq_none_iff, List.eq_nil_iff_forall_not_mem]
  exact fun k hk => h k (of_decide_eq_true ((mem_tfind _ _ _).1 hk))

theorem State.freeRegister_free (h : s.freeRegister = some r) : (s.reg r).state = .free :=
  of_decide_eq_true (tfind_head _ _ _ h).1

theorem State.freeReceiver_free (h : s.freeReceiver = some k) : s.receiver k = .free := of_decide_eq_true (tfind_head _ _ _ h).1

/-- Where a condition of service fails the head of the queue stays. -/
theorem State.serveHead_none (h : s.scan.queue = [] ∨ (∀ r, (s.reg r).state ≠ .free) ∨ ∀ k, s.receiver k ≠ .free) : s.serveHead = s := by
  obtain ⟨e, rest, r, k, hq, hr, hk⟩ | hsame := s.serveHead_cases
  · rcases h with h | h | h
    · exact absurd (h.symm.trans hq) (List.cons_ne_nil _ _).symm
    · exact absurd (State.freeRegister_free hr) (h r)
    · exact absurd (State.freeReceiver_free hk) (h k)
  · exact hsame

/-! ### What a service makes of the state -/

@[simp] theorem State.seizeTerminal_reg (s : State) (e : Origin) (r q : RegNo) : (s.seizeTerminal e r).reg q = s.reg q := by
  cases e with
  | line n p => exact (State.sendDialTone_reg _ _ _ _).trans (State.modLine_reg _ _ _ _)
  | trunk i => rfl

@[simp] theorem State.seizeTerminal_receiver (s : State) (e : Origin) (r : RegNo) (k : ReceiverNo) :
    (s.seizeTerminal e r).receiver k = s.receiver k := by
  cases e with
  | line n p => exact State.receiver_congr (by simp [State.seizeTerminal]) k
  | trunk i => rfl

theorem State.served_reg (s : State) (e : Origin) (rest : List Origin) (r q : RegNo) (k : ReceiverNo) :
    (s.served e rest r k).reg q = if q = r then CallRegister.served e s.trans.incomingRoot k else s.reg q := by
  rw [State.served, State.seizeTerminal_reg, State.setReceiver_reg, State.modReg_reg]
  rfl

theorem State.served_receiver (s : State) (e : Origin) (rest : List Origin) (r : RegNo) (k l : ReceiverNo) :
    (s.served e rest r k).receiver l = if l = k then .attached ⟨false, r, .make, 0, 0, !e.isTrunk⟩ else s.receiver l := by
  rw [State.served, State.seizeTerminal_receiver, State.setReceiver_receiver]
  rfl

theorem State.sendDialTone_rest (s : State) (n : LineNo) (on : Bool) : (s.sendDialTone n on).sig = { s.sig with
    lineSignals := (s.sendDialTone n on).sig.lineSignals, sent := (s.sendDialTone n on).sig.sent } := by
  unfold State.sendDialTone
  split <;> rfl

theorem State.sendDialTone_on {n : LineNo} (h : (tget s.sig.lineSignals n).dialTone = false) :
    (s.sendDialTone n true).sig.sent = s.sig.sent ++ [.dialToneOn n] := by
  rw [State.sendDialTone, if_neg (by rw [h]; exact Bool.false_ne_true)]
  rfl

theorem State.served_rest (s : State) (e : Origin) (rest : List Origin) (r : RegNo) (k : ReceiverNo) :
    s.served e rest r k = { s with
      regs := (s.served e rest r k).regs, scan := (s.served e rest r k).scan, receivers := (s.served e rest r k).receivers
      sig := { s.sig with lineSignals := (s.served e rest r k).sig.lineSignals, sent := (s.served e rest r k).sig.sent } } := by
  cases e with
  | line n p =>
    apply State.eq_of_fields <;> simp [State.served, State.seizeTerminal]
    exact State.sendDialTone_rest _ _ _
  | trunk i => rfl

section
variable {n : LineNo} {p : Party}

theorem State.served_line_scan (s : State) (n : LineNo) (p : Party) (rest : List Origin) (r : RegNo) (k : ReceiverNo) :
    (s.served (.line n p) rest r k).scan = { s.scan with
      queue := rest
      lines := tmod s.scan.lines n fun l =>
        { l with state := .originating, register := some r, originParty := some p, waitTimer := none } } := by
  rw [State.served, State.seizeTerminal, (State.sendDialTone_frame _ _ _).2.1]
  rfl

theorem State.served_dialTone (s : State) (n : LineNo) (p : Party) (rest : List Origin) (r : RegNo) (k : ReceiverNo) :
    (tget (s.served (.line n p) rest r k).sig.lineSignals n).dialTone = true := by
  rw [State.served, State.seizeTerminal, State.sendDialTone_signal, if_pos rfl]

theorem State.served_dialToneOn (h : (tget s.sig.lineSignals n).dialTone = false) :
    (s.served (.line n p) rest r k).sig.sent = s.sig.sent ++ [.dialToneOn n] := by
  rw [State.served, State.seizeTerminal]
  exact State.sendDialTone_on h

end

theorem State.served_trunk_scan (s : State) (i : TrunkNo) (rest : List Origin) (r : RegNo) (k : ReceiverNo) :
    (s.served (.trunk i) rest r k).scan = { s.scan with
      queue := rest, trunks := tmod s.scan.trunks i fun z => { z with state := .busy, register := some r, waitTimer := none } } := rfl

theorem State.served_queue (s : State) (e : Origin) (rest : List Origin) (r : RegNo) (k : ReceiverNo) :
    (s.served e rest r k).scan.queue = rest := by
  cases e with
  | line n p => rw [State.served_line_scan]
  | trunk i => rfl

/-- Settles O16. -/
theorem waitingTerminalsAreServedInOrder : Obligations.WaitingTerminalsAreServedInOrder := by
  refine ⟨fun s => ⟨fun e rest hd hq => ⟨execDeferredPromotion_room hd hq, (State.promote_lists hd hq).2, fun n p he => ?_,
    fun i trunks lines he hqueue ht hl => ?_, s.promote_rest, (s.promote_filters).answers⟩, fun h => ⟨execDeferredPromotion_none h,
    State.promote_none h⟩⟩, fun s => ⟨fun e rest r k hqueue hr hlow hk hfree => ⟨s.served e rest r k, ?_, s.served_queue e rest r k, ?_,
    fun q hq => ?_, ?_, fun l hl => ?_, fun n p he => ?_, fun i he => ?_, ?_⟩,
    fun h => congrArg Host.Outcome.next (State.serveHead_none h)⟩⟩
  · obtain ⟨hjoin, -⟩ := State.promote_lists hd hq
    have hline := State.promote_line hd hq
    subst he
    refine ⟨hjoin.trans (joinQueue_line rfl), ?_, fun m hm => ?_, ?_⟩
    · exact (hline n).trans ((s.setWaiting_line n n).trans (if_pos rfl))
    · exact (hline m).trans ((s.setWaiting_line n m).trans (if_neg hm))
    · rw [State.promote_room hd hq]
      rfl
  · obtain ⟨hjoin, -⟩ := State.promote_lists hd hq
    have htrunk := State.promote_trunk hd hq
    subst he
    refine ⟨?_, ?_, fun j hj => ?_, ?_⟩
    · rw [hjoin, hqueue, joinQueue_trunk rfl ht hl]
    · exact (htrunk i).trans ((s.setWaiting_trunk i i).trans (if_pos rfl))
    · exact (htrunk j).trans ((s.setWaiting_trunk i j).trans (if_neg hj))
    · rw [State.promote_room hd hq]
      rfl
  · exact congrArg Host.Outcome.next (State.serveHead_served hqueue (State.freeRegister_eq hr hlow) (State.freeReceiver_eq hk hfree))
  · exact (s.served_reg e rest r r k).trans (if_pos rfl)
  · exact (s.served_reg e rest r q k).trans (if_neg hq)
  · exact (s.served_receiver e rest r k k).trans (if_pos rfl)
  · exact (s.served_receiver e rest r k l).trans (if_neg hl)
  · subst he
    have hscan := s.served_line_scan n p rest r k
    refine ⟨?_, fun m hm => ?_, ?_, s.served_dialTone n p rest r k, State.served_dialToneOn⟩
    · rw [State.line, hscan]
      exact tget_tmod_same _ _ _
    · rw [State.line, hscan]
      exact tget_tmod_of_ne _ _ hm
    · rw [hscan]
  · subst he
    exact ⟨tget_tmod_same _ _ _, fun j hj => tget_tmod_of_ne _ _ hj, rfl, rfl⟩
  · apply State.eq_of_fields <;> simp [State.served]

end Sys2Proof.Machine
end

section
/-! SUPPORT. Service after service (R31, R32): `State.settle`. -/

namespace Sys2Proof.Machine

variable {s : State}

/-- The conditions of service hold (R32). -/
abbrev State.canServe (s : State) : Prop := s.scan.queue ≠ [] ∧ (∃ r, (s.reg r).state = .free) ∧ ∃ k, s.receiver k = .free

theorem State.serveHead_idle (h : ¬s.canServe) : s.serveHead = s := by
  refine State.serveHead_none ?_
  by_contra hc
  push Not at hc
  exact h hc

theorem State.serve_idle (h : ¬s.canServe) (n : Nat) : State.serve n s = s := by
  induction n with
  | zero => rfl
  | succ n ih => rw [State.serve, State.serveHead_idle h, ih]

/-! ### Each service takes a receiver -/

/-- The receivers that are FREE. -/
def State.freeReceivers (s : State) : Finset ReceiverNo := Finset.univ.filter fun k => s.receiver k = .free

theorem State.freeReceiver_isSome (h : ∃ k, s.receiver k = .free) : ∃ k, s.freeReceiver = some k := by
  obtain ⟨k, hk⟩ := h
  cases hf : s.freeReceiver with
  | some l => exact ⟨l, rfl⟩
  | none =>
    have hmem := (mem_tfind (fun _ x => decide (x = Receiver.free)) s.receivers k).2 (decide_eq_true hk)
    rw [List.head?_eq_none_iff.1 hf] at hmem
    cases hmem

theorem State.freeRegister_isSome (h : ∃ r, (s.reg r).state = .free) : ∃ r, s.freeRegister = some r := by
  obtain ⟨r, hr⟩ := h
  cases hf : s.freeRegister with
  | some q => exact ⟨q, rfl⟩
  | none =>
    have hmem := (mem_tfind (fun _ x => decide (x.state = RegState.free)) s.regs r).2 (decide_eq_true hr)
    rw [List.head?_eq_none_iff.1 hf] at hmem
    cases hmem

theorem State.canServe_served (h : s.canServe) :
    ∃ e rest r k, s.freeRegister = some r ∧ s.freeReceiver = some k ∧ s.serveHead = (s.served e rest r k).promote := by
  obtain ⟨hq, hr, hk⟩ := h
  obtain ⟨e, rest, hq⟩ := List.exists_cons_of_ne_nil hq
  obtain ⟨r, hr⟩ := State.freeRegister_isSome hr
  obtain ⟨k, hk⟩ := State.freeReceiver_isSome hk
  exact ⟨e, rest, r, k, hr, hk, State.serveHead_served hq hr hk⟩

theorem State.promote_receiver (s : State) (k : ReceiverNo) : s.promote.receiver k = s.receiver k :=
  State.receiver_congr (by rw [s.promote_rest]) k

theorem State.promote_reg (s : State) (r : RegNo) : s.promote.reg r = s.reg r := State.reg_congr (by rw [s.promote_rest]) r

theorem State.serveHead_freeReceivers (h : s.canServe) : s.serveHead.freeReceivers.card < s.freeReceivers.card := by
  obtain ⟨e, rest, r, k, -, hk, hserve⟩ := State.canServe_served h
  have hfree := State.freeReceiver_free hk
  have hreceiver (l : ReceiverNo) := ((s.served e rest r k).promote_receiver l).trans (s.served_receiver e rest r k l)
  rw [hserve]
  refine Finset.card_lt_card (Finset.ssubset_iff_subset_ne.2 ⟨fun l hl => ?_, fun heq => ?_⟩)
  · simp only [State.freeReceivers, Finset.mem_filter, Finset.mem_univ, true_and, hreceiver] at hl ⊢
    split at hl
    · cases hl
    · exact hl
  · have hmem : k ∈ s.freeReceivers := by simp [State.freeReceivers, hfree]
    rw [← heq] at hmem
    simp [State.freeReceivers, hreceiver] at hmem

/-- Service ends after as many services as there are receivers FREE at most. -/
theorem State.serve_ends (m : Nat) (h : s.freeReceivers.card ≤ m) : ∃ (n : Nat) (v : Nat → State), n ≤ m ∧ v 0 = s ∧
    v n = State.serve m s ∧ ¬(State.serve m s).canServe ∧ ∀ k, k < n → (v k).canServe ∧ (v k).serveHead = v (k + 1) := by
  induction m generalizing s with
  | zero =>
    refine ⟨0, fun _ => s, le_rfl, rfl, rfl, fun hc => ?_, fun k hk => absurd hk (Nat.not_lt_zero k)⟩
    exact absurd (State.serveHead_freeReceivers (s := s) hc) (by omega)
  | succ m ih =>
    by_cases hc : s.canServe
    · have hlt := State.serveHead_freeReceivers hc
      obtain ⟨n, v, hn, hstart, hend, hstop, hstep⟩ := ih (s := s.serveHead) (by omega)
      refine ⟨n + 1, fun k => Nat.casesOn k s v, by omega, rfl, hend, hstop, fun k hk => ?_⟩
      cases k with
      | zero => exact ⟨hc, hstart.symm⟩
      | succ k => exact hstep k (by omega)
    · rw [State.serve_idle hc]
      exact ⟨0, fun _ => s, Nat.zero_le _, rfl, rfl, hc, fun k hk => absurd hk (Nat.not_lt_zero k)⟩

/-! ### What service leaves alone -/

/-- What promotions and services make of the state. -/
structure Settled (s t : State) : Prop where
  regs : ∀ r, (s.reg r).state ≠ .free → t.reg r = s.reg r
  receivers : ∀ k, s.receiver k ≠ .free → t.receiver k = s.receiver k
  rest : t = { s with
    regs := t.regs, scan := { t.scan with answers := s.scan.answers }, receivers := t.receivers
    sig := { s.sig with lineSignals := t.sig.lineSignals, sent := t.sig.sent } }

theorem Settled.refl (s : State) : Settled s s := ⟨fun _ _ => rfl, fun _ _ => rfl, rfl⟩

theorem Settled.trans {s t u : State} (h : Settled s t) (k : Settled t u) : Settled s u where
  regs r hr := by
    have hsame := h.regs r hr
    rw [k.regs r (by rwa [hsame]), hsame]
  receivers j hj := by
    have hsame := h.receivers j hj
    rw [k.receivers j (by rwa [hsame]), hsame]
  rest := by
    refine k.rest.trans ?_
    rw [h.rest]

theorem State.promote_settled (s : State) : Settled s s.promote where
  regs r _ := s.promote_reg r
  receivers k _ := s.promote_receiver k
  rest := by
    have hanswers := s.promote_filters.answers
    refine s.promote_rest.trans ?_
    rw [← hanswers]
    rw [s.promote_rest]

theorem State.served_settled (e : Origin) (rest : List Origin) {r : RegNo} {k : ReceiverNo} (hr : s.freeRegister = some r)
    (hk : s.freeReceiver = some k) : Settled s (s.served e rest r k) where
  regs q hq := (s.served_reg e rest r q k).trans (if_neg fun h => hq (by rw [h]; exact State.freeRegister_free hr))
  receivers l hl := (s.served_receiver e rest r k l).trans (if_neg fun h => hl (by rw [h]; exact State.freeReceiver_free hk))
  rest := by
    have hanswers := (s.served_filters e rest r k).answers
    refine (s.served_rest e rest r k).trans ?_
    rw [← hanswers]

theorem State.serveHead_settled (s : State) : Settled s s.serveHead := by
  obtain ⟨e, rest, r, k, hq, hr, hk⟩ | hsame := s.serveHead_cases
  · rw [State.serveHead_served hq hr hk]
    exact (State.served_settled e rest hr hk).trans (State.promote_settled _)
  · rw [hsame]
    exact .refl s

theorem State.serve_settled (n : Nat) (s : State) : Settled s (State.serve n s) := by
  induction n generalizing s with
  | zero => exact .refl s
  | succ n ih => exact s.serveHead_settled.trans (ih s.serveHead)

theorem State.settle_settled (s : State) : Settled s s.settle := s.promote_settled.trans (State.serve_settled 12 _)

/-- Settles O17. -/
theorem serviceGoesOnWhileItCan : Obligations.ServiceGoesOnWhileItCan := by
  intro s
  have hcard : s.promote.freeReceivers.card ≤ 12 := (Finset.card_le_univ _).trans (le_of_eq (Fintype.card_fin 12))
  obtain ⟨n, v, hn, hstart, hend, hstop, hstep⟩ := State.serve_ends 12 hcard
  have hsettled := s.settle_settled
  refine ⟨⟨n, v, hn, hstart, hend, hstop, fun k hk => ?_⟩, hsettled.regs, hsettled.receivers, fun hnone hc => ?_, hsettled.rest⟩
  · obtain ⟨hserve, hnext⟩ := hstep k hk
    exact ⟨hserve, congrArg Host.Outcome.next hnext⟩
  · show State.serve 12 s.promote = s
    rw [State.promote_none hnone, State.serve_idle hc]

end Sys2Proof.Machine
end

section
/-! SUPPORT. The wait timer, Write Line and Remove Line (R25, R26, R34, R35). -/

namespace Sys2Proof.Machine

variable {s : State} {t : Terminal} {n : LineNo} {i : TrunkNo}

/-! ### The wait timer -/

theorem State.awaitsService_iff : s.awaitsService t = true ↔ s.waits t ∨ s.isDeferred t := by
  cases t <;> simp [State.awaitsService, State.waits, State.isDeferred]

theorem State.waitExpiry_due (h : s.waits t ∨ s.isDeferred t) (ht : s.waitTimer t = some 0) :
    s.waitExpiry t = ((s.leaveQueue t).toLockout t).settle := if_pos ⟨State.awaitsService_iff.2 h, ht⟩

theorem State.leaveQueue_rest (s : State) (t : Terminal) : s.leaveQueue t = { s with scan := { s.scan with
    queue := s.scan.queue.filter fun e => e.terminal ≠ t, deferred := s.scan.deferred.filter fun e => e.terminal ≠ t } } := rfl

/-- Settles O19. -/
theorem waitExpiryLocksOut : Obligations.WaitExpiryLocksOut := by
  refine fun s t => ⟨fun h ht => ⟨(s.leaveQueue t).toLockout t, congrArg Host.Outcome.next (State.waitExpiry_due h ht), ?_, ?_,
    fun n hn => ?_, fun i hi => ?_, ?_, fun j hj => State.toLockout_subject (s.leaveQueue t) t hj, ?_⟩, fun h => ?_⟩
  · rw [State.toLockout_scan]
    cases t <;> rfl
  · rw [State.toLockout_scan]
    cases t <;> rfl
  · subst hn
    have hline (m : LineNo) : ((s.leaveQueue (.line n)).toLockout (.line n)).line m =
        if m = n then (s.line n).outOfCall .lockout else s.line m :=
      (State.line_congr (State.toLockout_scan _ _) m).trans (State.modLine_line (s.leaveQueue (.line n)) n m _)
    exact ⟨(hline n).trans (if_pos rfl), fun m hm => (hline m).trans (if_neg hm)⟩
  · subst hi
    have htrunk (j : TrunkNo) : ((s.leaveQueue (.trunk i)).toLockout (.trunk i)).trunk j =
        if j = i then (s.trunk i).outOfCall .lockout else s.trunk j :=
      (State.trunk_congr (State.toLockout_scan _ _) j).trans (State.modTrunk_trunk (s.leaveQueue (.trunk i)) i j _)
    exact ⟨(htrunk i).trans (if_pos rfl), fun j hj => (htrunk j).trans (if_neg hj)⟩
  · rw [State.toLockout_isPending]
    simp
  · apply State.eq_of_fields <;> simp
  · refine congrArg Host.Outcome.next (if_neg ?_)
    rintro ⟨hwaits, ht⟩
    exact h.elim (· (State.awaitsService_iff.1 hwaits)) (· ht)

/-! ### The operands of Write Line and Remove Line -/

theorem classOperand_code {b : Byte} (c : LineClass) (h : b.toNat = c.code) : classOperand b = some c := by
  rw [classOperand, h]
  cases c <;> rfl

theorem classOperand_some {b : Byte} (h : b.toNat ≤ 4) : ∃ c, classOperand b = some c := by
  have hcode : b.toNat = 0 ∨ b.toNat = 1 ∨ b.toNat = 2 ∨ b.toNat = 3 ∨ b.toNat = 4 := by omega
  rcases hcode with h | h | h | h | h
  · exact ⟨_, classOperand_code .ordinary h⟩
  · exact ⟨_, classOperand_code .twoParty h⟩
  · exact ⟨_, classOperand_code .coin h⟩
  · exact ⟨_, classOperand_code .restricted h⟩
  · exact ⟨_, classOperand_code .service h⟩

theorem classOperand_none {b : Byte} (h : 5 ≤ b.toNat) : classOperand b = none := by
  unfold classOperand
  split
  · omega
  · omega
  · omega
  · omega
  · omega
  · rfl

theorem terminalOperand_line {number : Half} (h : number.toNat = n.val) : terminalOperand 0 number = some (.line n) :=
  congrArg (Option.map Terminal.line) (numbered_eq_some_iff.2 h)

theorem terminalOperand_trunk {number : Half} (h : number.toNat = i.val) : terminalOperand 1 number = some (.trunk i) :=
  congrArg (Option.map Terminal.trunk) (numbered_eq_some_iff.2 h)

theorem terminalOperand_none {kind : Byte} {number : Half}
    (h : 2 ≤ kind.toNat ∨ (kind = 0 ∧ 512 ≤ number.toNat) ∨ (kind = 1 ∧ 16 ≤ number.toNat)) : terminalOperand kind number = none := by
  rcases h with h | ⟨rfl, h⟩ | ⟨rfl, h⟩
  · unfold terminalOperand
    split
    · omega
    · omega
    · rfl
  · exact congrArg (Option.map Terminal.line) (numbered_none h)
  · exact congrArg (Option.map Terminal.trunk) (numbered_none h)

/-- The change of class that R34 refuses. -/
theorem State.classLocked_iff {c : LineClass} : s.classLocked n c = true ↔
    (s.line n).cls = .twoParty ∧ c ≠ .twoParty ∧ ∃ d, tget s.trans.directory d = some ⟨n, .b⟩ := by
  rw [State.classLocked, State.inDirectory, Bool.and_eq_true, Bool.and_eq_true, Bool.not_eq_true', Bool.not_eq_true',
    tfind_isEmpty_eq_false_iff]
  simp [and_assoc]

/-! ### Write Line -/

section
variable {kind cls : Byte} {number : Half} {x : Side} {c : LineClass}

section
variable (ht : terminalOperand kind number = some (.line n)) (hc : classOperand cls = some c)
include ht hc

theorem writeLine_locked (hs : (s.line n).state ∈ [.outOfService, .idle, .lockout]) (hl : s.classLocked n c = true) :
    writeLine kind number cls x s = refuse s .inUse := by
  simp only [List.mem_cons, List.not_mem_nil, or_false] at hs
  rcases hs with hs | hs | hs <;> simp only [writeLine, ht, hc, hs] <;> exact if_pos hl

theorem writeLine_outOfService (hs : (s.line n).state = .outOfService) (hl : s.classLocked n c = false) :
    writeLine kind number cls x s = doneWith ((s.modLine n fun l => { l with cls := c }).leaveCall (.line n)) := by
  simp only [writeLine, ht, hc, hs]
  exact if_neg (Bool.eq_false_iff.1 hl)

theorem writeLine_inService (hs : (s.line n).state = .idle ∨ (s.line n).state = .lockout) (hl : s.classLocked n c = false) :
    writeLine kind number cls x s = doneWith (s.modLine n fun l => { l with cls := c }) := by
  rcases hs with hs | hs <;> simp only [writeLine, ht, hc, hs] <;> exact if_neg (Bool.eq_false_iff.1 hl)

theorem writeLine_inUse (hs : (s.line n).state ∉ [.outOfService, .idle, .lockout]) :
    writeLine kind number cls x s = refuse s .inUse := by
  simp only [writeLine, ht, hc]
  cases hstate : (s.line n).state <;> simp_all

end

section
variable (ht : terminalOperand kind number = some (.trunk i)) (hc : classOperand cls = some c)
include ht hc

theorem writeLine_trunk_outOfService (hs : (s.trunk i).state = .outOfService) :
    writeLine kind number cls x s = doneWith (s.leaveCall (.trunk i)) := by
  simp only [writeLine, ht, hc, hs]
  rfl

theorem writeLine_trunk_inService (hs : (s.trunk i).state = .idle ∨ (s.trunk i).state = .lockout) :
    writeLine kind number cls x s = doneWith s := by
  rcases hs with hs | hs <;> simp only [writeLine, ht, hc, hs]

theorem writeLine_trunk_inUse (hs : (s.trunk i).state ∈ [.waiting, .deferred, .busy]) :
    writeLine kind number cls x s = refuse s .inUse := by
  simp only [List.mem_cons, List.not_mem_nil, or_false] at hs
  rcases hs with hs | hs | hs <;> simp only [writeLine, ht, hc, hs]

end

theorem writeLine_badOperand (h : terminalOperand kind number = none ∨ classOperand cls = none) :
    writeLine kind number cls x s = refuse s .badOperand := by
  unfold writeLine
  split
  · next ht hc => simp [ht, hc] at h
  · next ht hc => simp [ht, hc] at h
  · rfl

/-! ### Remove Line -/

/-- A terminal removed: out of the queue and the set where it waits, and OUT_OF_SERVICE. -/
def State.removed (s : State) (t : Terminal) : State := (if s.awaitsService t then s.leaveQueue t else s).takeOut t

theorem removeLine_badOperand (h : terminalOperand kind number = none) : removeLine kind number x s = refuse s .badOperand := by
  rw [removeLine, h]

theorem removeLine_outOfService (ht : terminalOperand kind number = some (.line n)) (hs : (s.line n).state = .outOfService) :
    removeLine kind number x s = doneWith s := by simp only [removeLine, ht, hs]

theorem removeLine_line (ht : terminalOperand kind number = some (.line n))
    (hs : (s.line n).state ∈ [.idle, .lockout, .waiting, .deferred]) : removeLine kind number x s =
      doneWith (if (s.line n).state = .waiting then (s.removed (.line n)).settle else s.removed (.line n)) := by
  simp only [List.mem_cons, List.not_mem_nil, or_false] at hs
  rcases hs with hs | hs | hs | hs <;> simp only [removeLine, ht, hs] <;>
    simp [State.removed, State.awaitsService, hs]

theorem removeLine_inUse (ht : terminalOperand kind number = some (.line n))
    (hs : (s.line n).state ∈ [.originating, .termReserved, .termRinging, .termBusy]) :
    removeLine kind number x s = refuse s .inUse := by
  simp only [List.mem_cons, List.not_mem_nil, or_false] at hs
  rcases hs with hs | hs | hs | hs <;> simp only [removeLine, ht, hs]

theorem removeLine_trunk_outOfService (ht : terminalOperand kind number = some (.trunk i)) (hs : (s.trunk i).state = .outOfService) :
    removeLine kind number x s = doneWith s := by simp only [removeLine, ht, hs]

theorem removeLine_trunk (ht : terminalOperand kind number = some (.trunk i))
    (hs : (s.trunk i).state ∈ [.idle, .lockout, .waiting, .deferred]) : removeLine kind number x s =
      doneWith (if (s.trunk i).state = .waiting then (s.removed (.trunk i)).settle else s.removed (.trunk i)) := by
  simp only [List.mem_cons, List.not_mem_nil, or_false] at hs
  rcases hs with hs | hs | hs | hs <;> simp only [removeLine, ht, hs] <;>
    simp [State.removed, State.awaitsService, hs]

theorem removeLine_trunk_inUse (ht : terminalOperand kind number = some (.trunk i)) (hs : (s.trunk i).state = .busy) :
    removeLine kind number x s = refuse s .inUse := by simp only [removeLine, ht, hs]

end

theorem State.removed_rest (s : State) (t : Terminal) : s.removed t = { s with scan := (s.removed t).scan } := by
  unfold State.removed
  split <;> cases t <;> rfl

theorem State.removed_line (s : State) (n m : LineNo) :
    (s.removed (.line n)).line m = if m = n then (s.line n).outOfCall .outOfService else s.line m := by
  unfold State.removed
  split
  · exact State.modLine_line (s.leaveQueue (.line n)) n m _
  · exact State.modLine_line s n m _

theorem State.removed_trunk (s : State) (i j : TrunkNo) :
    (s.removed (.trunk i)).trunk j = if j = i then (s.trunk i).outOfCall .outOfService else s.trunk j := by
  unfold State.removed
  split
  · exact State.modTrunk_trunk (s.leaveQueue (.trunk i)) i j _
  · exact State.modTrunk_trunk s i j _

theorem State.removed_lists (s : State) (t : Terminal) :
    (s.removed t).scan.queue = (if s.awaitsService t then s.scan.queue.filter fun e => e.terminal ≠ t else s.scan.queue) ∧
    (s.removed t).scan.deferred = (if s.awaitsService t then s.scan.deferred.filter fun e => e.terminal ≠ t else s.scan.deferred) ∧
    (s.removed t).scan.answers = s.scan.answers := by
  unfold State.removed
  split <;> cases t <;> exact ⟨rfl, rfl, rfl⟩

theorem State.removed_other (s : State) :
    (∀ n, (s.removed (.line n)).scan.trunks = s.scan.trunks) ∧ ∀ i, (s.removed (.trunk i)).scan.lines = s.scan.lines := by
  refine ⟨fun n => ?_, fun i => ?_⟩
  · unfold State.removed
    split <;> rfl
  · unfold State.removed
    split <;> rfl

/-- A line put into service with a class. -/
def State.installed (s : State) (n : LineNo) (c : LineClass) : State := (s.modLine n fun l => { l with cls := c }).leaveCall (.line n)

theorem State.installed_line (s : State) (n m : LineNo) (c : LineClass) : (s.installed n c).line m = if m = n then
    { (s.line n).outOfCall (Loop.restLine (s.line n).accepted) with cls := c } else s.line m := by
  rw [State.installed, State.leaveCall_line_line, State.modLine_line, State.modLine_line, if_pos rfl]
  by_cases hm : m = n
  · rw [if_pos hm, if_pos hm]
    rfl
  · rw [if_neg hm, if_neg hm, if_neg hm]

theorem State.installed_rest (s : State) (n : LineNo) (c : LineClass) : s.installed n c = { s with
    scan := { s.scan with lines := (s.installed n c).scan.lines }, att := (s.installed n c).att } := by
  apply State.eq_of_fields <;> simp [State.installed, State.leaveCall_line_scan, State.modLine_scan]

/-- Settles O18. -/
theorem linesArePutInAndOutOfService : Obligations.LinesArePutInAndOutOfService := by
  refine fun x s => ⟨fun n number c cls hn hc => ?_, fun i number cls hi hc => ?_, fun kind number cls => ⟨fun hc => ?_, fun h => ?_⟩⟩
  · have ht := terminalOperand_line hn
    have hcls := classOperand_code c hc
    have hawaits : s.awaitsService (.line n) = true ↔ (s.line n).state = .waiting ∨ (s.line n).state = .deferred := by
      simp [State.awaitsService]
    refine ⟨fun hs hl => ?_, fun hs hl => ⟨s.installed n c, ?_, ?_, fun m hm => ?_, s.installed_rest n c, fun ha => ?_, fun ha => ?_⟩,
      fun hs hl => ⟨s.modLine n fun l => { l with cls := c }, ?_, ?_, fun m hm => ?_, rfl⟩, fun hs => ?_, fun hs => ?_,
      fun hs => ⟨s.removed (.line n), ?_, ?_, fun m hm => ?_, ?_, ?_, ?_, ?_, s.removed_rest _⟩, fun hs => ?_⟩
    · exact State.runs_of_body rfl (writeLine_locked ht hcls hs (State.classLocked_iff.2 hl))
    · exact State.runs_of_doneWith rfl (writeLine_outOfService ht hcls hs (Bool.eq_false_iff.2 fun h => hl (State.classLocked_iff.1 h)))
    · exact (s.installed_line n n c).trans (if_pos rfl)
    · exact (s.installed_line n m c).trans (if_neg hm)
    · refine State.leaveCall_lockout ?_
      rw [State.accepted, State.modLine_line, if_pos rfl, ha]
    · rw [State.installed, State.leaveCall_att_opened]
      · simp
      · rw [State.accepted, State.modLine_line, if_pos rfl, ha]
    · exact State.runs_of_doneWith rfl (writeLine_inService ht hcls hs (Bool.eq_false_iff.2 fun h => hl (State.classLocked_iff.1 h)))
    · exact (State.modLine_line _ _ _ _).trans (if_pos rfl)
    · exact (State.modLine_line _ _ _ _).trans (if_neg hm)
    · exact State.runs_of_body rfl (writeLine_inUse ht hcls hs)
    · exact State.runs_of_doneWith rfl (removeLine_outOfService ht hs)
    · exact State.runs_of_doneWith rfl (removeLine_line ht hs)
    · exact (s.removed_line n n).trans (if_pos rfl)
    · exact (s.removed_line n m).trans (if_neg hm)
    · exact (s.removed_lists _).1.trans (if_congr hawaits rfl rfl)
    · exact (s.removed_lists _).2.1.trans (if_congr hawaits rfl rfl)
    · exact s.removed_other.1 n
    · exact (s.removed_lists _).2.2
    · exact State.runs_of_body rfl (removeLine_inUse ht hs)
  · have ht := terminalOperand_trunk hi
    obtain ⟨c, hcls⟩ := classOperand_some hc
    have hawaits : s.awaitsService (.trunk i) = true ↔ (s.trunk i).state = .waiting ∨ (s.trunk i).state = .deferred := by
      simp [State.awaitsService]
    refine ⟨fun hs => ⟨s.leaveCall (.trunk i), ?_, ?_, fun ha => ?_⟩, fun hs => ?_, fun hs => ?_,
      fun hs => ⟨s.removed (.trunk i), ?_, ?_, fun j hj => ?_, ?_, ?_, ?_, ?_, s.removed_rest _⟩, fun hs => ?_, fun hs => ?_⟩
    · exact State.runs_of_doneWith rfl (writeLine_trunk_outOfService ht hcls hs)
    · exact (s.leaveCall_trunk_trunk i i).trans (if_pos rfl)
    · exact State.leaveCall_lockout ha
    · exact State.runs_of_doneWith rfl (removeLine_trunk_outOfService ht hs)
    · exact State.runs_of_doneWith rfl (writeLine_trunk_inService ht hcls hs)
    · exact State.runs_of_doneWith rfl (removeLine_trunk ht hs)
    · exact (s.removed_trunk i i).trans (if_pos rfl)
    · exact (s.removed_trunk i j).trans (if_neg hj)
    · exact (s.removed_lists _).1.trans (if_congr hawaits rfl rfl)
    · exact (s.removed_lists _).2.1.trans (if_congr hawaits rfl rfl)
    · exact s.removed_other.2 i
    · exact (s.removed_lists _).2.2
    · exact State.runs_of_body rfl (writeLine_trunk_inUse ht hcls hs)
    · exact State.runs_of_body rfl (removeLine_trunk_inUse ht hs)
  · exact State.runs_of_body rfl (writeLine_badOperand (.inr (classOperand_none hc)))
  · exact ⟨State.runs_of_body rfl (writeLine_badOperand (.inl (terminalOperand_none h))),
      State.runs_of_body rfl (removeLine_badOperand (terminalOperand_none h))⟩

end Sys2Proof.Machine
end

section
/-! SUPPORT. Accepted changes by state (R22 to R29, R122 to R126). -/

namespace Sys2Proof.Machine

variable {s : State} {n : LineNo} {i : TrunkNo} {r : RegNo} {k : ReceiverNo} {t : Terminal}

/-! ### Origination -/

theorem State.originate_rest (s : State) (t : Terminal) : s.originate t = { s with scan := (s.originate t).scan } := by
  cases t <;> rfl

theorem State.originate_line (s : State) (n m : LineNo) : (s.originate (.line n)).line m = if m = n then { s.line n with
    state := if !decide (s.scan.queue.length < 32) then .deferred else .waiting, waitTimer := some 60000 } else s.line m :=
  State.modLine_line s n m _

theorem State.originate_trunk (s : State) (i j : TrunkNo) : (s.originate (.trunk i)).trunk j = if j = i then { s.trunk i with
    state := if !decide (s.scan.queue.length < 32) then .deferred else .waiting, waitTimer := some 60000 } else s.trunk j :=
  State.modTrunk_trunk s i j _

theorem mem_joinDeferred {d : List Origin} {e x : Origin} : x ∈ joinDeferred d e ↔ x = e ∨ x ∈ d := by
  rw [(joinDeferred_perm d e).mem_iff, List.mem_cons]

theorem State.lineChange_idle (h : (s.line n).state = .idle) : s.lineChange n .closed = s.originate (.line n) := by
  simp only [State.lineChange, h]

theorem State.trunkChange_idle (h : (s.trunk i).state = .idle) : s.trunkChange i .closed = s.originate (.trunk i) := by
  simp only [State.trunkChange, h]

/-- The party of an origination by the held GROUND samples (R22). -/
theorem LineRec.originationParty_eq (l : LineRec) : l.originationParty =
    if l.cls = .twoParty ∧ 2 ≤ ([l.grounds.oldest, l.grounds.middle, l.grounds.newest].count true) then .b else .a := by
  have hcount : [l.grounds.oldest, l.grounds.middle, l.grounds.newest].count true =
      l.grounds.oldest.toNat + l.grounds.middle.toNat + l.grounds.newest.toNat := by
    cases l.grounds.oldest <;> cases l.grounds.middle <;> cases l.grounds.newest <;> rfl
  rw [hcount]
  rfl

/-- An origination by a line, in the queue or in the set (R23, R30). -/
theorem State.originate_line_lists (s : State) (n : LineNo) :
    (s.scan.queue.length < 32 → (s.originate (.line n)).scan.queue = s.scan.queue ++ [.line n (s.line n).originationParty] ∧
      (s.originate (.line n)).scan.deferred = s.scan.deferred) ∧
    (32 ≤ s.scan.queue.length → (s.originate (.line n)).scan.queue = s.scan.queue ∧
      (s.originate (.line n)).scan.deferred = joinDeferred s.scan.deferred (.line n (s.line n).originationParty)) := by
  refine ⟨fun hq => ?_, fun hq => ?_⟩
  · rw [State.originate_room _ hq]
    exact ⟨joinQueue_line (e := .line n (s.line n).originationParty) rfl, rfl⟩
  · rw [State.originate_full _ (not_lt.2 hq)]
    exact ⟨rfl, rfl⟩

/-- An origination by an incoming trunk terminal. -/
theorem State.originate_trunk_lists (s : State) (i : TrunkNo) :
    (s.scan.queue.length < 32 → (s.originate (.trunk i)).scan.queue = joinQueue s.scan.queue (.trunk i) ∧
      (s.originate (.trunk i)).scan.deferred = s.scan.deferred) ∧
    (32 ≤ s.scan.queue.length → (s.originate (.trunk i)).scan.queue = s.scan.queue ∧
      (s.originate (.trunk i)).scan.deferred = joinDeferred s.scan.deferred (.trunk i)) := by
  refine ⟨fun hq => ?_, fun hq => ?_⟩
  · rw [State.originate_room _ hq]
    exact ⟨rfl, rfl⟩
  · rw [State.originate_full _ (not_lt.2 hq)]
    exact ⟨rfl, rfl⟩

/-! ### A line -/

theorem State.lineChange_waiting (h : (s.line n).state = .waiting ∨ (s.line n).state = .deferred) (ha : (s.line n).accepted = .opened) :
    s.lineChange n .opened = (s.leaveQueue (.line n)).idled (.line n) := by
  have hopened : (s.leaveQueue (.line n)).accepted (.line n) = .opened := ha
  rw [← State.toIdle_opened hopened]
  rcases h with h | h <;> simp only [State.lineChange, h]

theorem State.lineChange_lockout (h : (s.line n).state = .lockout) (ha : (s.line n).accepted = .opened) :
    s.lineChange n .opened = s.modLine n fun l => l.outOfCall .idle := by
  simp only [State.lineChange, h]
  exact State.toIdle_opened (t := .line n) ha

theorem State.lineChange_termReserved (h : (s.line n).state = .termReserved) (x : Loop) :
    s.lineChange n x = s.modLine n fun l => { l with earlyOffHook := some (decide (x = .closed)) } := by
  simp only [State.lineChange, h]

theorem State.lineChange_outOfService (h : (s.line n).state = .outOfService) (x : Loop) : s.lineChange n x = s := by
  simp only [State.lineChange, h]

section
variable (hr : (s.line n).register = some r)
include hr

theorem State.lineChange_originating (h : (s.line n).state = .originating) (x : Loop) :
    s.lineChange n x = s.callingLineChange r x := by simp only [State.lineChange, h, hr]

theorem State.lineChange_termRinging (h : (s.line n).state = .termRinging) : s.lineChange n .closed = s.answerCall r := by
  simp only [State.lineChange, h, hr]

theorem State.lineChange_termBusy (h : (s.line n).state = .termBusy) (x : Loop) : s.lineChange n x = s.calledLineChange r x := by
  simp only [State.lineChange, h, hr]

end

/-! ### An incoming trunk terminal -/

theorem State.trunkChange_waiting (h : (s.trunk i).state = .waiting ∨ (s.trunk i).state = .deferred)
    (ha : (s.trunk i).accepted = .opened) : s.trunkChange i .opened = (s.leaveQueue (.trunk i)).idled (.trunk i) := by
  have hopened : (s.leaveQueue (.trunk i)).accepted (.trunk i) = .opened := ha
  rw [← State.toIdle_opened hopened]
  rcases h with h | h <;> simp only [State.trunkChange, h]

theorem State.trunkChange_lockout (h : (s.trunk i).state = .lockout) (ha : (s.trunk i).accepted = .opened) :
    s.trunkChange i .opened = (s.modTrunk i fun k => k.outOfCall .idle).setClearTimer i none := by
  simp only [State.trunkChange, h]
  exact State.toIdle_opened (t := .trunk i) ha

theorem State.trunkChange_outOfService (h : (s.trunk i).state = .outOfService) (x : Loop) : s.trunkChange i x = s := by
  simp only [State.trunkChange, h]

theorem State.trunkChange_busy (h : (s.trunk i).state = .busy) (hr : (s.trunk i).register = some r) (x : Loop) :
    s.trunkChange i x = s.busyTrunkChange i r x := by simp only [State.trunkChange, h, hr]

/-! ### The call behind the terminal -/

theorem State.toReceiver_eq (hk : (s.reg r).receiver = some k) : s.toReceiver r .opened = s.beginBreak k ∧
    s.toReceiver r .closed = s.endBreak k := by simp only [State.toReceiver, hk, and_self]

theorem State.trunkRegister_eq {o : OutNo} (h : (s.reg r).path.middle = some (outElem o))
    (hu : ∀ q, q ≠ r → (s.reg q).path.middle ≠ some (outElem o)) : s.trunkRegister o = some r :=
  tfind_head_eq (decide_eq_true h) fun q hq => decide_eq_false (hu q (ne_of_lt hq))

theorem State.trunkAnswerChange_idle {o : OutNo} (ho : s.trunkRegister o = some r)
    (h : (s.reg r).state ∉ [.sending, .awaitAnswer, .talk]) (x : Bool) : s.trunkAnswerChange o x = s := by
  rw [State.trunkAnswerChange, ho]
  simp only [List.mem_cons, List.not_mem_nil, or_false, not_or] at h
  obtain ⟨hsending, hawait, htalk⟩ := h
  dsimp only
  split
  · next hs => exact absurd hs hsending
  · next hs => exact absurd hs hawait
  · next hs => exact absurd hs htalk
  · rfl

/-- A called clear (R125). -/
theorem State.calledLineChange_opened (s : State) (r : RegNo) :
    let u := s.calledLineChange r .opened
    u.reg r = { s.reg r with timer := some ⟨.calledRelease, 60000⟩ } ∧ (∀ q, q ≠ r → u.reg q = s.reg q) ∧
      u.isPending (.register r) .calledClear = true ∧ u = { s with regs := u.regs, att := u.att } := by
  have hreg (q : RegNo) : (s.calledLineChange r .opened).reg q =
      if q = r then { s.reg r with timer := some ⟨.calledRelease, 60000⟩ } else s.reg q := by
    refine (State.modReg_reg _ _ _ _).trans ?_
    rw [State.post_reg, State.post_reg]
    rfl
  refine ⟨(hreg r).trans (if_pos rfl), fun q hq => (hreg q).trans (if_neg hq), State.post_pending s _ _, ?_⟩
  apply State.eq_of_fields <;> simp [State.calledLineChange]

theorem State.calledLineChange_closed {z : Nat} (h : (s.reg r).timer = some ⟨.calledRelease, z⟩) :
    s.calledLineChange r .closed = s.modReg r fun g => { g with timer := none } :=
  State.modReg_congr (by rw [h]; rfl)

/-- Settles O22. -/
theorem acceptedChangesByState : Obligations.AcceptedChangesByState := by
  refine ⟨fun s => ⟨fun n hs => ?_, fun i hs => ?_⟩, fun s => ⟨fun n => ?_, fun i => ?_, fun i r hs hr => ?_, fun o r ho hu => ?_⟩⟩
  · obtain ⟨hroom, hfull⟩ := s.originate_line_lists n
    rw [State.lineChange_idle hs]
    dsimp only
    rw [← LineRec.originationParty_eq]
    refine ⟨fun hq => ⟨?_, hroom hq⟩, fun hq => ⟨?_, (hfull hq).1, fun e => ?_⟩, fun m hm => ?_, ?_, ?_, s.originate_rest _⟩
    · rw [State.originate_line, if_pos rfl, decide_eq_true hq]
      rfl
    · rw [State.originate_line, if_pos rfl, decide_eq_false (not_lt.2 hq)]
      rfl
    · rw [(hfull hq).2, mem_joinDeferred]
    · rw [State.originate_line, if_neg hm]
    · rfl
    · rfl
  · obtain ⟨hroom, hfull⟩ := s.originate_trunk_lists i
    rw [State.trunkChange_idle hs]
    refine ⟨fun trunks lines hq hqueue ht hl => ⟨?_, ?_, (hroom hq).2⟩, fun hq => ⟨?_, (hfull hq).1, fun e => ?_⟩, fun j hj => ?_, ?_, ?_,
      s.originate_rest _⟩
    · rw [State.originate_trunk, if_pos rfl, decide_eq_true hq]
      rfl
    · rw [(hroom hq).1, hqueue, joinQueue_trunk rfl ht hl]
    · rw [State.originate_trunk, if_pos rfl, decide_eq_false (not_lt.2 hq)]
      rfl
    · rw [(hfull hq).2, mem_joinDeferred]
    · rw [State.originate_trunk, if_neg hj]
    · rfl
    · rfl
  · refine ⟨fun hs ha => ?_, State.lineChange_lockout, fun hs => ⟨State.lineChange_termReserved hs _, State.lineChange_termReserved hs _⟩,
      State.lineChange_outOfService, fun r hr => ⟨fun hs hd => ?_, fun k hs hd hk => ?_, State.lineChange_termRinging hr, fun hs => ?_⟩⟩
    · rw [State.lineChange_waiting hs ha]
      exact ⟨tget_tmod_same _ _ _, rfl, rfl, rfl⟩
    · rw [State.lineChange_originating hr hs]
      exact if_neg hd
    · rw [State.lineChange_originating hr hs, State.lineChange_originating hr hs]
      exact ⟨(if_pos hd).trans (State.toReceiver_eq hk).1, (if_pos hd).trans (State.toReceiver_eq hk).2⟩
    · rw [State.lineChange_termBusy hr hs, State.lineChange_termBusy hr hs]
      obtain ⟨hown, hothers, hpending, hrest⟩ := s.calledLineChange_opened r
      exact ⟨hown, hothers, hpending, hrest, fun z hz => State.calledLineChange_closed hz⟩
  · refine ⟨fun hs ha => ?_, State.trunkChange_lockout, State.trunkChange_outOfService⟩
    rw [State.trunkChange_waiting hs ha]
    exact ⟨tget_tmod_same _ _ _, rfl, rfl, rfl⟩
  · rw [State.trunkChange_busy hs hr, State.trunkChange_busy hs hr]
    exact ⟨fun hd => ⟨if_neg hd, if_neg hd⟩,
      fun k hd hk => ⟨(if_pos hd).trans (State.toReceiver_eq hk).1, (if_pos hd).trans (State.toReceiver_eq hk).2⟩⟩
  · have hregister := State.trunkRegister_eq ho hu
    refine ⟨fun hs => ?_, fun hs => ?_, fun hs x => State.trunkAnswerChange_idle hregister hs x⟩
    · rw [State.trunkAnswerChange, hregister]
      rcases hs with hs | hs <;> simp only [hs]
    · rw [State.trunkAnswerChange, hregister]
      simp only [hs]

end Sys2Proof.Machine
end

section
/-! SUPPORT. The advance and the samples of a scan phase, and a phase in which nothing falls due (R4, R21, R25, R37, R42, R126). -/

namespace Sys2Proof.Machine

variable {s : State} {x : SampleSet}

/-! ### The advance and the samples -/

/-- The state after the advance and the samples of a scan phase. -/
abbrev State.sampled (s : State) (x : SampleSet) : State := s.advanceTimes.takeSamples x

theorem State.sampled_reg (s : State) (x : SampleSet) (r : RegNo) : (s.sampled x).reg r = (s.reg r).tick :=
  tget_tmap (fun _ g => CallRegister.tick g) s.regs r

theorem State.sampled_receiver (s : State) (x : SampleSet) (k : ReceiverNo) : (s.sampled x).receiver k = (s.receiver k).advance :=
  tget_tmap (fun _ g => Receiver.advance g) s.receivers k

theorem State.advanceTimes_line (s : State) (n : LineNo) :
    s.advanceTimes.line n = { s.line n with waitTimer := (s.line n).waitTimer.map (· - 4) } :=
  tget_tmap (fun (_ : LineNo) (l : LineRec) => ({ l with waitTimer := l.waitTimer.map (· - 4) } : LineRec)) s.scan.lines n

theorem State.advanceTimes_trunk (s : State) (i : TrunkNo) :
    s.advanceTimes.trunk i = { s.trunk i with waitTimer := (s.trunk i).waitTimer.map (· - 4) } :=
  tget_tmap (fun (_ : TrunkNo) (l : TrunkRec) => ({ l with waitTimer := l.waitTimer.map (· - 4) } : TrunkRec)) s.scan.trunks i

theorem State.takeSamples_line (s : State) (x : SampleSet) (n : LineNo) : (s.takeSamples x).line n = { s.line n with
    samples := (s.line n).samples.shift (loopSample x (.line n)), grounds := (s.line n).grounds.shift (decide (n ∈ x.grounded)) } :=
  tget_tmap (fun (m : LineNo) (l : LineRec) => ({ l with
    samples := l.samples.shift (loopSample x (.line m)), grounds := l.grounds.shift (decide (m ∈ x.grounded)) } : LineRec)) s.scan.lines n

theorem State.takeSamples_trunk (s : State) (x : SampleSet) (i : TrunkNo) :
    (s.takeSamples x).trunk i = { s.trunk i with samples := (s.trunk i).samples.shift (loopSample x (.trunk i)) } :=
  tget_tmap (fun (j : TrunkNo) (l : TrunkRec) => ({ l with samples := l.samples.shift (loopSample x (.trunk j)) } : TrunkRec))
    s.scan.trunks i

theorem State.sampled_line (s : State) (x : SampleSet) (n : LineNo) : (s.sampled x).line n = { s.line n with
    waitTimer := (s.line n).waitTimer.map (· - 4), samples := (s.line n).samples.shift (loopSample x (.line n))
    grounds := (s.line n).grounds.shift (decide (n ∈ x.grounded)) } := by
  rw [State.takeSamples_line, State.advanceTimes_line]

theorem State.sampled_trunk (s : State) (x : SampleSet) (i : TrunkNo) : (s.sampled x).trunk i = { s.trunk i with
    waitTimer := (s.trunk i).waitTimer.map (· - 4), samples := (s.trunk i).samples.shift (loopSample x (.trunk i)) } := by
  rw [State.takeSamples_trunk, State.advanceTimes_trunk]

theorem State.takeSamples_answer (s : State) (x : SampleSet) (o : OutNo) : tget (s.takeSamples x).scan.answers o =
    ⟨(tget s.scan.answers o).accepted, (tget s.scan.answers o).samples.shift (decide (o ∈ x.reversed))⟩ :=
  tget_tmap (fun (p : OutNo) (f : AnswerFilter) => ({ f with samples := f.samples.shift (decide (p ∈ x.reversed)) } : AnswerFilter))
    s.scan.answers o

theorem State.sampled_answer (s : State) (x : SampleSet) (o : OutNo) : tget (s.sampled x).scan.answers o =
    ⟨(tget s.scan.answers o).accepted, (tget s.scan.answers o).samples.shift (decide (o ∈ x.reversed))⟩ := by
  have hanswers : s.advanceTimes.scan.answers = s.scan.answers := by
    unfold State.advanceTimes
    rfl
  rw [State.takeSamples_answer, hanswers]

theorem State.sampled_clearTimer (s : State) (x : SampleSet) (i : TrunkNo) :
    tget (s.sampled x).sig.clearTimers i = (tget s.sig.clearTimers i).map tickClear :=
  tget_tmap (fun _ z => Option.map tickClear z) s.sig.clearTimers i

theorem State.sampled_rest (s : State) (x : SampleSet) : s.sampled x = { s with
    regs := (s.sampled x).regs, receivers := (s.sampled x).receivers
    scan := { s.scan with
      lines := (s.sampled x).scan.lines, trunks := (s.sampled x).scan.trunks, answers := (s.sampled x).scan.answers }
    sig := { s.sig with clearTimers := (s.sampled x).sig.clearTimers } } := by
  unfold State.sampled State.takeSamples State.advanceTimes
  rfl

/-! ### Nothing due -/

/-- A clear or a digit end is due on the receiver. -/
abbrev State.receiverDue (s : State) (k : ReceiverNo) : Prop := (s.receiver k).clearDue = true ∨ (s.receiver k).digitEndDue = true

theorem State.takeReceiver_idle {k : ReceiverNo} (h : ¬s.receiverDue k) : s.takeReceiver k = s := by
  unfold State.takeReceiver
  split
  · next a ha =>
    rw [State.receiverDue, ha, not_or] at h
    exact (if_neg h.1).trans (if_neg h.2)
  · rfl

theorem State.takeReceivers_idle (h : ∀ k, ¬s.receiverDue k) : (List.finRange 12).foldl State.takeReceiver s = s :=
  List.foldl_fixed' (fun k => State.takeReceiver_idle (h k)) _

theorem tfind_eq_nil {α : Type} {n : Nat} {p : Fin n → α → Bool} {v : Vector α n} (h : ∀ i, p i (tget v i) = false) : tfind p v = [] :=
  List.filter_eq_nil_iff.2 fun i _ => by rw [h i]; exact Bool.false_ne_true

/-- What a phase takes after its schedule, where no receiver is due. -/
theorem State.takeRest_idle (hk : ∀ k, ¬s.receiverDue k) (ht : ∀ t, s.loopChangeDue t = false) (ho : ∀ o, s.answerChangeDue o = false) :
    s.takeRest = s := by
  have hlines : tfind (fun _ l => l.samples.allAre l.accepted.flip) s.scan.lines = [] := tfind_eq_nil fun n => ht (.line n)
  have htrunks : tfind (fun _ k => k.samples.allAre k.accepted.flip) s.scan.trunks = [] := tfind_eq_nil fun i => ht (.trunk i)
  have hanswers : tfind (fun _ f => f.samples.allAre (!f.accepted)) s.scan.answers = [] := tfind_eq_nil ho
  rw [State.takeRest, State.takeReceivers_idle hk]
  rw [hlines, List.foldl_nil, htrunks, List.foldl_nil, hanswers, List.foldl_nil]

/-! ### A running receiver -/

theorem Receiver.advance_brk {a : Attachment} {t : Nat} (h : a.phase = .brk t) :
    (Receiver.attached a).advance = .attached { a with phase := .brk (min 400 (t + 4)) } := by
  simp only [Receiver.advance, h]
  rfl

theorem Receiver.advance_make {a : Attachment} (h : a.phase = .make) : (Receiver.attached a).advance =
    .attached { a with makeTime := if a.pulses = 0 then 0 else min 160 (a.makeTime + 4) } := by
  simp only [Receiver.advance, h]
  by_cases hp : a.pulses = 0
  · simp only [if_pos hp]
  · simp only [if_neg hp]
    rfl

/-- A receiver that the advance leaves short of a clear and of a digit end. -/
abbrev Attachment.quiet (a : Attachment) : Prop :=
  (∀ t, a.phase = .brk t → t + 4 < 400) ∧ (a.phase = .make → a.pulses = 0 ∨ a.makeTime + 4 < 160)

theorem Receiver.advance_quiet {a : Attachment} (h : a.quiet) :
    (Receiver.attached a).advance.clearDue = false ∧ (Receiver.attached a).advance.digitEndDue = false := by
  obtain ⟨hbrk, hmake⟩ := h
  cases hphase : a.phase with
  | make =>
    rw [Receiver.advance_make hphase]
    refine ⟨Receiver.clearDue_make hphase, Bool.eq_false_iff.2 fun hdue => ?_⟩
    obtain ⟨-, htime, hpulses⟩ := Receiver.digitEndDue_iff.1 hdue
    dsimp only at htime hpulses
    rw [if_neg (by omega)] at htime
    have hlate := (hmake hphase).resolve_left (by omega)
    omega
  | brk t =>
    have hlt := hbrk t hphase
    rw [Receiver.advance_brk hphase]
    refine ⟨(Receiver.clearDue_brk rfl).trans (decide_eq_false (by omega)), Bool.eq_false_iff.2 fun hdue => ?_⟩
    exact absurd (Receiver.digitEndDue_iff.1 hdue).1 (by simp)

/-- Settles O21. -/
theorem quietScanPhaseAdvancesTheTimes : Obligations.QuietScanPhaseAdvancesTheTimes := by
  intro x s hlines htrunks hanswers hreceivers
  have hdue (k : ReceiverNo) : ¬(s.sampled x).receiverDue k := by
    rw [State.receiverDue, State.sampled_receiver]
    cases hk : s.receiver k with
    | free => simp [Receiver.advance, Receiver.clearDue, Receiver.digitEndDue]
    | blocked => simp [Receiver.advance, Receiver.clearDue, Receiver.digitEndDue]
    | attached a =>
      obtain ⟨hclear, hdigit⟩ := Receiver.advance_quiet (hreceivers k a hk)
      rw [hclear, hdigit]
      simp
  have hchange (t : Terminal) : (s.sampled x).loopChangeDue t = false := by
    cases t with
    | line n => simpa only [State.loopChangeDue, State.sampled_line, loopSample] using hlines n
    | trunk i => simpa only [State.loopChangeDue, State.sampled_trunk, loopSample] using htrunks i
  have hanswer (o : OutNo) : (s.sampled x).answerChangeDue o = false := by
    simpa only [State.answerChangeDue, State.sampled_answer] using hanswers o
  refine ⟨congrArg Host.Outcome.next (State.takeRest_idle hdue hchange hanswer), fun r => s.sampled_reg x r, fun k hk => ?_,
    fun k a hk => ⟨fun b hb => ?_, fun hmake => ?_⟩, fun n => ?_, fun i => ⟨?_, s.sampled_clearTimer x i⟩, s.sampled_answer x,
    s.sampled_rest x⟩
  · rw [State.sampled_receiver]
    rcases hk with hk | hk <;> rw [hk] <;> rfl
  · have hlt := (hreceivers k a hk).1 b hb
    rw [State.sampled_receiver, hk, Receiver.advance_brk hb, min_eq_right (by omega)]
  · rw [State.sampled_receiver, hk, Receiver.advance_make hmake]
    by_cases hp : a.pulses = 0
    · rw [if_pos hp, if_pos hp]
    · have hlt := ((hreceivers k a hk).2 hmake).resolve_left hp
      rw [if_neg hp, if_neg hp, min_eq_right (by omega)]
  · rw [State.sampled_line]
  · rw [State.sampled_trunk]

end Sys2Proof.Machine
end

section
/-! SUPPORT. Accepted states over a scan phase (R21, R37): each changes exactly where its held samples ask for it, once. -/

namespace Sys2Proof.Machine

variable {s t : State}

/-! ### One filter -/

section
variable {α : Type} [DecidableEq α] {flip : α → α} {h : Held α} {x y z : α}

/-- An accepted state `x` that a scan phase has left as it was or changed, as the held samples `h` ask. -/
def Taken (flip : α → α) (h : Held α) (x y : α) : Prop := y = x ∨ h.allAre (flip x) = true ∧ y = flip x

theorem Held.allAre_unique (hx : h.allAre x = true) (hy : h.allAre y = true) : x = y := by
  simp only [Held.allAre, Bool.and_eq_true, decide_eq_true_eq] at hx hy
  obtain ⟨⟨hx, -⟩, -⟩ := hx
  obtain ⟨⟨hy, -⟩, -⟩ := hy
  rw [← hx, hy]

variable (hflip : ∀ x, flip x ≠ x)
include hflip

/-- A change that has been taken is not due again. -/
theorem Held.flipped_settled (hx : h.allAre x = true) : h.allAre (flip x) = false :=
  Bool.eq_false_iff.2 fun hf => hflip x (Held.allAre_unique hf hx)

theorem Taken.trans (h1 : Taken flip h x y) (h2 : Taken flip h y z) : Taken flip h x z := by
  rcases h1 with rfl | ⟨hx, rfl⟩
  · exact h2
  · rcases h2 with rfl | ⟨hy, -⟩
    · exact .inr ⟨hx, rfl⟩
    · exact absurd hy (Bool.eq_false_iff.1 (Held.flipped_settled hflip hx))

omit hflip in
/-- Where no change is due none is taken. -/
theorem Taken.settled (h1 : Taken flip h x y) (hx : h.allAre (flip x) = false) : y = x :=
  h1.resolve_right fun hy => Bool.eq_false_iff.1 hx hy.1

omit hflip in
/-- Where no change is left due the samples decide the accepted state. -/
theorem Taken.decided (h1 : Taken flip h x y) (hy : h.allAre (flip y) = false) : y = if h.allAre (flip x) = true then flip x else x := by
  rcases h1 with rfl | ⟨hx, rfl⟩
  · rw [if_neg (Bool.eq_false_iff.1 hy)]
  · rw [if_pos hx]

end

theorem Loop.flip_ne (x : Loop) : x.flip ≠ x := by cases x <;> decide

/-! ### Every filter -/

/-- The scanner `b` is `a` with moves of terminals and with accepted changes that were due. -/
structure Scanner.Accepts (a b : Scanner) : Prop where
  lines : ∀ n, (tget b.lines n).samples = (tget a.lines n).samples ∧ (tget b.lines n).grounds = (tget a.lines n).grounds ∧
    (tget b.lines n).cls = (tget a.lines n).cls ∧
    Taken Loop.flip (tget a.lines n).samples (tget a.lines n).accepted (tget b.lines n).accepted
  trunks : ∀ i, (tget b.trunks i).samples = (tget a.trunks i).samples ∧
    Taken Loop.flip (tget a.trunks i).samples (tget a.trunks i).accepted (tget b.trunks i).accepted
  answers : ∀ o, (tget b.answers o).samples = (tget a.answers o).samples ∧
    Taken not (tget a.answers o).samples (tget a.answers o).accepted (tget b.answers o).accepted

theorem Scanner.Accepts.of_filters {a b : Scanner} (h : a.SameFilters b) : a.Accepts b where
  lines n := by
    obtain ⟨hcls, haccepted, hsamples, hgrounds⟩ := h.lines n
    exact ⟨hsamples, hgrounds, hcls, .inl haccepted⟩
  trunks i := ⟨(h.trunks i).2, .inl (h.trunks i).1⟩
  answers o := by
    rw [h.answers]
    exact ⟨rfl, .inl rfl⟩

theorem Scanner.Accepts.trans {a b c : Scanner} (h : a.Accepts b) (k : b.Accepts c) : a.Accepts c where
  lines n := by
    obtain ⟨hsamples, hgrounds, hcls, htaken⟩ := h.lines n
    obtain ⟨ksamples, kgrounds, kcls, ktaken⟩ := k.lines n
    exact ⟨ksamples.trans hsamples, kgrounds.trans hgrounds, kcls.trans hcls, htaken.trans Loop.flip_ne (hsamples ▸ ktaken)⟩
  trunks i := by
    obtain ⟨hsamples, htaken⟩ := h.trunks i
    obtain ⟨ksamples, ktaken⟩ := k.trunks i
    exact ⟨ksamples.trans hsamples, htaken.trans Loop.flip_ne (hsamples ▸ ktaken)⟩
  answers o := by
    obtain ⟨hsamples, htaken⟩ := h.answers o
    obtain ⟨ksamples, ktaken⟩ := k.answers o
    exact ⟨ksamples.trans hsamples, htaken.trans Bool.not_ne_self (hsamples ▸ ktaken)⟩

theorem Scanner.Accepts.moved {a : Scanner} {w : Bool} (h : a.Accepts s.scan) (hm : Moves s.scan w t.scan) : a.Accepts t.scan :=
  h.trans (.of_filters hm.filters)

/-- A change that is not due stays so. -/
theorem Scanner.Accepts.undue (h : s.scan.Accepts t.scan) {y : Terminal} (hy : s.loopChangeDue y = false) : t.loopChangeDue y = false := by
  cases y with
  | line n =>
    obtain ⟨hsamples, -, -, htaken⟩ := h.lines n
    have hsame : (t.line n).accepted = (s.line n).accepted := htaken.settled hy
    rw [State.loopChangeDue, hsame]
    exact (congrArg (Held.allAre · _) hsamples).trans hy
  | trunk i =>
    obtain ⟨hsamples, htaken⟩ := h.trunks i
    have hsame : (t.trunk i).accepted = (s.trunk i).accepted := htaken.settled hy
    rw [State.loopChangeDue, hsame]
    exact (congrArg (Held.allAre · _) hsamples).trans hy

theorem Scanner.Accepts.undueAnswer (h : s.scan.Accepts t.scan) {o : OutNo} (ho : s.answerChangeDue o = false) :
    t.answerChangeDue o = false := by
  obtain ⟨hsamples, htaken⟩ := h.answers o
  rw [State.answerChangeDue, htaken.settled ho, hsamples]
  exact ho

theorem Scanner.SameFilters.due (h : s.scan.SameFilters t.scan) (y : Terminal) : t.loopChangeDue y = s.loopChangeDue y := by
  cases y with
  | line n =>
    obtain ⟨-, haccepted, hsamples, -⟩ := h.lines n
    exact congrArg₂ Held.allAre hsamples (congrArg Loop.flip haccepted)
  | trunk i =>
    obtain ⟨haccepted, hsamples⟩ := h.trunks i
    exact congrArg₂ Held.allAre hsamples (congrArg Loop.flip haccepted)

theorem Scanner.SameFilters.dueAnswer (h : s.scan.SameFilters t.scan) (o : OutNo) : t.answerChangeDue o = s.answerChangeDue o := by
  rw [State.answerChangeDue, State.answerChangeDue, h.answers]

/-! ### A change taken -/

theorem State.acceptLoop_accepts {y : Terminal} (hy : s.loopChangeDue y = true) : s.scan.Accepts (s.acceptLoop y).scan := by
  cases y with
  | line n =>
    refine ⟨fun m => ?_, fun _ => ⟨rfl, .inl rfl⟩, fun _ => ⟨rfl, .inl rfl⟩⟩
    have hline : tget (s.acceptLoop (.line n)).scan.lines m = _ := tget_tmod s.scan.lines n m _
    rw [hline]
    split
    · next hm =>
      subst hm
      exact ⟨rfl, rfl, rfl, .inr ⟨hy, rfl⟩⟩
    · exact ⟨rfl, rfl, rfl, .inl rfl⟩
  | trunk i =>
    refine ⟨fun _ => ⟨rfl, rfl, rfl, .inl rfl⟩, fun j => ?_, fun _ => ⟨rfl, .inl rfl⟩⟩
    have htrunk : tget (s.acceptLoop (.trunk i)).scan.trunks j = _ := tget_tmod s.scan.trunks i j _
    rw [htrunk]
    split
    · next hj =>
      subst hj
      exact ⟨rfl, .inr ⟨hy, rfl⟩⟩
    · exact ⟨rfl, .inl rfl⟩

theorem State.acceptLoop_undue {y : Terminal} (hy : s.loopChangeDue y = true) : (s.acceptLoop y).loopChangeDue y = false := by
  cases y with
  | line n =>
    have hline : (s.acceptLoop (.line n)).line n = { s.line n with accepted := (s.line n).accepted.flip } := tget_tmod_same _ _ _
    rw [State.loopChangeDue, hline]
    exact Held.flipped_settled Loop.flip_ne hy
  | trunk i =>
    have htrunk : (s.acceptLoop (.trunk i)).trunk i = { s.trunk i with accepted := (s.trunk i).accepted.flip } := tget_tmod_same _ _ _
    rw [State.loopChangeDue, htrunk]
    exact Held.flipped_settled Loop.flip_ne hy

/-- A change with its consequence and the service that follows. -/
def State.changed (s : State) (y : Terminal) : State := ((s.acceptLoop y).terminalChange y (s.accepted y).flip).settle

theorem State.changed_accepts {y : Terminal} (hy : s.loopChangeDue y = true) : s.scan.Accepts (s.changed y).scan :=
  (State.acceptLoop_accepts hy).moved (State.settle_moves _ (State.terminalChange_moves _ y _ .refl))

theorem State.changed_undue {y : Terminal} (hy : s.loopChangeDue y = true) : (s.changed y).loopChangeDue y = false :=
  Scanner.Accepts.undue (.of_filters (State.settle_moves _ (State.terminalChange_moves _ y _ .refl)).filters) (State.acceptLoop_undue hy)

theorem State.takeChange_due {y : Terminal} (hy : s.loopChangeDue y = true) : s.takeChange y = (s.receiverFirst y).changed y := if_pos hy

theorem State.takeChange_idle {y : Terminal} (hy : s.loopChangeDue y = false) : s.takeChange y = s := if_neg (Bool.eq_false_iff.1 hy)

theorem State.takeChange_accepts (s : State) (y : Terminal) : s.scan.Accepts (s.takeChange y).scan := by
  cases hy : s.loopChangeDue y with
  | false =>
    rw [State.takeChange_idle hy]
    exact .of_filters (.refl _)
  | true =>
    have hfilters := (s.receiverFirst_moves y .refl).filters
    rw [State.takeChange_due hy]
    exact (Scanner.Accepts.of_filters hfilters).trans (State.changed_accepts ((hfilters.due y).trans hy))

theorem State.takeChange_undue (s : State) (y : Terminal) : (s.takeChange y).loopChangeDue y = false := by
  cases hy : s.loopChangeDue y with
  | false => rw [State.takeChange_idle hy, hy]
  | true =>
    rw [State.takeChange_due hy]
    exact State.changed_undue (((s.receiverFirst_moves y .refl).filters.due y).trans hy)

/-! ### An answer change taken -/

/-- The accepted answer state of a trunk set. -/
def State.acceptAnswer (s : State) (o : OutNo) (x : Bool) : State :=
  { s with scan := { s.scan with answers := tmod s.scan.answers o fun f => { f with accepted := x } } }

/-- An answer change with its consequence and the service that follows. -/
def State.answerChanged (s : State) (o : OutNo) : State :=
  ((s.acceptAnswer o (!(tget s.scan.answers o).accepted)).trunkAnswerChange o (!(tget s.scan.answers o).accepted)).settle

theorem State.takeAnswerChange_due {o : OutNo} (ho : s.answerChangeDue o = true) : s.takeAnswerChange o = s.answerChanged o := if_pos ho

theorem State.takeAnswerChange_idle {o : OutNo} (ho : s.answerChangeDue o = false) : s.takeAnswerChange o = s :=
  if_neg (Bool.eq_false_iff.1 ho)

theorem State.acceptAnswer_answer (s : State) (o p : OutNo) (x : Bool) : tget (s.acceptAnswer o x).scan.answers p =
    if p = o then { tget s.scan.answers o with accepted := x } else tget s.scan.answers p := tget_tmod _ _ _ _

theorem State.answerChanged_filters (s : State) (o : OutNo) :
    (s.acceptAnswer o (!(tget s.scan.answers o).accepted)).scan.SameFilters (s.answerChanged o).scan :=
  (State.settle_moves _ (Moves.owe (State.trunkAnswerChange_moves _ o _ .refl))).filters

theorem State.answerChanged_accepts {o : OutNo} (ho : s.answerChangeDue o = true) : s.scan.Accepts (s.answerChanged o).scan := by
  refine Scanner.Accepts.trans (b := (s.acceptAnswer o (!(tget s.scan.answers o).accepted)).scan) ?_ (.of_filters (s.answerChanged_filters o))
  refine ⟨fun _ => ⟨rfl, rfl, rfl, .inl rfl⟩, fun _ => ⟨rfl, .inl rfl⟩, fun p => ?_⟩
  rw [State.acceptAnswer_answer]
  split
  · next hp =>
    subst hp
    exact ⟨rfl, .inr ⟨ho, rfl⟩⟩
  · exact ⟨rfl, .inl rfl⟩

theorem State.answerChanged_undue {o : OutNo} (ho : s.answerChangeDue o = true) : (s.answerChanged o).answerChangeDue o = false := by
  refine Scanner.Accepts.undueAnswer (.of_filters (s.answerChanged_filters o)) ?_
  rw [State.answerChangeDue, State.acceptAnswer_answer, if_pos rfl]
  exact Held.flipped_settled Bool.not_ne_self ho

theorem State.takeAnswerChange_accepts (s : State) (o : OutNo) : s.scan.Accepts (s.takeAnswerChange o).scan := by
  cases ho : s.answerChangeDue o with
  | false =>
    rw [State.takeAnswerChange_idle ho]
    exact .of_filters (.refl _)
  | true =>
    rw [State.takeAnswerChange_due ho]
    exact State.answerChanged_accepts ho

theorem State.takeAnswerChange_undue (s : State) (o : OutNo) : (s.takeAnswerChange o).answerChangeDue o = false := by
  cases ho : s.answerChangeDue o with
  | false => rw [State.takeAnswerChange_idle ho, ho]
  | true =>
    rw [State.takeAnswerChange_due ho]
    exact State.answerChanged_undue ho

/-! ### A whole phase -/

theorem State.takeItem_accepts (s : State) (x : ScanItem) : s.scan.Accepts (s.takeItem x).scan := by
  cases x with
  | expiry e => exact .of_filters (s.takeExpiry_moves e .refl).filters
  | receiver k => exact .of_filters (s.takeReceiver_moves k .refl).filters
  | change y => exact s.takeChange_accepts y
  | answerChange o => exact s.takeAnswerChange_accepts o

/-- A fold of steps that accept changes accepts changes. -/
theorem foldl_accepts {β : Type} (f : State → β → State) (h : ∀ (t : State) x, t.scan.Accepts (f t x).scan) (l : List β) (s : State) :
    s.scan.Accepts (l.foldl f s).scan :=
  foldl_keeps f (fun t : State => s.scan.Accepts t.scan) (fun t x ht => ht.trans (h t x)) l s (.of_filters (.refl _))

/-- After the due changes of a list have been taken none of them is due. -/
theorem foldl_settles {β : Type} (f : State → β → State) (due : State → β → Bool) (hown : ∀ t x, due (f t x) x = false)
    (hkeep : ∀ t x y, due t y = false → due (f t x) y = false) (l : List β) (s : State) (hs : ∀ x, due s x = true → x ∈ l) (x : β) :
    due (l.foldl f s) x = false := by
  induction l generalizing s with
  | nil => exact Bool.eq_false_iff.2 fun hx => by cases hs x hx
  | cons y l ih =>
    refine ih (f s y) fun z hz => ?_
    have hdue : due s z = true := by
      cases h : due s z with
      | true => rfl
      | false => exact absurd hz (Bool.eq_false_iff.1 (hkeep s y z h))
    rcases List.mem_cons.1 (hs z hdue) with rfl | hmem
    · exact absurd hz (Bool.eq_false_iff.1 (hown s z))
    · exact hmem

theorem State.takeChanges_settle {β : Type} (y : β → Terminal) (l : List β) (s : State)
    (hs : ∀ x, s.loopChangeDue (y x) = true → x ∈ l) (x : β) :
    (l.foldl (fun t x => t.takeChange (y x)) s).loopChangeDue (y x) = false :=
  foldl_settles (fun t x => t.takeChange (y x)) (fun t x => t.loopChangeDue (y x)) (fun t x => t.takeChange_undue (y x))
    (fun t x _ hz => (t.takeChange_accepts (y x)).undue hz) l s hs x

theorem State.takeAnswerChanges_settle (l : List OutNo) (s : State) (hs : ∀ o, s.answerChangeDue o = true → o ∈ l) (o : OutNo) :
    (l.foldl State.takeAnswerChange s).answerChangeDue o = false :=
  foldl_settles State.takeAnswerChange State.answerChangeDue State.takeAnswerChange_undue
    (fun t x _ hz => (t.takeAnswerChange_accepts x).undueAnswer hz) l s hs o

/-- The rest of a scan phase takes every change that is due. -/
theorem State.takeRest_accepts (s : State) : s.scan.Accepts s.takeRest.scan ∧ (∀ y, s.takeRest.loopChangeDue y = false) ∧
    ∀ o, s.takeRest.answerChangeDue o = false := by
  have hreceivers := foldl_accepts State.takeReceiver (fun t k => .of_filters (t.takeReceiver_moves k .refl).filters) (List.finRange 12) s
  unfold State.takeRest
  generalize (List.finRange 12).foldl State.takeReceiver s = u at hreceivers ⊢
  have hlines := foldl_accepts (fun t n => t.takeChange (.line n)) (fun t n => t.takeChange_accepts (.line n))
    (tfind (fun _ l => l.samples.allAre l.accepted.flip) u.scan.lines) u
  have hlinesDue := State.takeChanges_settle Terminal.line (tfind (fun _ l => l.samples.allAre l.accepted.flip) u.scan.lines) u
    fun n hn => (mem_tfind _ _ _).2 hn
  dsimp only
  generalize (tfind (fun _ l => l.samples.allAre l.accepted.flip) u.scan.lines).foldl (fun t n => t.takeChange (.line n)) u = v
    at hlines hlinesDue ⊢
  have htrunks := foldl_accepts (fun t i => t.takeChange (.trunk i)) (fun t i => t.takeChange_accepts (.trunk i))
    (tfind (fun _ k => k.samples.allAre k.accepted.flip) v.scan.trunks) v
  have htrunksDue := State.takeChanges_settle Terminal.trunk (tfind (fun _ k => k.samples.allAre k.accepted.flip) v.scan.trunks) v
    fun i hi => (mem_tfind _ _ _).2 hi
  generalize (tfind (fun _ k => k.samples.allAre k.accepted.flip) v.scan.trunks).foldl (fun t i => t.takeChange (.trunk i)) v = w
    at htrunks htrunksDue ⊢
  have hanswers := foldl_accepts State.takeAnswerChange State.takeAnswerChange_accepts
    (tfind (fun _ f => f.samples.allAre (!f.accepted)) w.scan.answers) w
  refine ⟨((hreceivers.trans hlines).trans htrunks).trans hanswers, fun y => ?_,
    State.takeAnswerChanges_settle _ w fun o ho => (mem_tfind _ _ _).2 ho⟩
  cases y with
  | line n => exact hanswers.undue (htrunks.undue (hlinesDue n))
  | trunk i => exact hanswers.undue (htrunksDue i)

theorem State.scanPhase_accepts (s : State) (x : SampleSet) (schedule : List ScanItem) :
    (s.sampled x).scan.Accepts (s.scanPhase x schedule).scan ∧ (∀ y, (s.scanPhase x schedule).loopChangeDue y = false) ∧
      ∀ o, (s.scanPhase x schedule).answerChangeDue o = false := by
  have hitems := foldl_accepts State.takeItem State.takeItem_accepts schedule (s.sampled x)
  obtain ⟨hrest, hchange, hanswer⟩ := State.takeRest_accepts (schedule.foldl State.takeItem (s.sampled x))
  exact ⟨hitems.trans hrest, hchange, hanswer⟩

end Sys2Proof.Machine
end

section
/-! SUPPORT. Receivers over a scan phase (R42 to R47): what leaves them short of a clear and of a digit end. -/

namespace Sys2Proof.Machine

variable {s t : State} {r : RegNo} {k : ReceiverNo} {a : Attachment}

/-- No clear and no digit end is due. -/
abbrev State.atRest (s : State) : Prop := ∀ k, ¬s.receiverDue k

/-- A break has begun before the make time reached a digit end. -/
abbrev State.breaksEarly (s : State) : Prop := ∀ k a l, s.receiver k = .attached a → a.phase = .brk l → a.makeTime < 160

theorem Receiver.idle_undue {z : Receiver} (h : z = .free ∨ z = .blocked) : ¬(z.clearDue = true ∨ z.digitEndDue = true) := by
  rcases h with rfl | rfl <;> simp [Receiver.clearDue, Receiver.digitEndDue]

/-- A receiver in phase MAKE is due where its digit has ended. -/
theorem Receiver.make_undue (hp : a.phase = .make) (h : a.makeTime < 160 ∨ a.pulses = 0) :
    ¬((Receiver.attached a).clearDue = true ∨ (Receiver.attached a).digitEndDue = true) := by
  rw [Receiver.clearDue_make hp, Receiver.digitEndDue_iff]
  rintro (hc | ⟨-, htime, hpulses⟩)
  · cases hc
  · omega

theorem Receiver.brk_undue {l : Nat} (hp : a.phase = .brk l) (h : l < 400) :
    ¬((Receiver.attached a).clearDue = true ∨ (Receiver.attached a).digitEndDue = true) := by
  rw [Receiver.clearDue_brk hp, Receiver.digitEndDue_iff, hp]
  simpa using h

/-! ### Receivers that leave their calls -/

/-- Every receiver stands or has left its call. -/
def State.Detaches (s t : State) : Prop := ∀ k, t.receiver k = s.receiver k ∨ t.receiver k = .free ∨ t.receiver k = .blocked

theorem State.Detaches.of_receivers (h : t.receivers = s.receivers) : s.Detaches t := fun k => .inl (State.receiver_congr h k)

theorem State.Detaches.trans {u : State} (h : s.Detaches t) (h' : t.Detaches u) : s.Detaches u := fun k => by
  rcases h' k with hk | hk
  · rw [hk]
    exact h k
  · exact .inr hk

theorem State.Detaches.atRest (h : s.Detaches t) (hs : s.atRest) : t.atRest := fun k => by
  rcases h k with hk | hk
  · rw [State.receiverDue, hk]
    exact hs k
  · exact Receiver.idle_undue hk

theorem State.Detaches.breaksEarly (h : s.Detaches t) (hs : s.breaksEarly) : t.breaksEarly := fun k a l ha hl => by
  rcases h k with hk | hk | hk
  · exact hs k a l (hk ▸ ha) hl
  · simp [hk] at ha
  · simp [hk] at ha

theorem State.detachReceiver_detaches (s : State) (r : RegNo) (quiet : Bool) : s.Detaches (s.detachReceiver r quiet) := by
  cases hr : (s.reg r).receiver with
  | none => exact .of_receivers (by rw [State.detachReceiver_none quiet hr]; simp)
  | some k =>
    cases hk : s.receiver k with
    | attached a =>
      intro l
      rw [State.detachReceiver_receiver quiet hr hk]
      split
      · split
        · exact .inr (.inr rfl)
        · exact .inr (.inl rfl)
      · exact .inl rfl
    | free => exact .of_receivers (by rw [State.detachReceiver, hr]; simp only [hk]; simp)
    | blocked => exact .of_receivers (by rw [State.detachReceiver, hr]; simp only [hk]; simp)

theorem State.enterTone_detaches (s : State) (r : RegNo) (x : Tone) (c : ToneCause) : s.Detaches (s.enterTone r x c) :=
  (s.detachReceiver_detaches r false).trans (.of_receivers (by simp [State.enterTone]))

theorem State.refuseString_detaches (s : State) (r : RegNo) (x : Tone) (c : ToneCause) (e : EventKind) :
    s.Detaches (s.refuseString r x c e) :=
  (s.enterTone_detaches r x c).trans (.of_receivers (by simp [State.refuseString]))

theorem State.completeString_detaches (s : State) (r : RegNo) : s.Detaches (s.completeString r) := by
  have hdetach := (s.modReg r fun g => { g with timer := none }).detachReceiver_detaches r false
  refine State.Detaches.trans (State.Detaches.trans (.of_receivers ?_) hdetach) (.of_receivers ?_)
  · simp
  · simp [State.completeString]

theorem State.recordRoute_receivers (s : State) (r : RegNo) (z : RouteNo) : (s.recordRoute r z).receivers = s.receivers := by
  rw [(s.recordRoute_recorded r z).rest]

theorem State.routeResult_detaches (s : State) (r : RegNo) (z : RouteNo) : s.Detaches (s.routeResult r z) := by
  have hrecord : s.Detaches (s.recordRoute r z) := .of_receivers (s.recordRoute_receivers r z)
  unfold State.routeResult
  dsimp only
  split
  · exact s.refuseString_detaches _ _ _ _
  · exact s.refuseString_detaches _ _ _ _
  · exact s.refuseString_detaches _ _ _ _
  · exact s.refuseString_detaches _ _ _ _
  · split
    · split
      · exact hrecord.trans (State.completeString_detaches _ _)
      · exact hrecord
    · exact hrecord

theorem State.directoryDigit_detaches (s : State) (r : RegNo) : s.Detaches (s.directoryDigit r) := by
  have hcount (n : Nat) : s.Detaches (s.modReg r fun g => { g with directoryDigits := n }) := .of_receivers (by simp)
  have hset (n : Nat) (x : Subscriber) : s.Detaches ((s.modReg r fun g => { g with directoryDigits := n }).modReg r fun g =>
      { g with destination := some x }) := .of_receivers (by simp)
  unfold State.directoryDigit
  dsimp only
  split
  · exact hcount _
  · split
    · exact (hcount _).trans (State.refuseString_detaches _ _ _ _ _)
    · split
      · exact (hcount _).trans (State.refuseString_detaches _ _ _ _ _)
      · exact (hset _ _).trans (State.completeString_detaches _ _)

theorem State.translate_detaches (s : State) (r : RegNo) (d : Digit) : s.Detaches (s.translate r d) := by
  have hself : s.Detaches s := .of_receivers rfl
  have hwalk (n : NodeNo) : s.Detaches (s.modReg r fun g => { g with walkNode := some n }) := .of_receivers (by simp)
  unfold State.translate
  dsimp only
  split
  · split
    · split
      · exact (hwalk _).trans (State.refuseString_detaches _ _ _ _ _)
      · exact hwalk _
    · exact s.refuseString_detaches _ _ _ _
    · exact s.routeResult_detaches r _
  · split
    · exact s.directoryDigit_detaches r
    · split
      · exact s.completeString_detaches r
      · exact hself
    · exact hself

theorem State.endDialing_receivers (s : State) (r : RegNo) (c : EndCause) :
    (s.endDialing r c).receivers = (s.detachReceiver r false).receivers := by
  unfold State.endDialing
  dsimp only
  (repeat' split) <;> simp

/-! ### Service -/

/-- Every receiver stands or has just been attached. -/
def State.Attaches (s t : State) : Prop :=
  ∀ k, t.receiver k = s.receiver k ∨ ∃ r b, t.receiver k = .attached ⟨false, r, .make, 0, 0, b⟩

theorem State.Attaches.of_receivers (h : t.receivers = s.receivers) : s.Attaches t := fun k => .inl (State.receiver_congr h k)

theorem State.Attaches.trans {u : State} (h : s.Attaches t) (h' : t.Attaches u) : s.Attaches u := fun k => by
  rcases h' k with hk | hk
  · rw [hk]
    exact h k
  · exact .inr hk

theorem State.Attaches.atRest (h : s.Attaches t) (hs : s.atRest) : t.atRest := fun k => by
  rcases h k with hk | ⟨r, b, hk⟩
  · rw [State.receiverDue, hk]
    exact hs k
  · rw [State.receiverDue, hk]
    exact Receiver.make_undue rfl (.inr rfl)

theorem State.Attaches.breaksEarly (h : s.Attaches t) (hs : s.breaksEarly) : t.breaksEarly := fun k a l ha hl => by
  rcases h k with hk | ⟨r, b, hk⟩
  · exact hs k a l (hk ▸ ha) hl
  · rw [hk, Receiver.attached.injEq] at ha
    rw [← ha] at hl
    cases hl

theorem State.serveHead_attaches (s : State) : s.Attaches s.serveHead := by
  obtain ⟨e, rest, r, k, hq, hr, hk⟩ | hsame := s.serveHead_cases
  · intro l
    rw [State.serveHead_served hq hr hk, State.promote_receiver, State.served_receiver]
    split
    · exact .inr ⟨_, _, rfl⟩
    · exact .inl rfl
  · rw [hsame]
    exact .of_receivers rfl

theorem State.serve_attaches (n : Nat) (s : State) : s.Attaches (State.serve n s) := by
  induction n generalizing s with
  | zero => exact .of_receivers rfl
  | succ n ih => exact s.serveHead_attaches.trans (ih s.serveHead)

theorem State.settle_attaches (s : State) : s.Attaches s.settle :=
  State.Attaches.trans (fun k => .inl (s.promote_receiver k)) (State.serve_attaches 12 s.promote)

/-! ### A clear or a digit end taken -/

section
variable (hk : s.receiver k = .attached a) (hr : (s.reg a.register).receiver = some k) (hothers : ∀ l, l ≠ k → ¬s.receiverDue l)
include hk hr hothers

theorem State.takeReceiver_clear (hdue : (Receiver.attached a).clearDue = true) :
    (s.takeReceiver k).atRest ∧ (s.breaksEarly → (s.takeReceiver k).breaksEarly) := by
  have htake : s.takeReceiver k = (s.endDialing a.register .abandoned).settle := by
    rw [State.takeReceiver, hk]
    exact if_pos hdue
  have hreceiver (l : ReceiverNo) : (s.endDialing a.register .abandoned).receiver l =
      if l = k then (if a.blockAfterUse then .blocked else .free) else s.receiver l :=
    (State.receiver_congr (s.endDialing_receivers _ _) l).trans (State.detachReceiver_receiver false hr hk l)
  have hidle : (s.endDialing a.register .abandoned).receiver k = .free ∨ (s.endDialing a.register .abandoned).receiver k = .blocked := by
    rw [hreceiver, if_pos rfl]
    split
    · exact .inr rfl
    · exact .inl rfl
  have hend : s.Detaches (s.endDialing a.register .abandoned) := fun l => by
    by_cases hl : l = k
    · exact .inr (hl ▸ hidle)
    · exact .inl ((hreceiver l).trans (if_neg hl))
  rw [htake]
  refine ⟨(State.settle_attaches _).atRest fun l => ?_, fun hs => (State.settle_attaches _).breaksEarly (hend.breaksEarly hs)⟩
  by_cases hl : l = k
  · subst hl
    exact Receiver.idle_undue hidle
  · rw [State.receiverDue, hreceiver, if_neg hl]
    exact hothers l hl

omit hr in
theorem State.takeReceiver_digit (hdue : (Receiver.attached a).digitEndDue = true) :
    (s.takeReceiver k).atRest ∧ (s.breaksEarly → (s.takeReceiver k).breaksEarly) := by
  obtain ⟨hphase, -, -⟩ := Receiver.digitEndDue_iff.1 hdue
  have htake : s.takeReceiver k = (s.endDigit k a).settle := by
    rw [State.takeReceiver, hk]
    dsimp only
    rw [if_neg (by rw [Receiver.clearDue_make hphase]; exact Bool.false_ne_true), if_pos hdue]
  have hreceiver (l : ReceiverNo) (d : Digit) : (s.appended k a d).receiver l =
      if l = k then .attached { a with pulses := 0, makeTime := 0 } else s.receiver l := State.setReceiver_receiver _ _ _ _
  have hdetach : (s.appended k a (digitOfPulses a.pulses)).Detaches (s.endDigit k a) := by
    refine (State.translate_detaches _ a.register (digitOfPulses a.pulses)).trans (.of_receivers ?_)
    rw [State.endDigit_eq, State.timed]
    split
    · simp
    · rfl
  rw [htake]
  refine ⟨(State.settle_attaches _).atRest (hdetach.atRest fun l => ?_),
    fun hs => (State.settle_attaches _).breaksEarly (hdetach.breaksEarly fun l b m hb hm => ?_)⟩
  · rw [State.receiverDue, hreceiver]
    split
    · exact Receiver.make_undue hphase (.inr rfl)
    · next hl => exact hothers l hl
  · rw [hreceiver] at hb
    split at hb
    · rw [Receiver.attached.injEq] at hb
      rw [← hb] at hm
      exact absurd (hphase.symm.trans hm) (by simp)
    · exact hs l b m hb hm

end

/-- The receivers of a phase, where one clear or digit end at most is due: they are taken in turn and leave none due. -/
theorem State.takeReceivers_one (l : List ReceiverNo) (hk : k ∈ l) (hothers : ∀ j, j ≠ k → ¬s.receiverDue j)
    (hrest : (s.takeReceiver k).atRest) : l.foldl State.takeReceiver s = s.takeReceiver k := by
  induction l with
  | nil => cases hk
  | cons j l ih =>
    by_cases hj : j = k
    · subst hj
      exact List.foldl_fixed' (fun i => State.takeReceiver_idle (hrest i)) l
    · rw [List.foldl_cons, State.takeReceiver_idle (hothers j hj)]
      exact ih ((List.mem_cons.1 hk).resolve_left (Ne.symm hj))

/-! ### Accepted changes -/

theorem State.beginBreak_atRest (h : s.atRest) (k : ReceiverNo) : (s.beginBreak k).atRest := by
  unfold State.beginBreak
  split
  · next a ha =>
    split
    · intro l
      rw [State.receiverDue, State.setReceiver_receiver]
      split
      · exact Receiver.brk_undue rfl (by decide)
      · exact h l
    · exact h
  · exact h

theorem State.setReceiver_atRest (h : s.atRest) (hp : a.phase = .make) (ha : a.makeTime < 160 ∨ a.pulses = 0) :
    (s.setReceiver k (.attached a)).atRest := fun l => by
  rw [State.receiverDue, State.setReceiver_receiver]
  split
  · exact Receiver.make_undue hp ha
  · exact h l

theorem State.digitError_atRest (h : s.atRest) (r : RegNo) : (s.digitError r).atRest :=
  ((s.enterTone_detaches r .nu .digitError).trans (.of_receivers (s.digitError_receivers r))).atRest h

theorem State.endBreak_atRest (h : s.atRest) (hb : s.breaksEarly) (k : ReceiverNo) : (s.endBreak k).atRest := by
  cases hk : s.receiver k with
  | attached a =>
    cases hp : a.phase with
    | make =>
      rw [State.endBreak, hk]
      simpa only [hp] using h
    | brk l =>
      have hearly := hb k a l hk hp
      have hpulsed : (s.pulsed k a).atRest := by
        refine State.setReceiver_atRest (fun j => ?_) rfl (.inl (by simp))
        split
        · rw [State.receiverDue, State.receiver_congr (State.removeDialTone_frame _ _).2.2.1]
          exact h j
        · exact h j
      rw [State.endBreak, hk]
      simp only [hp]
      split
      · exact State.setReceiver_atRest h rfl (.inl hearly)
      · split
        · split
          · exact hpulsed
          · exact State.digitError_atRest hpulsed _
        · exact State.digitError_atRest h _
  | free =>
    rw [State.endBreak, hk]
    exact h
  | blocked =>
    rw [State.endBreak, hk]
    exact h

theorem State.toReceiver_atRest (h : s.atRest) (hb : s.breaksEarly) (r : RegNo) (x : Loop) : (s.toReceiver r x).atRest := by
  unfold State.toReceiver
  split
  · exact State.beginBreak_atRest h _
  · exact State.endBreak_atRest h hb _
  · exact h

theorem State.atRest_congr (h : s.atRest) (ht : t.receivers = s.receivers) : t.atRest := (State.Detaches.of_receivers ht).atRest h

theorem State.terminalChange_atRest (h : s.atRest) (hb : s.breaksEarly) (y : Terminal) (x : Loop) : (s.terminalChange y x).atRest := by
  cases y with
  | line n =>
    unfold State.terminalChange State.lineChange
    dsimp only
    split
    · exact State.atRest_congr h (by simp)
    · exact State.atRest_congr h (by simp)
    · exact State.atRest_congr h (by simp)
    · exact State.atRest_congr h (by simp)
    · unfold State.callingLineChange
      split
      · exact State.toReceiver_atRest h hb _ _
      · split
        · exact State.atRest_congr h (by simp)
        · exact h
    · exact State.atRest_congr h (by simp)
    · exact State.atRest_congr h (by simp)
    · unfold State.calledLineChange
      split
      · exact State.atRest_congr h (by simp)
      · exact State.atRest_congr h (by simp)
    · exact h
  | trunk i =>
    unfold State.terminalChange State.trunkChange
    dsimp only
    split
    · exact State.atRest_congr h (by simp)
    · exact State.atRest_congr h (by simp)
    · exact State.atRest_congr h (by simp)
    · exact State.atRest_congr h (by simp)
    · unfold State.busyTrunkChange
      split
      · exact State.toReceiver_atRest h hb _ _
      · split
        · exact State.atRest_congr h (by simp)
        · exact State.atRest_congr h (by simp)
    · exact h

theorem State.trunkAnswerChange_atRest (h : s.atRest) (o : OutNo) (x : Bool) : (s.trunkAnswerChange o x).atRest := by
  unfold State.trunkAnswerChange
  split
  · exact h
  · split
    · exact State.atRest_congr h (by simp)
    · exact State.atRest_congr h (by simp)
    · exact State.atRest_congr h (by simp)
    · exact h

theorem State.changed_atRest (h : s.atRest) (hb : s.breaksEarly) (y : Terminal) : (s.changed y).atRest := by
  have haccept : (s.acceptLoop y).receivers = s.receivers := by cases y <;> rfl
  have hdetach : s.Detaches (s.acceptLoop y) := .of_receivers haccept
  exact (State.settle_attaches _).atRest (State.terminalChange_atRest (hdetach.atRest h) (hdetach.breaksEarly hb) y _)

theorem State.answerChanged_atRest (h : s.atRest) (o : OutNo) : (s.answerChanged o).atRest :=
  (State.settle_attaches _).atRest (State.trunkAnswerChange_atRest
    (s := s.acceptAnswer o (!(tget s.scan.answers o).accepted)) (State.atRest_congr h rfl) o _)

end Sys2Proof.Machine
end

section
/-! SUPPORT. A scan phase with one accepted change due (R20, R21, R37, R42). -/

namespace Sys2Proof.Machine

variable {s : State} {y : Terminal} {o : OutNo}

theorem tfind_eq_singleton {α : Type} {n : Nat} {p : Fin n → α → Bool} {v : Vector α n} {i : Fin n}
    (h : ∀ j, p j (tget v j) = decide (j = i)) : tfind p v = [i] := by
  have hfilter : tfind p v = (List.finRange n).filter fun j => decide (j = i) := List.filter_congr fun j _ => h j
  have hcount : (List.finRange n).count i = 1 := List.count_eq_one_of_mem (List.nodup_finRange n) (List.mem_finRange i)
  rw [hfilter, List.filter_eq, hcount]
  rfl

/-- The receiver of a terminal's register stands where none is due. -/
theorem State.receiverFirst_idle (h : s.atRest) (y : Terminal) : s.receiverFirst y = s := by
  unfold State.receiverFirst
  split
  · exact State.takeReceiver_idle (h _)
  · rfl

/-! ### One loop change -/

/-- The change of `y` alone is due. -/
structure State.OneChange (s : State) (y : Terminal) : Prop where
  change : ∀ z, s.loopChangeDue z = decide (z = y)
  answer : ∀ o, s.answerChangeDue o = false

theorem State.OneChange.due (h : s.OneChange y) : s.loopChangeDue y = true := (h.change y).trans (decide_eq_true rfl)

theorem State.OneChange.of_filters {t : State} (h : s.OneChange y) (ht : s.scan.SameFilters t.scan) : t.OneChange y where
  change z := (ht.due z).trans (h.change z)
  answer o := (ht.dueAnswer o).trans (h.answer o)

/-- After the change nothing is due. -/
theorem State.OneChange.settled (h : s.OneChange y) :
    (∀ z, (s.changed y).loopChangeDue z = false) ∧ ∀ o, (s.changed y).answerChangeDue o = false := by
  have haccepts := State.changed_accepts h.due
  refine ⟨fun z => ?_, fun o => haccepts.undueAnswer (h.answer o)⟩
  by_cases hz : z = y
  · rw [hz]
    exact State.changed_undue h.due
  · exact haccepts.undue ((h.change z).trans (decide_eq_false hz))

theorem State.OneChange.take (h : s.OneChange y) (hrest : s.atRest) : s.takeChange y = s.changed y := by
  rw [State.takeChange_due h.due, State.receiverFirst_idle hrest]

/-- The rest of a phase whose receivers have been taken: the change of a line. -/
theorem State.takeRest_line {w : State} {n : LineNo} (hw : (List.finRange 12).foldl State.takeReceiver s = w)
    (h : w.OneChange (.line n)) (hrest : w.atRest) : s.takeRest = w.changed (.line n) := by
  obtain ⟨hchange, hanswer⟩ := h.settled
  have hlines : tfind (fun _ l => l.samples.allAre l.accepted.flip) w.scan.lines = [n] :=
    tfind_eq_singleton fun m => (h.change (.line m)).trans (decide_eq_decide.2 (by simp))
  have htrunks : tfind (fun _ k => k.samples.allAre k.accepted.flip) (w.changed (.line n)).scan.trunks = [] :=
    tfind_eq_nil fun i => hchange (.trunk i)
  have hanswers : tfind (fun _ f => f.samples.allAre (!f.accepted)) (w.changed (.line n)).scan.answers = [] := tfind_eq_nil hanswer
  rw [State.takeRest, hw, hlines, List.foldl_cons, List.foldl_nil, h.take hrest, htrunks, List.foldl_nil, hanswers, List.foldl_nil]

theorem State.takeRest_trunk {w : State} {i : TrunkNo} (hw : (List.finRange 12).foldl State.takeReceiver s = w)
    (h : w.OneChange (.trunk i)) (hrest : w.atRest) : s.takeRest = w.changed (.trunk i) := by
  obtain ⟨-, hanswer⟩ := h.settled
  have hlines : tfind (fun _ l => l.samples.allAre l.accepted.flip) w.scan.lines = [] :=
    tfind_eq_nil fun m => (h.change (.line m)).trans (decide_eq_false (by simp))
  have htrunks : tfind (fun _ k => k.samples.allAre k.accepted.flip) w.scan.trunks = [i] :=
    tfind_eq_singleton fun j => (h.change (.trunk j)).trans (decide_eq_decide.2 (by simp))
  have hanswers : tfind (fun _ f => f.samples.allAre (!f.accepted)) (w.changed (.trunk i)).scan.answers = [] := tfind_eq_nil hanswer
  rw [State.takeRest, hw, hlines, List.foldl_nil, htrunks, List.foldl_cons, List.foldl_nil, h.take hrest, hanswers, List.foldl_nil]

theorem State.takeRest_one {w : State} (hw : (List.finRange 12).foldl State.takeReceiver s = w) (h : w.OneChange y)
    (hrest : w.atRest) : s.takeRest = w.changed y := by
  cases y with
  | line n => exact State.takeRest_line hw h hrest
  | trunk i => exact State.takeRest_trunk hw h hrest

/-- A phase whose schedule names nothing, or the change that is due. -/
theorem State.phase_one {w : State} {schedule : List ScanItem} (hsched : schedule = [] ∨ schedule = [.change y])
    (hs : s.OneChange y) (hfold : (List.finRange 12).foldl State.takeReceiver s = w) (hfirst : s.receiverFirst y = w)
    (hw : w.OneChange y) (hrest : w.atRest) (hbreaks : w.breaksEarly) :
    (schedule.foldl State.takeItem s).takeRest = w.changed y := by
  rcases hsched with rfl | rfl
  · exact State.takeRest_one hfold hw hrest
  · obtain ⟨hchange, hanswer⟩ := hw.settled
    have htake : s.takeChange y = w.changed y := by rw [State.takeChange_due hs.due, hfirst]
    have hitem : [ScanItem.change y].foldl State.takeItem s = w.changed y := htake
    rw [hitem]
    exact State.takeRest_idle (State.changed_atRest hrest hbreaks y) hchange hanswer

/-! ### One answer change -/

/-- A phase whose schedule names nothing, or the answer change that is due. -/
theorem State.phase_answer {schedule : List ScanItem} (hsched : schedule = [] ∨ schedule = [.answerChange o])
    (hchange : ∀ z, s.loopChangeDue z = false) (hanswer : ∀ p, s.answerChangeDue p = decide (p = o)) (hrest : s.atRest) :
    (schedule.foldl State.takeItem s).takeRest = s.answerChanged o := by
  have hdue : s.answerChangeDue o = true := (hanswer o).trans (decide_eq_true rfl)
  have htake : s.takeAnswerChange o = s.answerChanged o := State.takeAnswerChange_due hdue
  rcases hsched with rfl | rfl
  · have hlines : tfind (fun _ l => l.samples.allAre l.accepted.flip) s.scan.lines = [] := tfind_eq_nil fun n => hchange (.line n)
    have htrunks : tfind (fun _ k => k.samples.allAre k.accepted.flip) s.scan.trunks = [] := tfind_eq_nil fun i => hchange (.trunk i)
    have hanswers : tfind (fun _ f => f.samples.allAre (!f.accepted)) s.scan.answers = [o] := tfind_eq_singleton hanswer
    rw [List.foldl_nil, State.takeRest, State.takeReceivers_idle hrest]
    rw [hlines, List.foldl_nil, htrunks, List.foldl_nil, hanswers, List.foldl_cons, List.foldl_nil, htake]
  · have haccepts := State.answerChanged_accepts hdue
    have hitem : [ScanItem.answerChange o].foldl State.takeItem s = s.answerChanged o := htake
    rw [hitem]
    refine State.takeRest_idle (State.answerChanged_atRest hrest o) (fun z => haccepts.undue (hchange z)) fun p => ?_
    by_cases hp : p = o
    · rw [hp]
      exact State.answerChanged_undue hdue
    · exact haccepts.undueAnswer ((hanswer p).trans (decide_eq_false hp))

/-- The advance of a phase leaves the make time of a break as it was. -/
theorem State.sampled_breaksEarly (h : s.breaksEarly) (x : SampleSet) : (s.sampled x).breaksEarly := fun k a l ha hl => by
  rw [State.sampled_receiver] at ha
  cases hk : s.receiver k with
  | free => simp [hk, Receiver.advance] at ha
  | blocked => simp [hk, Receiver.advance] at ha
  | attached b =>
    cases hp : b.phase with
    | make =>
      rw [hk, Receiver.advance_make hp, Receiver.attached.injEq] at ha
      rw [← ha] at hl
      exact absurd (hp.symm.trans hl) (by simp)
    | brk m =>
      rw [hk, Receiver.advance_brk hp, Receiver.attached.injEq] at ha
      rw [← ha]
      exact h k b m hk hp

/-! ### The clear or digit end that comes first -/

theorem execClear_due {k : ReceiverNo} (h : (s.receiver k).clearDue = true) : exec (.clear k) s = .next (s.takeReceiver k) :=
  congrArg Host.Outcome.next (if_pos h)

theorem execDigitEnd_take {k : ReceiverNo} (h : (s.receiver k).digitEndDue = true) : exec (.digitEnd k) s = .next (s.takeReceiver k) :=
  congrArg Host.Outcome.next (if_pos h)

/-- Settles O20. -/
theorem filtersTakeSamplesAndAcceptChanges : Obligations.FiltersTakeSamplesAndAcceptChanges := by
  refine ⟨fun x schedule s => ⟨s.scanPhase x schedule, rfl, fun n => ?_, fun i => ?_, fun o => ?_⟩, fun x s hbreaks =>
    ⟨fun y schedule w hsched hchange hanswer hw => ?_, fun o schedule hsched hchange hanswer hrest => ?_⟩⟩
  · obtain ⟨haccepts, hchange, -⟩ := s.scanPhase_accepts x schedule
    obtain ⟨hsamples, hgrounds, hcls, htaken⟩ := haccepts.lines n
    have hline : tget (s.sampled x).scan.lines n = _ := s.sampled_line x n
    have hdue := hchange (.line n)
    rw [State.loopChangeDue, State.line, hsamples] at hdue
    have haccepted := htaken.decided hdue
    rw [← hsamples, hline] at haccepted
    rw [hline] at hsamples hgrounds hcls
    exact ⟨hsamples, hgrounds, haccepted, hcls⟩
  · obtain ⟨haccepts, hchange, -⟩ := s.scanPhase_accepts x schedule
    obtain ⟨hsamples, htaken⟩ := haccepts.trunks i
    have htrunk : tget (s.sampled x).scan.trunks i = _ := s.sampled_trunk x i
    have hdue := hchange (.trunk i)
    rw [State.loopChangeDue, State.trunk, hsamples] at hdue
    have haccepted := htaken.decided hdue
    rw [← hsamples, htrunk] at haccepted
    rw [htrunk] at hsamples
    exact ⟨hsamples, haccepted⟩
  · obtain ⟨haccepts, -, hanswer⟩ := s.scanPhase_accepts x schedule
    obtain ⟨hsamples, htaken⟩ := haccepts.answers o
    have hdue := hanswer o
    rw [State.answerChangeDue, hsamples] at hdue
    have haccepted := htaken.decided hdue
    rw [← hsamples, State.sampled_answer] at haccepted
    rw [State.sampled_answer] at hsamples
    exact ⟨hsamples, haccepted⟩
  · have hv : (s.sampled x).OneChange y := ⟨hchange, hanswer⟩
    have hearly := State.sampled_breaksEarly hbreaks x
    have hphase : (schedule.foldl State.takeItem (s.sampled x)).takeRest = w.changed y := by
      obtain ⟨rfl, hrest⟩ | ⟨r, k, a, hnamed, hreg, hk, hr, hothers, htake⟩ := hw
      · exact State.phase_one hsched hv (State.takeReceivers_idle hrest) (State.receiverFirst_idle hrest y) hv hrest hearly
      · subst hr
        have hwtake : w = (s.sampled x).takeReceiver k := by
          obtain ⟨hdue, hexec⟩ | ⟨hdue, hexec⟩ := htake
          · exact (Host.Outcome.next.inj ((execClear_due hdue).symm.trans hexec)).symm
          · exact (Host.Outcome.next.inj ((execDigitEnd_take hdue).symm.trans hexec)).symm
        have hwrest : w.atRest ∧ ((s.sampled x).breaksEarly → w.breaksEarly) := by
          rw [hwtake]
          obtain ⟨hdue, -⟩ | ⟨hdue, -⟩ := htake
          · exact State.takeReceiver_clear hk hreg hothers (hk ▸ hdue)
          · exact State.takeReceiver_digit hk hothers (hk ▸ hdue)
        obtain ⟨hrest, hkeep⟩ := hwrest
        have hfirst : (s.sampled x).receiverFirst y = w := by
          rw [State.receiverFirst, hnamed, hwtake]
          simp only [Option.bind_some, hreg]
        have hone : w.OneChange y := hv.of_filters (hwtake ▸ (State.takeReceiver_moves _ k .refl).filters)
        have hfold := State.takeReceivers_one (List.finRange 12) (List.mem_finRange k) hothers (hwtake ▸ hrest)
        exact State.phase_one hsched hv (hfold.trans hwtake.symm) hfirst hone hrest (hkeep hearly)
    refine ⟨?_, ?_⟩
    · rintro n rfl
      exact congrArg Host.Outcome.next hphase
    · rintro i rfl
      exact congrArg Host.Outcome.next hphase
  · have hphase := State.phase_answer hsched hchange hanswer hrest
    have haccepted : (tget (s.sampled x).scan.answers o).accepted = (tget s.scan.answers o).accepted := by rw [State.sampled_answer]
    rw [State.answerChanged, haccepted] at hphase
    exact congrArg Host.Outcome.next hphase

end Sys2Proof.Machine
end

section
/-! SUPPORT. The reads: what each answers on a port that takes it (R17, R36, R55, R69, R74, R93, R111, R128, R137, R147, R152, R159, R166,
R168, R184). -/

namespace Sys2Proof.Machine

variable {s : State} {x : Side} {p : Port}

/-! ### Reads that run -/

/-- A read of the controller set runs to the state it read with its response. -/
theorem State.runs_read {r : Response} {c : Instr} {body : State → Response}
    (he : exec c s = .next (s.readCommand c (.controller x) .controllers body)) (hb : body s = r) :
    s.runs (.controller x) c (s.answer (.controller x) r) := fun hl hf => by
  rw [he, State.readCommand_takes ⟨hl, hf x rfl⟩, hb]

/-- A read of the set for all ports runs so on each port. -/
theorem State.runs_read_all {r : Response} {c : Instr} {body : State → Response}
    (he : exec c s = .next (s.readCommand c p .all body)) (hb : body s = r) : s.runs p c (s.answer p r) := by
  cases p with
  | controller x => exact fun hl hf => by rw [he, State.readCommand_all_takes ⟨hl, hf x rfl⟩, hb]
  | billing => exact State.runs_billing he (by decide) (by rw [hb])

/-- A read of the billing link. -/
theorem State.runs_read_billing {r : Response} {c : Instr} {body : State → Response}
    (he : exec c s = .next (s.readCommand c .billing .billing body)) (hb : body s = r) :
    s.runs .billing c (s.answer .billing r) :=
  State.runs_billing he (by decide) (by rw [hb])

/-- A number of the model as it is carried in an operand. -/
theorem toNat_ofNat_val {m w : Nat} (i : Fin m) (h : m ≤ 2 ^ w) : (BitVec.ofNat w i.val).toNat = i.val := by
  rw [BitVec.toNat_ofNat, Nat.mod_eq_of_lt (i.isLt.trans_le h)]

/-! ### The responses -/

theorem readRegisterResponse_done {b : Byte} (h : b.toNat < 40) : readRegisterResponse b s =
    ⟨.done, encRegister (s.reg ⟨b.toNat, h⟩) (s.subject (.register ⟨b.toNat, h⟩))⟩ := by
  rw [readRegisterResponse, numbered_val ⟨b.toNat, h⟩ rfl]

theorem readRegisterResponse_bad {b : Byte} (h : 40 ≤ b.toNat) : readRegisterResponse b s = .of .badOperand := by
  rw [readRegisterResponse, numbered_none h]

theorem readMeterContextResponse_done {b : Byte} (h : b.toNat < 40) : readMeterContextResponse b s =
    ⟨.done, encContext (s.reg ⟨b.toNat, h⟩).meter⟩ := by
  rw [readMeterContextResponse, numbered_val ⟨b.toNat, h⟩ rfl]

theorem readMeterContextResponse_bad {b : Byte} (h : 40 ≤ b.toNat) : readMeterContextResponse b s = .of .badOperand := by
  rw [readMeterContextResponse, numbered_none h]

theorem readReceiverResponse_done {b : Byte} (h : b.toNat < 12) : readReceiverResponse b s =
    ⟨.done, s.encReceiver (s.receiver ⟨b.toNat, h⟩)⟩ := by
  rw [readReceiverResponse, numbered_val ⟨b.toNat, h⟩ rfl]

theorem readReceiverResponse_bad {b : Byte} (h : 12 ≤ b.toNat) : readReceiverResponse b s = .of .badOperand := by
  rw [readReceiverResponse, numbered_none h]

theorem readSenderResponse_done {b : Byte} (h : b.toNat < 6) : readSenderResponse b s =
    ⟨.done, encSender (s.sender ⟨b.toNat, h⟩)⟩ := by
  rw [readSenderResponse, numbered_val ⟨b.toNat, h⟩ rfl]

theorem readSenderResponse_bad {b : Byte} (h : 6 ≤ b.toNat) : readSenderResponse b s = .of .badOperand := by
  rw [readSenderResponse, numbered_none h]

/-- The trunk group that Read Element carries: that of an outgoing trunk, the last 32 elements. -/
theorem readElement_group (s : State) {e : Nat} (h : e < 352) :
    ((numbered 32 (e - 320)).bind fun o => if 320 ≤ e then (tget s.net.groups o).map (·.val) else none) =
      if g : 320 ≤ e then (tget s.net.groups ⟨e - 320, by omega⟩).map (·.val) else none := by
  rw [numbered_val ⟨e - 320, by omega⟩ rfl]
  by_cases g : 320 ≤ e <;> simp [g]

theorem readElementResponse_done {e : Half} (h : e.toNat < 352) : readElementResponse e s = ⟨.done,
    enc1 (s.elem ⟨e.toNat, h⟩).code ++ opt1 ((s.readElementRegister ⟨e.toNat, h⟩).map (·.val)) ++
    opt1 (if g : 320 ≤ e.toNat then (tget s.net.groups ⟨e.toNat - 320, by omega⟩).map (·.val) else none) ++
    enc1 s.net.huntPointer.val⟩ := by
  rw [← readElement_group s h, readElementResponse, numbered_val ⟨e.toNat, h⟩ rfl]

theorem readElementResponse_bad {e : Half} (h : 352 ≤ e.toNat) : readElementResponse e s = .of .badOperand := by
  rw [readElementResponse, numbered_none h]

theorem readLineResponse_line {number : Half} {n : LineNo} (h : number.toNat = n.val) :
    readLineResponse 0 number s = ⟨.done, s.encLine n⟩ := by
  rw [readLineResponse, terminalOperand_line h]

theorem readLineResponse_trunk {number : Half} {i : TrunkNo} (h : number.toNat = i.val) :
    readLineResponse 1 number s = ⟨.done, s.encTrunk i⟩ := by
  rw [readLineResponse, terminalOperand_trunk h]

theorem readLineResponse_answer {number : Half} {o : OutNo} (h : number.toNat = o.val) :
    readLineResponse 2 number s = ⟨.done, s.encAnswer o⟩ := by
  rw [readLineResponse, terminalOperand_none (.inl (by decide)), numbered_val o h]
  rfl

theorem readLineResponse_bad {kind : Byte} {number : Half} (h : 3 ≤ kind.toNat ∨ (kind = 0 ∧ 512 ≤ number.toNat) ∨
    (kind = 1 ∧ 16 ≤ number.toNat) ∨ (kind = 2 ∧ 32 ≤ number.toNat)) : readLineResponse kind number s = .of .badOperand := by
  have hterminal : terminalOperand kind number = none := by
    refine terminalOperand_none ?_
    rcases h with h | h | h | ⟨rfl, -⟩
    · exact .inl (by omega)
    · exact .inr (.inl h)
    · exact .inr (.inr h)
    · exact .inl (by decide)
  rw [readLineResponse, hterminal]
  split
  case h_1 => contradiction
  case h_2 => contradiction
  case h_3 =>
    split
    case h_1 o hkind hnumber =>
      have hlt : number.toNat < 32 := numbered_eq_some_iff.1 hnumber ▸ o.isLt
      rcases h with h | ⟨rfl, -⟩ | ⟨rfl, -⟩ | ⟨-, h⟩
      · omega
      · contradiction
      · contradiction
      · omega
    case h_2 => rfl

theorem readNodeResponse_done {b : Byte} {n : NodeNo} (h : b.toNat = n.val) : readNodeResponse b s = ⟨.done,
    ([1, 2, 3, 4, 5, 6, 7, 8, 9, 0] : List Digit).flatMap (fun d => encSlot (tget (tget s.trans.nodes n) d)) ++
      enc1 s.trans.incomingRoot.val⟩ := by
  rw [readNodeResponse, numbered_val n h, slotOrder]

theorem readNodeResponse_bad {b : Byte} (h : 128 ≤ b.toNat) : readNodeResponse b s = .of .badOperand := by
  rw [readNodeResponse, numbered_none h]

theorem readRouteResponse_done {b : Byte} {r : RouteNo} (h : b.toNat = r.val) : readRouteResponse b s =
    ⟨.done, encRoute (s.route r).entry ++ enc1 (s.route r).refCount⟩ := by
  rw [readRouteResponse, numbered_val r h]

theorem readRouteResponse_bad {b : Byte} (h : 48 ≤ b.toNat) : readRouteResponse b s = .of .badOperand := by
  rw [readRouteResponse, numbered_none h]

theorem readDirectoryResponse_done {slot : Half} {d : Fin 1000} (h : slot.toNat = d.val) : readDirectoryResponse slot s =
    ⟨.done, encDirectory (tget s.trans.directory d)⟩ := by
  rw [readDirectoryResponse, numbered_val d h]

theorem readDirectoryResponse_bad {slot : Half} (h : 1000 ≤ slot.toNat) : readDirectoryResponse slot s = .of .badOperand := by
  rw [readDirectoryResponse, numbered_none h]

theorem readTariffCellResponse_done {table zone band : Byte} {pending : Bool} {z : Zone} {y : Band}
    (ht : table.toNat = pending.toNat) (hz : zone.toNat = z.val) (hy : band.toNat = y.code) :
    readTariffCellResponse table zone band s =
      ⟨.done, encCell (tget (if pending then s.tariff.pending else s.tariff.active) (cellIndex z y))⟩ := by
  rw [readTariffCellResponse, tableOperand, flagOperand_eq_some_iff.2 ht, numbered_val z hz, bandOperand_eq_some_iff.2 hy]

theorem readTariffCellResponse_bad {table zone band : Byte} (h : 2 ≤ table.toNat ∨ 8 ≤ zone.toNat ∨ 3 ≤ band.toNat) :
    readTariffCellResponse table zone band s = .of .badOperand := by
  have hnone : tableOperand table = none ∨ numbered 8 zone.toNat = none ∨ bandOperand band = none :=
    h.imp flagOperand_eq_none (.imp numbered_none bandOperand_eq_none)
  unfold readTariffCellResponse
  split
  · simp_all
  · rfl

/-- The two bytes in which Probe Access gives the outcome of the checks. -/
def RouteCheck.probed : RouteCheck → List Byte
  | .accepted => [0, 255]
  | .noRoom => [0, 255]
  | .invalidRoute => [1, 0]
  | .level => [1, 1]
  | .ticketsFull => [1, 2]

theorem probeAccessResponse_eq {kind : Byte} {number : Half} {b : Byte} {y : Terminal} {r : RouteNo}
    (hy : terminalOperand kind number = some y) (hr : b.toNat = r.val) : probeAccessResponse kind number b s =
      ⟨.done, (s.checkRoute (s.route r).entry (s.accessLevel y) true).probed⟩ := by
  simp only [probeAccessResponse, hy, numbered_val r hr]
  cases s.checkRoute (s.route r).entry (s.accessLevel y) true <;> rfl

theorem State.checkRoute_invalid {e : RouteEntry} {level : Nat} (h : e.terms = none) :
    s.checkRoute e level true = .invalidRoute := by
  simp only [State.checkRoute, h]

/-- The checks without the room check. -/
theorem State.checkRoute_terms {e : RouteEntry} {level required : Nat} {zone : Zone} {ticketed : Bool}
    (h : e.terms = some (required, zone, ticketed)) : s.checkRoute e level true =
      if level < required then .level
      else if ticketed = true ∧ 64 ≤ s.tickets.stored.length + s.tickets.reserved then .ticketsFull
      else .accepted := by
  simp only [State.checkRoute, h, Bool.not_true, Bool.false_eq_true, and_false, if_false]
  rfl

theorem probeAccessResponse_bad {kind : Byte} {number : Half} {b : Byte} (h : 2 ≤ kind.toNat ∨ (kind = 0 ∧ 512 ≤ number.toNat) ∨
    (kind = 1 ∧ 16 ≤ number.toNat) ∨ 48 ≤ b.toNat) : probeAccessResponse kind number b s = .of .badOperand := by
  have hnone : terminalOperand kind number = none ∨ numbered 48 b.toNat = none := by
    rcases h with h | h | h | h
    · exact .inl (terminalOperand_none (.inl h))
    · exact .inl (terminalOperand_none (.inr (.inl h)))
    · exact .inl (terminalOperand_none (.inr (.inr h)))
    · exact .inr (numbered_none h)
  unfold probeAccessResponse
  split
  · simp_all
  · rfl

theorem readMeterResponse_done {equipment : Half} {party : Byte} {n : LineNo} {y : Party} (hn : equipment.toNat = n.val)
    (hy : party.toNat = y.code) : readMeterResponse equipment party s =
      ⟨.done, encMeter (tget s.store.meters (Subscriber.meterIndex ⟨n, y⟩)) ++ enc2 s.store.fullCount⟩ := by
  rw [readMeterResponse, subscriberOperand_eq hn hy]

theorem readMeterResponse_bad {equipment : Half} {party : Byte} (h : 512 ≤ equipment.toNat ∨ 2 ≤ party.toNat) :
    readMeterResponse equipment party s = .of .badOperand := by
  rw [readMeterResponse, subscriberOperand_eq_none h]

theorem readTicketResponse_done {t : Ticket} {rest : List Ticket} (h : s.tickets.stored = t :: rest) :
    readTicketResponse s = ⟨.done, encTicket t⟩ := by
  rw [readTicketResponse, h]

theorem readTicketResponse_empty (h : s.tickets.stored = []) : readTicketResponse s = .of .empty := by
  rw [readTicketResponse, h]

theorem readSnapshotResponse_ready {b : Byte} {k : Fin 64} (hk : b.toNat = k.val) (h : s.store.snapshot = .ready) :
    readSnapshotResponse b s = ⟨.done, encSnapshotBlock s.store k⟩ := by
  simp only [readSnapshotResponse, numbered_val k hk, h]

theorem readSnapshotResponse_busy {b : Byte} {k : Fin 64} (hk : b.toNat = k.val) (h : s.sweeping) :
    readSnapshotResponse b s = .of .busy := by
  obtain ⟨position, time, h⟩ := h
  simp only [readSnapshotResponse, numbered_val k hk, h]

theorem readSnapshotResponse_idle {b : Byte} {k : Fin 64} (hk : b.toNat = k.val) (h : s.store.snapshot = .idle) :
    readSnapshotResponse b s = .of .wrongState := by
  simp only [readSnapshotResponse, numbered_val k hk, h]

theorem readSnapshotResponse_bad {b : Byte} (h : 64 ≤ b.toNat) : readSnapshotResponse b s = .of .badOperand := by
  rw [readSnapshotResponse, numbered_none h]

/-! ### The reads of a controller port -/

/-- Settles O8. -/
theorem readsAnswerTheRecord : Obligations.ReadsAnswerTheRecord := by
  refine ⟨fun x s => ⟨fun b => ⟨fun h => ⟨?_, ?_⟩, fun h => ⟨?_, ?_⟩⟩, fun b => ⟨fun h => ?_, fun h => ?_⟩,
      fun b => ⟨fun h => ?_, fun h => ?_⟩, fun e => ⟨fun h => ?_, fun h => ?_⟩, State.runs_read rfl rfl⟩,
    fun x s => ⟨fun n => ?_, fun i => ?_, fun o => ?_, fun n => ?_, fun r => ?_, fun d => ?_, fun z b => ⟨?_, ?_⟩,
      State.runs_read rfl rfl, fun n r => ?_, fun i r => ?_⟩,
    fun p s => ⟨fun hl => ?_, State.runs_read_all rfl rfl, fun n y => ?_, ?_⟩,
    fun x s => ⟨fun kind n h => ?_, fun b => ⟨fun h => ?_, fun h => ?_⟩, fun d h => ?_, fun table zone band h => ?_,
      fun kind n b h => ?_, fun n y h => ?_⟩,
    fun s b h => State.runs_read_billing rfl (readSnapshotResponse_bad h)⟩
  · exact State.runs_read rfl (readRegisterResponse_bad h)
  · exact State.runs_read rfl (readMeterContextResponse_bad h)
  · exact State.runs_read rfl (readRegisterResponse_done h)
  · exact State.runs_read rfl (readMeterContextResponse_done h)
  · exact State.runs_read rfl (readReceiverResponse_bad h)
  · exact State.runs_read rfl (readReceiverResponse_done h)
  · exact State.runs_read rfl (readSenderResponse_bad h)
  · exact State.runs_read rfl (readSenderResponse_done h)
  · exact State.runs_read rfl (readElementResponse_bad h)
  · exact State.runs_read rfl (readElementResponse_done h)
  · exact State.runs_read rfl (readLineResponse_line (toNat_ofNat_val n (by decide)))
  · exact State.runs_read rfl (readLineResponse_trunk (toNat_ofNat_val i (by decide)))
  · exact State.runs_read rfl (readLineResponse_answer (toNat_ofNat_val o (by decide)))
  · exact State.runs_read rfl (readNodeResponse_done (toNat_ofNat_val n (by decide)))
  · exact State.runs_read rfl (readRouteResponse_done (toNat_ofNat_val r (by decide)))
  · exact State.runs_read rfl (readDirectoryResponse_done (toNat_ofNat_val d (by decide)))
  · exact State.runs_read rfl (readTariffCellResponse_done (pending := false) rfl (toNat_ofNat_val z (by decide)) (by cases b <;> rfl))
  · exact State.runs_read rfl (readTariffCellResponse_done (pending := true) rfl (toNat_ofNat_val z (by decide)) (by cases b <;> rfl))
  · refine State.runs_read rfl ((probeAccessResponse_eq (terminalOperand_line (toNat_ofNat_val n (by decide)))
      (toNat_ofNat_val r (by decide))).trans ?_)
    cases hterms : (s.route r).entry.terms with
    | none => rw [State.checkRoute_invalid hterms, RouteCheck.probed]
    | some terms =>
      rw [State.checkRoute_terms hterms, apply_ite RouteCheck.probed, apply_ite RouteCheck.probed]
      rfl
  · refine State.runs_read rfl ((probeAccessResponse_eq (terminalOperand_trunk (toNat_ofNat_val i (by decide)))
      (toNat_ofNat_val r (by decide))).trans ?_)
    cases hterms : (s.route r).entry.terms with
    | none => rw [State.checkRoute_invalid hterms, RouteCheck.probed]
    | some terms =>
      rw [State.checkRoute_terms hterms, apply_ite RouteCheck.probed, apply_ite RouteCheck.probed]
      rfl
  · exact congrArg Host.Outcome.next (if_pos hl)
  · exact State.runs_read_all rfl (readMeterResponse_done (toNat_ofNat_val n (by decide)) (by cases y <;> rfl))
  · rintro rfl
    refine ⟨fun t rest h => State.runs_read_billing rfl (readTicketResponse_done h),
      fun h => State.runs_read_billing rfl (readTicketResponse_empty h), fun b => ?_⟩
    have hb : (BitVec.ofNat 8 b.val).toNat = b.val := toNat_ofNat_val b (by decide)
    exact ⟨fun h => State.runs_read_billing rfl (readSnapshotResponse_ready hb h),
      fun h => State.runs_read_billing rfl (readSnapshotResponse_busy hb h),
      fun h => State.runs_read_billing rfl (readSnapshotResponse_idle hb h)⟩
  · exact State.runs_read rfl (readLineResponse_bad h)
  · exact State.runs_read rfl (readNodeResponse_bad h)
  · exact State.runs_read rfl (readRouteResponse_bad h)
  · exact State.runs_read rfl (readDirectoryResponse_bad h)
  · exact State.runs_read rfl (readTariffCellResponse_bad h)
  · exact State.runs_read rfl (probeAccessResponse_bad h)
  · exact State.runs_read_all rfl (readMeterResponse_bad h)

end Sys2Proof.Machine
end

section
/-! SUPPORT. The records as read (11.6): each record is cut where its fields begin. -/

namespace Sys2Proof.Machine

/-! ### Bytes of a record -/

/-- The byte of the digit at an index, 0 where no digit is held. -/
def digitByte (ds : List Digit) (k : Nat) : Byte := BitVec.ofNat 8 (((ds[k]?).map digitPulses).getD 0)

theorem digitByte_none {ds : List Digit} {k : Nat} (h : ds.length ≤ k) : digitByte ds k = BitVec.ofNat 8 0 := by
  rw [digitByte.eq_def, List.getElem?_eq_none h]
  rfl

/-- Fourteen digit bytes. -/
def digitBytes (ds : List Digit) : List Byte := (List.range 14).map (digitByte ds)

theorem digitBytes_eq (ds : List Digit) : digitBytes ds = [digitByte ds 0, digitByte ds 1, digitByte ds 2, digitByte ds 3,
    digitByte ds 4, digitByte ds 5, digitByte ds 6, digitByte ds 7, digitByte ds 8, digitByte ds 9, digitByte ds 10, digitByte ds 11,
    digitByte ds 12, digitByte ds 13] := rfl

theorem flatMap_enc1 {α : Type} (f : α → Nat) (l : List α) : l.flatMap (fun a => enc1 (f a)) = l.map fun a => BitVec.ofNat 8 (f a) :=
  List.map_eq_flatMap.symm

theorem flatMap_enc1_numbers (l : List Nat) : l.flatMap enc1 = l.map (BitVec.ofNat 8) := flatMap_enc1 id l

theorem encDigits14_eq (ds : List Digit) : encDigits14 ds = digitBytes ds := by
  refine List.ext_getElem? fun k => ?_
  rw [encDigits14, flatMap_enc1_numbers, digitBytes, List.getElem?_map, List.getElem?_map]
  by_cases hk : k < 14
  · rw [List.getElem?_take_of_lt hk, List.getElem?_range hk]
    by_cases hd : k < ds.length
    · simp [digitByte, List.getElem?_append, hd]
    · rw [List.getElem?_append_right (by simpa using hd), List.getElem?_replicate, List.length_map, if_pos (by omega),
        Option.map_some, Option.map_some, digitByte_none (not_lt.1 hd)]
  · rw [List.getElem?_eq_none (by simp; omega), List.getElem?_eq_none (by simpa using hk)]
    rfl

/-- The digits of a record that holds them in fourteen bytes from `m`. -/
theorem getElem?_of_digitBytes {b : List Byte} {m k : Nat} {ds : List Digit} (h : (b.drop m).take 14 = digitBytes ds) (hk : k < 14) :
    b[m + k]? = some (BitVec.ofNat 8 (((ds[k]?).map digitPulses).getD 0)) := by
  rw [← List.getElem?_drop, ← List.getElem?_take_of_lt hk, h, digitBytes, List.getElem?_map, List.getElem?_range hk]
  rfl

theorem EventKind.code_lt (k : EventKind) : k.code < 23 := by
  cases k <;> decide

/-- The bit of a kind in a record that holds a pending set in three bytes from `m`. -/
theorem getElem?_of_encPending {b : List Byte} {m : Nat} {p : BitVec 24} (h : (b.drop m).take 3 = encPending p) (k : EventKind) :
    (b[m + k.code / 8]?).map (fun x => x.getLsbD (k.code % 8)) = some (p.getLsbD k.code) := by
  have hk := k.code_lt
  rw [← List.getElem?_drop, ← List.getElem?_take_of_lt (show k.code / 8 < 3 by omega), h]
  have hbyte : (encPending p)[k.code / 8]? = some (p.extractLsb' (8 * (k.code / 8)) 8) := by
    have hcases : k.code / 8 = 0 ∨ k.code / 8 = 1 ∨ k.code / 8 = 2 := by omega
    rcases hcases with h | h | h <;> rw [h] <;> rfl
  rw [hbyte, Option.map_some, BitVec.getLsbD_extractLsb', Nat.div_add_mod, decide_eq_true (Nat.mod_lt _ (by decide)), Bool.true_and]

/-! ### Lists of items of one length -/

section
variable {α : Type} {f : α → List Byte} {c : Nat}

theorem length_flatMap_const (hf : ∀ a, (f a).length = c) (l : List α) : (l.flatMap f).length = c * l.length := by
  induction l with
  | nil => rfl
  | cons a l ih => rw [List.flatMap_cons, List.length_append, hf, ih, List.length_cons, Nat.mul_succ, Nat.add_comm]

/-- The item at an index, `c` bytes for each before it. -/
theorem take_drop_flatMap (hf : ∀ a, (f a).length = c) (rest : List Byte) {l : List α} {k : Nat} {a : α} (h : l[k]? = some a) :
    ((l.flatMap f ++ rest).drop (c * k)).take c = f a := by
  induction l generalizing k with
  | nil => simp at h
  | cons b l ih =>
    cases k with
    | zero =>
      obtain rfl : b = a := by simpa using h
      rw [Nat.mul_zero, List.drop_zero, List.flatMap_cons, List.append_assoc, List.take_left' (hf b)]
    | succ k =>
      rw [Nat.mul_succ, Nat.add_comm, ← List.drop_drop, List.flatMap_cons, List.append_assoc, List.drop_left' (hf b)]
      exact ih (by simpa using h)

/-- What follows the items. -/
theorem drop_flatMap (hf : ∀ a, (f a).length = c) (rest : List Byte) (l : List α) :
    (l.flatMap f ++ rest).drop (c * l.length) = rest :=
  List.drop_left' (length_flatMap_const hf l)

end

/-! ### Call registers and tickets -/

/-- The bytes of an origin as a register shows it. -/
def showsOrigin (o : Option Origin) (bytes : List Byte) : Prop :=
  (∀ n y, o = some (.line n y) → bytes = enc1 0 ++ enc2 n.val ++ enc1 y.code) ∧
  (∀ i, o = some (.trunk i) → bytes = enc1 1 ++ enc2 i.val ++ enc1 255) ∧
  (o = none → bytes = enc1 255 ++ enc2 65535 ++ enc1 255)

/-- A register as read, after its origin: 47 bytes. -/
def registerTail (g : CallRegister) (j : SubjectRec) : List Byte :=
  enc1 g.digits.length ++ digitBytes g.digits ++
  opt1 (g.walkNode.map (·.val)) ++ opt1 (g.route.map (·.val)) ++
  opt2 (g.destination.map (·.line.val)) ++ opt1 (g.destination.map (·.party.code)) ++
  opt2 (g.path.oLink.map (·.val)) ++ opt2 (g.path.middle.map (·.val)) ++ opt2 (g.path.tLink.map (·.val)) ++
  opt1 (g.receiver.map (·.val)) ++ opt1 (g.sender.map (·.val)) ++
  opt1 (g.tone.map (·.1.code)) ++ opt1 (g.tone.map (·.2.code)) ++
  opt1 (g.timer.map (·.kind.code)) ++ enc3 ((g.timer.map (·.remaining)).getD 0) ++
  encFlag g.meter.isSome ++ enc2 ((g.meter.map (·.units)).getD 0) ++ enc3 ((g.meter.map (·.duration)).getD 0) ++
  encFlag g.reservation ++ opt1 (g.endCause.map (·.code)) ++
  enc1 (handlerCode (j.binding.map (·.port))) ++ encPending j.pending ++ encFlag j.queued

theorem encRegister_eq (g : CallRegister) (j : SubjectRec) : ∃ x y z w : Byte,
    encRegister g j = enc1 g.state.code ++ [x, y, z, w] ++ registerTail g j ∧ showsOrigin g.origin [x, y, z, w] := by
  unfold encRegister registerTail
  rw [encDigits14_eq]
  cases g.origin with
  | none => exact ⟨_, _, _, _, by simp only [List.append_assoc]; rfl, by simp, by simp, fun _ => rfl⟩
  | some o =>
    cases o with
    | line n y =>
      exact ⟨_, _, _, _, by simp only [List.append_assoc]; rfl, fun m z h => by cases h; rfl, by simp, by simp⟩
    | trunk i =>
      exact ⟨_, _, _, _, by simp only [List.append_assoc]; rfl, by simp, fun m h => by cases h; rfl, by simp⟩

/-- The three digits of a directory slot. -/
theorem slotDigits_eq {slot : Fin 1000} {d1 d2 d3 : Digit} (h : slot.val = 100 * d1.val + 10 * d2.val + d3.val) :
    ([slot.val / 100, slot.val / 10 % 10, slot.val % 10].map fun x => if x = 0 then 10 else x) =
      [digitPulses d1, digitPulses d2, digitPulses d3] := by
  have h1 : slot.val / 100 = d1.val := by omega
  have h2 : slot.val / 10 % 10 = d2.val := by omega
  have h3 : slot.val % 10 = d3.val := by omega
  rw [h1, h2, h3]
  rfl

/-- The bytes of a ticket's number, or of its equipment where it has none. -/
def showsNumber (t : Ticket) (bytes : List Byte) : Prop :=
  (t.number = none → bytes = enc2 t.equipment.val ++ enc1 0 ++ enc1 0) ∧
  ∀ d d1 d2 d3 : Digit, ∀ slot : Fin 1000, slot.val = 100 * d1.val + 10 * d2.val + d3.val → t.number = some (d, slot) →
    bytes = encDigit d ++ encDigit d1 ++ encDigit d2 ++ encDigit d3

/-- A ticket as read, after its number: 29 bytes. -/
def ticketTail (t : Ticket) : List Byte :=
  enc1 t.party.code ++ enc1 t.digits.length ++ digitBytes t.digits ++ enc1 t.route.val ++ enc1 t.zone.val ++
  enc1 t.answerBand.code ++ enc2 t.answerDay.toNat ++ enc2 t.answerMinute ++ enc3 t.duration ++ enc2 t.units ++
  encFlag t.tariffChanged

theorem encTicket_eq (t : Ticket) : ∃ x y z w : Byte,
    encTicket t = enc2 t.sequence.toNat ++ encFlag t.number.isNone ++ [x, y, z, w] ++ ticketTail t ∧
      showsNumber t [x, y, z, w] := by
  unfold encTicket ticketTail showsNumber
  rw [encDigits14_eq]
  cases t.number with
  | none => exact ⟨_, _, _, _, by simp only [List.append_assoc]; rfl, fun _ => rfl, by simp⟩
  | some number =>
    refine ⟨_, _, _, _, by simp only [List.append_assoc]; rfl, by simp, fun d d1 d2 d3 slot hslot h => ?_⟩
    cases h
    have hdigits := congrArg (fun l : List Nat => encDigit d ++ l.flatMap enc1) (slotDigits_eq hslot)
    exact hdigits

/-! ### Terminals -/

/-- The party carried for a line that waits once. -/
theorem State.carriedParty_eq {s : State} {n : LineNo} {y : Party} (h : .line n y ∈ s.scan.queue ++ s.scan.deferred)
    (hone : ∀ z, .line n z ∈ s.scan.queue ++ s.scan.deferred → z = y) : s.carriedParty (.line n) = some y := by
  unfold State.carriedParty
  cases he : (s.scan.queue ++ s.scan.deferred).find? fun e => decide (e.terminal = .line n) with
  | none => exact absurd (decide_eq_true rfl) (List.find?_eq_none.1 he _ h)
  | some e =>
    have hmem := List.mem_of_find?_eq_some he
    have hterminal : e.terminal = .line n := by simpa using List.find?_some he
    cases e with
    | line m z =>
      obtain rfl : m = n := by simpa [Origin.terminal] using hterminal
      rw [hone z hmem]
      rfl
    | trunk i => simp [Origin.terminal] at hterminal

theorem State.carriedParty_none {s : State} {n : LineNo} (h : ∀ y, .line n y ∉ s.scan.queue ++ s.scan.deferred) :
    s.carriedParty (.line n) = none := by
  unfold State.carriedParty
  rw [List.find?_eq_none.2]
  · rfl
  · intro e he
    cases e with
    | line m z =>
      rintro hm
      obtain rfl : m = n := by simpa [Origin.terminal] using hm
      exact h z he
    | trunk i => simp [Origin.terminal]

theorem State.queuePosition_eq {s : State} {t : Terminal} {ahead behind : List Origin} {o : Origin}
    (h : s.scan.queue = ahead ++ o :: behind) (ho : o.terminal = t) (hahead : ∀ e ∈ ahead, e.terminal ≠ t) :
    s.queuePosition t = some ahead.length := by
  have hindex : s.scan.queue.findIdx (fun e => decide (e.terminal = t)) = ahead.length := by
    rw [h, List.findIdx_append, List.findIdx_eq_length_of_false (by simpa using hahead)]
    simp [List.findIdx_cons, ho]
  rw [State.queuePosition, if_pos (by simp [h, ho]), hindex]

theorem State.queuePosition_none {s : State} {t : Terminal} (h : ∀ e ∈ s.scan.queue, e.terminal ≠ t) :
    s.queuePosition t = none := by
  rw [State.queuePosition, if_neg (by simpa using h)]

theorem answerCode_eq_toNat (b : Bool) : answerCode b = b.toNat := by
  cases b <;> rfl

theorem optTerminal_eq (t : Option Terminal) : ∃ x y z : Byte, optTerminal t = [x, y, z] := by
  cases t with
  | none => exact ⟨_, _, _, rfl⟩
  | some t => cases t <;> exact ⟨_, _, _, rfl⟩

theorem State.encAttached_make (s : State) {a : Attachment} (h : a.phase = .make) : s.encReceiver (.attached a) =
    enc1 1 ++ encFlag a.blockAfterUse ++ enc1 a.register.val ++ optTerminal ((s.reg a.register).origin.map Origin.terminal) ++
      enc1 0 ++ enc1 a.pulses ++ enc2 a.makeTime ++ enc2 65535 ++ encFlag a.dialTone := by
  unfold State.encReceiver
  simp only [h]
  rfl

theorem State.encAttached_brk (s : State) {a : Attachment} {z : Nat} (h : a.phase = .brk z) : s.encReceiver (.attached a) =
    enc1 1 ++ encFlag a.blockAfterUse ++ enc1 a.register.val ++ optTerminal ((s.reg a.register).origin.map Origin.terminal) ++
      enc1 1 ++ enc1 a.pulses ++ enc2 a.makeTime ++ enc2 z ++ encFlag a.dialTone := by
  unfold State.encReceiver
  simp only [h]

/-- The bytes of an attached receiver: the loop phase and the break time by the phase. -/
theorem State.encAttached_eq (s : State) (a : Attachment) : ∃ phase high low : Byte, s.encReceiver (.attached a) =
    enc1 1 ++ encFlag a.blockAfterUse ++ enc1 a.register.val ++ optTerminal ((s.reg a.register).origin.map Origin.terminal) ++
      [phase] ++ enc1 a.pulses ++ enc2 a.makeTime ++ [high, low] ++ encFlag a.dialTone ∧
    (a.phase = .make → [phase] = enc1 0 ∧ [high, low] = enc2 65535) ∧
    ∀ z, a.phase = .brk z → [phase] = enc1 1 ∧ [high, low] = enc2 z := by
  cases h : a.phase with
  | make => exact ⟨_, _, _, s.encAttached_make h, fun _ => ⟨rfl, rfl⟩, by simp⟩
  | brk z => exact ⟨_, _, _, s.encAttached_brk h, by simp, fun w hw => by cases hw; exact ⟨rfl, rfl⟩⟩

/-! ### Senders and orders -/

theorem encBusy_eq (a : Sending) : encSender (.busy a) =
    (enc1 1 ++ encFlag a.blockAfterUse ++ enc1 a.register.val ++ enc1 a.trunk.val ++ enc1 a.digits.length) ++
      (a.digits.map (fun d => BitVec.ofNat 8 (digitPulses d)) ++
        (enc1 a.position ++ enc1 a.phase.code ++ enc1 a.pulsesLeft ++ enc2 a.phaseTime)) := by
  unfold encSender
  rw [← flatMap_enc1 digitPulses]
  simp only [List.append_assoc]
  rfl

/-- The order unit as read, after the order in flight. -/
def ordersTail (u : OrderUnit) (timeout : List Byte) : List Byte :=
  enc1 u.queue.length ++ (u.queue.flatMap encOrder ++ (enc1 u.tag.toNat ++ timeout))

/-- The bytes of the last-timeout record. -/
def showsTimeout (u : OrderUnit) (bytes : List Byte) : Prop :=
  (u.lastTimeout = none → bytes = List.replicate 3 255) ∧
  ∀ o tag, u.lastTimeout = some (o, tag) → bytes = enc1 (kindCode o.kind) ++ opt1 (o.register.map (·.val)) ++ enc1 tag.toNat

theorem encOrders_timeout (u : OrderUnit) : ∃ timeout : List Byte, showsTimeout u timeout ∧
    (u.inFlight = none → encOrders u = (List.replicate 6 255 ++ enc2 0) ++ ordersTail u timeout) ∧
    ∀ f, u.inFlight = some f → encOrders u = (encOrder f.order ++ enc1 f.tag.toNat ++ encFlag f.cancelled ++ enc2 f.time ++
      enc2 f.elements.length) ++ (f.elements.flatMap (fun e => enc2 e.val) ++ ordersTail u timeout) := by
  unfold encOrders showsTimeout ordersTail
  cases u.lastTimeout with
  | none =>
    refine ⟨_, ⟨fun _ => rfl, by simp⟩, fun h => ?_, fun f h => ?_⟩
    · simp only [h, List.append_assoc]
      rfl
    · simp only [h, List.append_assoc]
      rfl
  | some timeout =>
    obtain ⟨o, tag⟩ := timeout
    refine ⟨enc1 (kindCode o.kind) ++ opt1 (o.register.map (·.val)) ++ enc1 tag.toNat, ⟨by simp, fun o tag h => by cases h; rfl⟩, fun h => ?_, fun f h => ?_⟩
    · simp only [h, List.append_assoc]
      rfl
    · simp only [h, List.append_assoc]
      rfl

/-! ### The port status -/

theorem State.encAttentionLine (s : State) (x : Side) : encFlag (s.attentionLine x) = enc1 (if s.att.queue.length ≠ 0 ∧
    (s.att.port x).fenced = false ∧ (s.att.port x).enabled = true then 1 else 0) := by
  unfold State.attentionLine
  cases s.att.queue <;> cases (s.att.port x).fenced <;> cases (s.att.port x).enabled <;> rfl

/-- What the port status shows of a controller port. -/
def State.encSide (s : State) (x : Side) : List Byte :=
  encFlag (s.att.port x).fenced ++ enc1 (s.att.port x).strikes ++ encFlag (s.att.port x).enabled ++
    encFlag (s.attentionLine x) ++ enc1 (s.boundCount x)

/-- The port status after the queue, with the bytes of the last binding that lapsed. -/
def State.portStatusTail (s : State) (timeout : List Byte) : List Byte :=
  enc1 (handlerCode (s.handler .maintenance)) ++ encFlag (s.subject .maintenance).queued ++
    encPending (s.subject .maintenance).pending ++ timeout ++
    enc1 s.att.lastRestart.1.code ++ enc1 s.att.lastRestart.2.code

theorem State.encPortStatus_eq (s : State) (p : Port) : ∃ x y : Byte,
    s.encPortStatus p = (enc1 (portCode p) ++ s.encSide .a ++ s.encSide .b ++ enc1 s.att.queue.length) ++
      (s.att.queue.map (fun j => BitVec.ofNat 8 (subjectIndex j).val) ++ s.portStatusTail [x, y]) ∧
    (s.att.lastTimeout = none → [x, y] = enc2 65535) ∧
    ∀ z j, s.att.lastTimeout = some (z, j) → [x, y] = enc1 (sideCode z) ++ enc1 (subjectIndex j).val := by
  unfold State.encPortStatus State.portStatusTail
  rw [← flatMap_enc1 fun j : Subject => (subjectIndex j).val]
  cases s.att.lastTimeout with
  | none =>
    refine ⟨_, _, ?_, fun _ => rfl, by simp⟩
    simp only [List.append_assoc, List.flatMap_cons, List.flatMap_nil, State.encSide, List.append_nil]
    rfl
  | some timeout =>
    obtain ⟨z, j⟩ := timeout
    refine ⟨BitVec.ofNat 8 (sideCode z), BitVec.ofNat 8 (subjectIndex j).val, ?_, by simp, fun z j h => by cases h; rfl⟩
    simp only [List.append_assoc, List.flatMap_cons, List.flatMap_nil, State.encSide, List.append_nil]
    rfl

end Sys2Proof.Machine
end

section
/-! SUPPORT. Each field of a record at its offset (11.6). -/

namespace Sys2Proof.Machine

/-- The offsets of the order unit as read, for the bytes of its order in flight. -/
theorem encOrders_tail {u : OrderUnit} {timeout b : List Byte} {m : Nat} (h : b.drop m = ordersTail u timeout) :
    (b.drop m).take 1 = enc1 u.queue.length ∧
    (∀ k o, u.queue[k]? = some o → ((b.drop m).drop (1 + 2 * k)).take 2 = encOrder o) ∧
    (b.drop m).drop (1 + 2 * u.queue.length) = enc1 u.tag.toNat ++ timeout := by
  have hdrop : (b.drop m).drop 1 = u.queue.flatMap encOrder ++ (enc1 u.tag.toNat ++ timeout) := by rw [h]; rfl
  refine ⟨by rw [h]; rfl, fun k o hk => ?_, ?_⟩
  · rw [← List.drop_drop, hdrop]
    exact take_drop_flatMap (f := encOrder) (fun _ => rfl) _ hk
  · rw [← List.drop_drop, hdrop]
    exact drop_flatMap (f := encOrder) (fun _ => rfl) _ _

/-- The value of a meter in its block of the snapshot. -/
theorem encSnapshotBlock_value (u : MeterStore) (block : Fin 64) (k : Fin 16) {i : Fin 1024} (hi : i.val = 16 * block.val + k.val) :
    ((encSnapshotBlock u block).drop (4 + 4 * k.val)).take 4 = encMeter (tget u.values i) := by
  have hk : (List.finRange 16)[k.val]? = some k := by
    rw [List.getElem?_eq_getElem (by simp), List.getElem_finRange]
    rfl
  have hvalue := take_drop_flatMap (f := fun k : Fin 16 => encMeter (tget u.values ⟨16 * block.val + k.val, by omega⟩))
    (c := 4) (fun _ => rfl) [] hk
  rw [List.append_nil] at hvalue
  rw [← List.drop_drop, show i = ⟨16 * block.val + k.val, by omega⟩ from Fin.ext hi]
  exact hvalue

theorem encSnapshotBlock_length (u : MeterStore) (block : Fin 64) : (encSnapshotBlock u block).length = 68 := by
  unfold encSnapshotBlock
  rw [List.length_append, length_flatMap_const (c := 4) fun _ => rfl, List.length_finRange]
  rfl

theorem encContext_eq (c : MeterContext) : encContext (some c) =
    enc1 c.zone.val ++ (enc1 c.answerBand.code ++ (enc2 c.answerDay.toNat ++ (enc2 c.answerMinute ++ (enc1 c.band.code ++
    (enc1 c.cell.u0.val ++ (enc2 c.cell.period.val ++ (enc1 c.cell.fraction.val ++ (enc1 c.generation.toNat ++
    (enc1 c.framePosition.val ++ (opt3 c.periodRemaining ++ (enc2 c.units ++ (enc3 c.duration ++ (encFlag c.tariffChanged ++
    (opt2 (c.meter.map (·.line.val)) ++ opt1 (c.meter.map (·.party.code)))))))))))))))) := by
  unfold encContext encCell
  simp only [List.append_assoc]

/-- Settles O9. -/
theorem recordsAsRead : Obligations.RecordsAsRead := by
  refine ⟨fun g j => ?register, fun t => ?ticket, ⟨fun s n => ?line, fun s i => ?trunk, fun s o => ?answer, fun s => ⟨rfl, rfl⟩,
    fun s a => ?receiver, ⟨rfl, rfl⟩, fun a => ?sender⟩, fun u => ?orders, rfl, fun c => ?context, fun u block => ?snapshot,
    fun s p => ?status⟩
  case register =>
    intro b
    obtain ⟨x, y, z, w, hb, hline, htrunk, hnone⟩ := encRegister_eq g j
    change b = _ at hb
    unfold registerTail at hb
    simp only [digitBytes_eq, List.cons_append, List.nil_append, enc1, enc2, enc3, opt1, opt2, encFlag, encPending] at hb
    refine ⟨by rw [hb]; rfl, by rw [hb]; rfl, fun n y h => ?_, fun i h => ?_, fun h => ?_, by rw [hb]; rfl,
      fun k => getElem?_of_digitBytes (by rw [hb, digitBytes_eq]; rfl), by rw [hb]; rfl, by rw [hb]; rfl, by rw [hb]; rfl, by rw [hb]; rfl,
      by rw [hb]; rfl, by rw [hb]; rfl, by rw [hb]; rfl, by rw [hb]; rfl, by rw [hb]; rfl,
      getElem?_of_encPending (by rw [hb]; rfl), by rw [hb]; rfl⟩
    · rw [← hline n y h, hb]; rfl
    · rw [← htrunk i h, hb]; rfl
    · rw [← hnone h, hb]; rfl
  case ticket =>
    intro b
    obtain ⟨x, y, z, w, hb, hnone, hnumber⟩ := encTicket_eq t
    change b = _ at hb
    unfold ticketTail at hb
    simp only [digitBytes_eq, List.cons_append, List.nil_append, enc1, enc2, enc3, encFlag] at hb
    refine ⟨by rw [hb]; rfl, by rw [hb]; rfl, fun h => ?_, fun d d1 d2 d3 slot hslot h => ?_, by rw [hb]; rfl,
      fun k => getElem?_of_digitBytes (by rw [hb, digitBytes_eq]; rfl), by rw [hb]; rfl, by rw [hb]; rfl, by rw [hb]; rfl, by rw [hb]; rfl⟩
    · rw [← hnone h, hb]; rfl
    · rw [← hnumber d d1 d2 d3 slot hslot h, hb]; rfl
  case line =>
    refine ⟨rfl, rfl, rfl, fun y hy hone => ?_, fun h => ?_, rfl, fun ahead y behind h hahead => ?_, fun h => ?_, rfl, rfl, rfl⟩
    · exact congrArg (fun o : Option Party => opt1 (o.map (·.code))) (State.carriedParty_eq hy hone)
    · exact congrArg (fun o : Option Party => opt1 (o.map (·.code))) (State.carriedParty_none h)
    · exact congrArg opt1 (State.queuePosition_eq h rfl hahead)
    · exact congrArg opt1 (State.queuePosition_none h)
  case trunk =>
    refine ⟨rfl, rfl, rfl, fun ahead behind h hahead => ?_, fun h => ?_, rfl, rfl⟩
    · exact congrArg opt1 (State.queuePosition_eq h rfl hahead)
    · exact congrArg opt1 (State.queuePosition_none h)
  case answer =>
    intro f
    unfold State.encAnswer encHeld
    simp only [answerCode_eq_toNat]
    rfl
  case receiver =>
    intro b
    obtain ⟨phase, high, low, hb, hmake, hbrk⟩ := s.encAttached_eq a
    obtain ⟨x, y, z, hterminal⟩ := optTerminal_eq ((s.reg a.register).origin.map Origin.terminal)
    change b = _ at hb
    rw [hterminal] at hb
    have horigin : (b.drop 3).take 3 = optTerminal ((s.reg a.register).origin.map Origin.terminal) := by
      rw [hterminal, hb]; rfl
    have hphase : (b.drop 6).take 1 = [phase] := by rw [hb]; rfl
    have hbreak : (b.drop 10).take 2 = [high, low] := by rw [hb]; rfl
    rw [hphase, hbreak, horigin]
    exact ⟨by rw [hb]; rfl, by rw [hb]; rfl, fun n y h => by rw [h]; rfl, fun i h => by rw [h]; rfl, hmake, hbrk,
      by rw [hb]; rfl, by rw [hb]; rfl⟩
  case sender =>
    intro b
    have hb : b = _ := encBusy_eq a
    have hdrop : b.drop 5 = a.digits.map (fun d => BitVec.ofNat 8 (digitPulses d)) ++
        (enc1 a.position ++ enc1 a.phase.code ++ enc1 a.pulsesLeft ++ enc2 a.phaseTime) := by
      rw [hb]; rfl
    refine ⟨by rw [hb]; rfl, ?_, ?_⟩
    · rw [hdrop, List.take_left' (by simp)]
    · rw [← List.drop_drop, hdrop, List.drop_left' (by simp)]
  case orders =>
    intro b order elements rest
    obtain ⟨timeout, ⟨hnoTimeout, htimeout⟩, hidle, hflight⟩ := encOrders_timeout u
    have hrest : rest = ordersTail u timeout := by
      change b.drop (8 + 2 * elements.length) = _
      cases h : u.inFlight with
      | none =>
        rw [show elements = [] by simp [elements, h], show b = _ from hidle h]
        rfl
      | some f =>
        rw [show elements = f.elements by simp [elements, h], show b = _ from hflight f h, ← List.drop_drop]
        exact drop_flatMap (f := fun e : ElemNo => enc2 e.val) (fun _ => rfl) _ _
    obtain ⟨hlength, hqueue, htail⟩ := encOrders_tail (b := b) hrest
    refine ⟨fun h => ?_, fun f h => ⟨?_, fun k e he => ?_⟩, hlength, hqueue, fun h => ?_, fun o tag h => ?_⟩
    · rw [show b = _ from hidle h]; rfl
    · rw [show b = _ from hflight f h]; rfl
    · rw [show b = _ from hflight f h, ← List.drop_drop]
      exact take_drop_flatMap (f := fun e : ElemNo => enc2 e.val) (fun _ => rfl) _ he
    · rw [← hnoTimeout h]
      exact htail
    · exact htail.trans (by rw [htimeout o tag h]; simp only [order, List.append_assoc])
  case context =>
    rw [encContext_eq c]
    exact ⟨rfl, rfl, rfl, rfl, rfl, rfl, rfl, rfl, rfl⟩
  case snapshot =>
    exact ⟨encSnapshotBlock_length u block, rfl, fun k i hi => encSnapshotBlock_value u block k hi⟩
  case status =>
    intro b q side m
    obtain ⟨x, y, hb, hnone, hsome⟩ := s.encPortStatus_eq p
    change b = _ at hb
    have hside : ∀ z, s.encSide z = side z := fun z => by
      unfold State.encSide
      rw [State.encAttentionLine]
      rfl
    have hqueue : b.drop 12 = s.att.queue.map (fun j => BitVec.ofNat 8 (subjectIndex j).val) ++ s.portStatusTail [x, y] := by
      rw [hb]; rfl
    have htail : ∀ m, b.drop (12 + q + m) = (s.portStatusTail [x, y]).drop m := fun m => by
      rw [← List.drop_drop, ← List.drop_drop, hqueue, List.drop_left' (by simp [q])]
    have htail0 : b.drop (12 + q) = s.portStatusTail [x, y] := htail 0
    have htail2 : b.drop (14 + q) = (s.portStatusTail [x, y]).drop 2 := by rw [show 14 + q = 12 + q + 2 by omega, htail]
    have htail5 : b.drop (17 + q) = (s.portStatusTail [x, y]).drop 5 := by rw [show 17 + q = 12 + q + 5 by omega, htail]
    have htail7 : b.drop (19 + q) = (s.portStatusTail [x, y]).drop 7 := by rw [show 19 + q = 12 + q + 7 by omega, htail]
    rw [htail0, htail5, htail7, ← hside, ← hside]
    refine ⟨by rw [hb]; rfl, by rw [hb]; rfl, by rw [hb]; rfl, by rw [hb]; rfl, fun k j hk => ?_, rfl,
      getElem?_of_encPending (by rw [htail2]; rfl), hnone, hsome, rfl⟩
    rw [← List.getElem?_drop, hqueue, List.getElem?_append_left, List.getElem?_map, hk]
    · rfl
    · simpa using (List.getElem?_eq_some_iff.1 hk).1

end Sys2Proof.Machine
end

section
/-! SUPPORT. The registers at a warm restart (R19): what becomes of each record, of its sender and of its terminals. -/

namespace Sys2Proof.Machine

variable {s t u : State} {r : RegNo}

/-! ### Folds over a list without repetitions -/

theorem foldl_induct {σ ι : Type} {f : σ → ι → σ} {P : List ι → σ → Prop} {s : σ} (h0 : P [] s)
    (hstep : ∀ l a t, a ∉ l → P l t → P (l ++ [a]) (f t a)) {l : List ι} (hl : l.Nodup) : P l (l.foldl f s) := by
  induction l using List.reverseRecOn with
  | nil => exact h0
  | append_singleton l a ih =>
    rw [List.nodup_append] at hl
    obtain ⟨hl, -, hne⟩ := hl
    rw [List.foldl_append]
    exact hstep l a _ (fun ha => hne a ha a (by simp) rfl) (ih hl)

/-! ### The three kinds of register (R19) -/

/-- The restart makes the register FREE. -/
abbrev CallRegister.frees (g : CallRegister) : Prop :=
  g.state ∈ [.dialing, .translated, .ended] ∨ (g.state = .tone ∧ g.path.elements = [])

/-- The restart releases the register into CLEARING. -/
abbrev CallRegister.releases (g : CallRegister) : Prop :=
  g.state ∈ [.connecting, .set, .ringing, .sending, .awaitAnswer] ∨ (g.state = .tone ∧ g.path.elements ≠ [])

theorem CallRegister.releases_not_frees {g : CallRegister} (h : g.releases) : ¬g.frees := by
  rintro (hf | ⟨hf, hp⟩) <;> rcases h with h | ⟨h, hq⟩
  · revert hf h
    cases g.state <;> simp
  · rw [h] at hf
    simp at hf
  · rw [hf] at h
    simp at h
  · exact hq hp

/-- The register stands. -/
theorem CallRegister.kept_iff {g : CallRegister} : (¬g.frees ∧ ¬g.releases) ↔ g.state ∈ [.free, .talk, .clearing] := by
  by_cases hp : g.path.elements = [] <;> cases hs : g.state <;> simp [CallRegister.frees, CallRegister.releases, hs, hp]

theorem State.restartReg_frees (h : (s.reg r).frees) : s.restartReg r = s.restartFree r := by
  unfold State.restartReg
  rcases h with h | ⟨h, hp⟩
  · cases hs : (s.reg r).state <;> simp_all
  · simp [h, hp]

theorem State.restartReg_releases (h : (s.reg r).releases) : s.restartReg r = s.restartRelease r := by
  unfold State.restartReg
  rcases h with h | ⟨h, hp⟩
  · cases hs : (s.reg r).state <;> simp_all
  · simp [h, hp]

theorem State.restartReg_kept (hf : ¬(s.reg r).frees) (hr : ¬(s.reg r).releases) : s.restartReg r = s := by
  have h := CallRegister.kept_iff.1 ⟨hf, hr⟩
  unfold State.restartReg
  cases hs : (s.reg r).state <;> simp_all

/-- A register released at a restart goes through the stages of a release, but not through R13. -/
theorem State.restartRelease_eq (h : (s.reg r).releases) : s.restartRelease r = (s.settled r .restart).clearing r := by
  have htalk : (s.reg r).state ≠ .talk := fun ht => by
    rcases h with h | ⟨h, -⟩
    · rw [ht] at h
      simp at h
    · rw [ht] at h
      cases h
  rw [State.settled, State.settleReservation_returned fun hg => htalk hg.2]
  rfl

/-! ### The records -/

/-- A record after the restart. -/
def CallRegister.restarted (g : CallRegister) : CallRegister :=
  if g.frees then CallRegister.free
  else if g.releases then { g with
    state := .clearing, endCause := some .restart, timer := none, meter := none, tone := none, reservation := false, sender := none }
  else g

theorem CallRegister.restarted_frees {g : CallRegister} (h : g.frees) : g.restarted = CallRegister.free := if_pos h

theorem CallRegister.restarted_releases {g : CallRegister} (h : g.releases) : g.restarted = { g with
    state := .clearing, endCause := some .restart, timer := none, meter := none, tone := none, reservation := false, sender := none } :=
  (if_neg (CallRegister.releases_not_frees h)).trans (if_pos h)

theorem CallRegister.restarted_kept {g : CallRegister} (h : g.state ∈ [.free, .talk, .clearing]) : g.restarted = g := by
  obtain ⟨hf, hr⟩ := CallRegister.kept_iff.2 h
  exact (if_neg hf).trans (if_neg hr)

theorem State.restartFree_reg (s : State) (r q : RegNo) :
    (s.restartFree r).reg q = if q = r then CallRegister.free else s.reg q := by
  rw [State.restartFree, State.freeReg_reg]
  by_cases hq : q = r
  · rw [if_pos hq, if_pos hq]
  · rw [if_neg hq, if_neg hq, State.returnReservation_reg, if_neg hq, State.detachReceiver_reg, if_neg hq]

theorem State.restartReg_reg (h : s.sends r) (q : RegNo) :
    (s.restartReg r).reg q = if q = r then (s.reg r).restarted else s.reg q := by
  by_cases hf : (s.reg r).frees
  · rw [State.restartReg_frees hf, State.restartFree_reg, CallRegister.restarted_frees hf]
  · by_cases hr : (s.reg r).releases
    · rw [State.restartReg_releases hr, State.restartRelease_eq hr, State.clearing, State.modReg_reg, State.settled_reg,
        State.stopped_sender h, CallRegister.restarted_releases hr]
      split
      · rfl
      · next hq => exact State.settled_reg_of_ne h _ hq
    · rw [State.restartReg_kept hf hr, CallRegister.restarted_kept (CallRegister.kept_iff.1 ⟨hf, hr⟩)]
      split
      · next hq => rw [hq]
      · rfl

/-! ### What the treatment of a register leaves alone -/

theorem State.restartReg_rest (s : State) (r : RegNo) : s.restartReg r = { s with
    regs := (s.restartReg r).regs, scan := (s.restartReg r).scan, receivers := (s.restartReg r).receivers
    trans := (s.restartReg r).trans, sig := (s.restartReg r).sig, tickets := (s.restartReg r).tickets
    att := (s.restartReg r).att } := by
  have hfree : s.restartFree r = { s with
      regs := (s.restartFree r).regs, scan := (s.restartFree r).scan, receivers := (s.restartFree r).receivers
      trans := (s.restartFree r).trans, sig := (s.restartFree r).sig, tickets := (s.restartFree r).tickets
      att := (s.restartFree r).att } := by
    apply State.eq_of_fields <;> simp [State.restartFree]
  have hrelease : s.restartRelease r = { s with
      regs := (s.restartRelease r).regs, scan := (s.restartRelease r).scan, receivers := (s.restartRelease r).receivers
      trans := (s.restartRelease r).trans, sig := (s.restartRelease r).sig, tickets := (s.restartRelease r).tickets
      att := (s.restartRelease r).att } := by
    apply State.eq_of_fields <;> simp [State.restartRelease]
  by_cases hf : (s.reg r).frees
  · rwa [State.restartReg_frees hf]
  · by_cases hr : (s.reg r).releases
    · rwa [State.restartReg_releases hr]
    · rw [State.restartReg_kept hf hr]

/-- A register that is made FREE touches no terminal, no sender, no signal and no subject. -/
theorem State.restartFree_quiet (s : State) (r : RegNo) : (s.restartFree r).scan = s.scan ∧ (s.restartFree r).att = s.att ∧
    (s.restartFree r).sig.senders = s.sig.senders ∧ (s.restartFree r).sig.senderSignals = s.sig.senderSignals ∧
    (s.restartFree r).sig.clearTimers = s.sig.clearTimers := by
  simp [State.restartFree]

theorem State.clearing_rest (s : State) (r : RegNo) : s.clearing r = { s with regs := (s.clearing r).regs } := rfl

/-! ### Senders -/

theorem State.stopSender_signals_of_ne (h : s.sends r) {k : SenderNo} (hk : (s.reg r).sender ≠ some k) :
    tget (s.stopSender r).sig.senderSignals k = tget s.sig.senderSignals k := by
  cases hj : (s.reg r).sender with
  | none => rw [State.stopSender_none hj]
  | some j =>
    obtain ⟨b, hb, hr⟩ := h j hj
    have hne : k ≠ j := fun he => hk (hj.trans (congrArg some he.symm))
    rw [State.stopSender_busy hj hb hr, (State.modReg_frame _ _ _).2.2.2.2.2.1, (State.setSender_sig _ _ _).2.2.2,
      State.sendSenderDetach, State.sendSender_signal, if_neg hne, State.sendSenderLoop, State.sendSender_signal, if_neg hne]

/-! ### Roles ended at a restart -/

/-- The register names the terminal in a role. -/
def State.hasRole (s : State) (r : RegNo) : Terminal → Prop
  | .line n => s.callingRole r (.line n) = true ∨ s.calledRole r n = true
  | .trunk i => s.callingRole r (.trunk i) = true

theorem State.hasRole_calling {y : Terminal} (h : s.callingRole r y = true) : s.hasRole r y := by
  cases y with
  | line n => exact .inl h
  | trunk i => exact h

/-- What holds before the roles end, and is kept when a terminal in a role leaves the call, holds after. -/
theorem State.endRoles_induct {P : State → Prop} {c : EndCause} (hc : c ≠ .callingClear) (h0 : P s)
    (hstep : ∀ u y, s.hasRole r y → P u → P (u.leaveCall y)) : P (s.endRoles r c) := by
  have hcalling : P (s.endCalling r c) := by
    cases ho : (s.reg r).origin with
    | none => rwa [show s.endCalling r c = s by rw [State.endCalling, ho]]
    | some o =>
      by_cases hrole : s.callingRole r o.terminal = true
      · rw [show s.endCalling r c = s.leaveCall o.terminal by rw [State.endCalling, ho]; exact (if_pos hrole).trans (if_neg hc)]
        exact hstep _ _ (State.hasRole_calling hrole) h0
      · rwa [show s.endCalling r c = s by rw [State.endCalling, ho]; exact if_neg hrole]
  cases hd : (s.reg r).destination with
  | none => rwa [show s.endRoles r c = s.endCalling r c by rw [State.endRoles, hd]; rfl]
  | some d =>
    by_cases hrole : s.calledRole r d.line = true
    · rw [show s.endRoles r c = (s.endCalling r c).leaveCall (.line d.line) by rw [State.endRoles, hd]; exact if_pos hrole]
      exact hstep _ _ (.inr hrole) hcalling
    · rwa [show s.endRoles r c = s.endCalling r c by rw [State.endRoles, hd]; exact if_neg hrole]

theorem State.endRoles_senders (s : State) (r : RegNo) {c : EndCause} (hc : c ≠ .callingClear) :
    (s.endRoles r c).sig.senders = s.sig.senders ∧ (s.endRoles r c).sig.senderSignals = s.sig.senderSignals := by
  refine State.endRoles_induct (P := fun u => u.sig.senders = s.sig.senders ∧ u.sig.senderSignals = s.sig.senderSignals) hc
    ⟨rfl, rfl⟩ fun u y _ h => ?_
  obtain ⟨-, -, hsenders, hsignals⟩ := u.leaveCall_signals y
  exact ⟨hsenders.trans h.1, hsignals.trans h.2⟩

/-- What a release at a restart makes of the terminals, the signals and the notices is what the end of its roles makes of them. -/
theorem State.restartReg_released (hr : (s.reg r).releases) : (s.restartReg r).scan = ((s.stopped r .restart).endRoles r .restart).scan ∧
    (s.restartReg r).sig = ((s.stopped r .restart).endRoles r .restart).sig ∧
    (s.restartReg r).att = ((s.stopped r .restart).endRoles r .restart).att := by
  obtain ⟨-, -, -, hscan, hsig, hatt⟩ := s.settled_rest r .restart
  rw [State.restartReg_releases hr, State.restartRelease_eq hr]
  exact ⟨hscan, hsig, hatt⟩

theorem State.restartReg_sender (hr : (s.reg r).releases) (k : SenderNo) :
    (s.restartReg r).sender k = (s.stopped r .restart).sender k ∧
    tget (s.restartReg r).sig.senderSignals k = tget (s.stopped r .restart).sig.senderSignals k := by
  obtain ⟨hsenders, hsignals⟩ := (s.stopped r .restart).endRoles_senders r (c := .restart) (by decide)
  obtain ⟨-, hsig, -⟩ := State.restartReg_released hr
  rw [State.sender, hsig, hsenders, hsignals]
  exact ⟨rfl, rfl⟩

/-- A sender that is not the register's stands. -/
theorem State.restartReg_other_sender (h : s.sends r) {k : SenderNo} (hk : (s.reg r).releases → (s.reg r).sender ≠ some k) :
    (s.restartReg r).sender k = s.sender k ∧
    tget (s.restartReg r).sig.senderSignals k = tget s.sig.senderSignals k := by
  by_cases hr : (s.reg r).releases
  · obtain ⟨hsender, hsignals⟩ := State.restartReg_sender hr k
    rw [hsender, hsignals, State.stopped_other_sender h _ (hk hr), State.stopped, State.stopParts_senderSignals,
      State.stopSender_signals_of_ne (State.stopped_sends h) (by simpa using hk hr)]
    exact ⟨rfl, rfl⟩
  · by_cases hf : (s.reg r).frees
    · obtain ⟨-, -, hsenders, hsignals, -⟩ := s.restartFree_quiet r
      rw [State.restartReg_frees hf, State.sender, hsenders, hsignals]
      exact ⟨rfl, rfl⟩
    · rw [State.restartReg_kept hf hr]
      exact ⟨rfl, rfl⟩

/-! ### The registers treated one after another -/

/-- `t` is `s` after the registers of the list were treated: their records, and the senders of those still to be treated. -/
structure Restarting (s : State) (l : List RegNo) (t : State) : Prop where
  reg : ∀ r, t.reg r = if r ∈ l then (s.reg r).restarted else s.reg r
  sender : ∀ r k, r ∉ l → (s.reg r).sender = some k → t.sender k = s.sender k

theorem Restarting.reg_of_not_mem {l : List RegNo} (h : Restarting s l t) (hr : r ∉ l) : t.reg r = s.reg r :=
  (h.reg r).trans (if_neg hr)

theorem Restarting.sends {l : List RegNo} (hs : ∀ q, s.sends q) (h : Restarting s l t) (hr : r ∉ l) : t.sends r := fun k hk => by
  rw [h.reg_of_not_mem hr] at hk
  rw [h.sender r k hr hk]
  exact hs r k hk

theorem Restarting.step {l : List RegNo} (hs : ∀ q, s.sends q) (h : Restarting s l t) (hr : r ∉ l) :
    Restarting s (l ++ [r]) (t.restartReg r) where
  reg q := by
    rw [State.restartReg_reg (h.sends hs hr), h.reg_of_not_mem hr]
    by_cases hq : q = r
    · simp [hq]
    · rw [if_neg hq, h.reg q]
      simp [hq]
  sender q k hq hk := by
    obtain ⟨hql, hqr⟩ : q ∉ l ∧ q ≠ r := by simpa using hq
    refine (State.restartReg_other_sender (h.sends hs hr) fun _ hkr => hqr ?_).1.trans (h.sender q k hql hk)
    rw [h.reg_of_not_mem hr] at hkr
    obtain ⟨b, hb, rfl⟩ := hs q k hk
    obtain ⟨b', hb', rfl⟩ := hs r k hkr
    rw [hb] at hb'
    cases hb'
    rfl

/-- What the treatment of each register keeps, given the records before it, holds after all of them. -/
theorem restartRegs_induct {Q : List RegNo → State → Prop} (hs : ∀ q, s.sends q) (h0 : Q [] s)
    (hstep : ∀ l r t, r ∉ l → Restarting s l t → Q l t → Q (l ++ [r]) (t.restartReg r)) :
    Restarting s (List.finRange 40) ((List.finRange 40).foldl State.restartReg s) ∧
      Q (List.finRange 40) ((List.finRange 40).foldl State.restartReg s) := by
  refine foldl_induct (f := State.restartReg) (P := fun l t => Restarting s l t ∧ Q l t) ?_ ?_ (List.nodup_finRange 40)
  · exact ⟨⟨fun r => by simp, fun _ _ _ _ => rfl⟩, h0⟩
  · rintro l r t hr ⟨ht, hq⟩
    exact ⟨ht.step hs hr, hstep l r t hr ht hq⟩

end Sys2Proof.Machine
end

section
/-! SUPPORT. The terminals and the notices at a warm restart (R39, R187): a terminal leaves the call that ends, and stands where its register
is in TALK. -/

namespace Sys2Proof.Machine

variable {s t u : State} {r : RegNo} {y : Terminal}

/-! ### Roles -/

theorem State.hasRole_named (h : s.hasRole r y) : s.named y = some r := by
  cases y with
  | line n =>
    obtain h | h := h
    · exact (by simpa [State.callingRole] using h : _ ∧ (s.line n).register = some r).2
    · exact (by simpa [State.calledRole] using h : _ ∧ (s.line n).register = some r).2
  | trunk i => exact (by simpa [State.hasRole, State.callingRole] using h : _ ∧ (s.trunk i).register = some r).2

theorem State.hasRole_line_congr {n : LineNo} (h : t.line n = s.line n) : t.hasRole r (.line n) ↔ s.hasRole r (.line n) := by
  simp only [State.hasRole, State.callingRole, State.calledRole, h]

theorem State.hasRole_trunk_congr {i : TrunkNo} (h : t.trunk i = s.trunk i) : t.hasRole r (.trunk i) ↔ s.hasRole r (.trunk i) := by
  simp only [State.hasRole, State.callingRole, h]

theorem State.not_hasRole_line {n : LineNo} (h : (s.line n).register = none) : ¬s.hasRole r (.line n) := fun hr => by
  have hnamed := State.hasRole_named hr
  rw [State.named, h] at hnamed
  cases hnamed

theorem State.not_hasRole_trunk {i : TrunkNo} (h : (s.trunk i).register = none) : ¬s.hasRole r (.trunk i) := fun hr => by
  have hnamed := State.hasRole_named hr
  rw [State.named, h] at hnamed
  cases hnamed

theorem State.inTalk_iff : s.inTalk y = true ↔ ∃ r, (s.reg r).state = .talk ∧ s.hasRole r y := by
  unfold State.inTalk
  split
  · next hn =>
    refine ⟨fun h => (Bool.false_ne_true h).elim, fun ⟨r, _, hr⟩ => ?_⟩
    rw [State.hasRole_named hr] at hn
    cases hn
  · next q hn =>
    have hone {r : RegNo} (hr : s.hasRole r y) : r = q := Option.some.inj ((State.hasRole_named hr).symm.trans hn)
    rw [Bool.and_eq_true, decide_eq_true_eq, Bool.or_eq_true]
    cases y with
    | line n => exact ⟨fun ⟨ht, hr⟩ => ⟨q, ht, hr⟩, fun ⟨r, ht, hr⟩ => hone hr ▸ ⟨ht, hr⟩⟩
    | trunk i => exact ⟨fun ⟨ht, hr⟩ => ⟨q, ht, hr.resolve_right Bool.false_ne_true⟩, fun ⟨r, ht, hr⟩ => hone hr ▸ ⟨ht, .inl hr⟩⟩

/-- Some register outside TALK names the terminal in a role. -/
def State.leaves (s : State) (y : Terminal) : Prop := ∃ q, (s.reg q).state ≠ .talk ∧ s.hasRole q y

theorem State.leaves_not_inTalk (h : s.leaves y) : s.inTalk y = false := by
  obtain ⟨q, hq, hrole⟩ := h
  refine Bool.eq_false_iff.2 fun ht => ?_
  obtain ⟨r, hr, hrole'⟩ := State.inTalk_iff.1 ht
  have hqr := (State.hasRole_named hrole).symm.trans (State.hasRole_named hrole')
  cases hqr
  exact hq hr

theorem State.leaves_line_state {n : LineNo} (h : s.leaves (.line n)) : (s.line n).state ≠ .outOfService := fun hs => by
  obtain ⟨q, -, h | h⟩ := h <;> simp [State.callingRole, State.calledRole, hs] at h

theorem State.leaves_trunk_state {i : TrunkNo} (h : s.leaves (.trunk i)) : (s.trunk i).state ≠ .outOfService := fun hs => by
  obtain ⟨q, -, h⟩ := h
  simp [State.hasRole, State.callingRole, hs] at h

/-! ### Notices -/

/-- The Attention Unit set as for a cold start, with postings to M alone. -/
structure Noticed (a : Attention) (t : State) : Prop where
  register : ∀ r, t.subject (.register r) = SubjectRec.clear
  maintenance : (t.subject .maintenance = SubjectRec.clear ∧ t.att.queue = []) ∨
    ∃ p, t.subject .maintenance = ⟨none, p, true⟩ ∧ t.att.queue = [.maintenance]
  board : a.SameBoard t.att

theorem Noticed.congr {a : Attention} (h : Noticed a t) (hu : u.att = t.att) : Noticed a u where
  register r := (State.subject_congr hu _).trans (h.register r)
  maintenance := by rw [State.subject_congr hu, hu]; exact h.maintenance
  board := by rw [hu]; exact h.board

theorem Noticed.post {a : Attention} (h : Noticed a t) (k : EventKind) : Noticed a (t.post .maintenance k) where
  register r := by rw [State.post_subject, if_neg (by simp), h.register]
  maintenance := by
    refine .inr ⟨(t.subject .maintenance).pending ||| k.bit, ?_, ?_⟩
    · rw [State.post_subject, if_pos rfl]
      obtain ⟨hm, -⟩ | ⟨p, hm, -⟩ := h.maintenance <;> rw [hm] <;> rfl
    · rw [State.post_queue]
      obtain ⟨hm, hq⟩ | ⟨p, hm, hq⟩ := h.maintenance <;> rw [hm, hq] <;> rfl
  board := h.board.trans (t.post_board _ k)

/-- The terminal stands in LOCKOUT on a CLOSED loop. -/
def State.locked (s : State) : Terminal → Prop
  | .line n => (s.line n).state = .lockout ∧ (s.line n).accepted = .closed
  | .trunk i => (s.trunk i).state = .lockout ∧ (s.trunk i).accepted = .closed

theorem State.leaveCall_locks (h : s.accepted y = .closed) : (s.leaveCall y).locked y := by
  cases y with
  | line n =>
    have hclosed : (s.line n).accepted = .closed := h
    simp [State.locked, LineRec.outOfCall, hclosed]
  | trunk i =>
    have hclosed : (s.trunk i).accepted = .closed := h
    simp [State.locked, TrunkRec.outOfCall, hclosed]

theorem State.leaveCall_accepted (s : State) (y z : Terminal) : (s.leaveCall y).accepted z = s.accepted z := by
  cases y with
  | line n =>
    cases z with
    | line m =>
      by_cases h : m = n <;> simp [State.accepted, LineRec.outOfCall, h]
    | trunk i => simp [State.accepted]
  | trunk i =>
    cases z with
    | line m => simp [State.accepted]
    | trunk j =>
      by_cases h : j = i <;> simp [State.accepted, TrunkRec.outOfCall, h]

/-- A locked terminal is so after any terminal has left a call. -/
theorem State.leaveCall_locked {z : Terminal} (h : s.locked z) (y : Terminal) : (s.leaveCall y).locked z := by
  by_cases hy : z = y
  · subst hy
    refine State.leaveCall_locks ?_
    cases z <;> exact h.2
  · cases y <;> cases z <;> simp_all [State.locked]

theorem State.toLockout_att (s : State) (y : Terminal) : ∃ u : State, u.att = s.att ∧
    (s.toLockout y).att = (u.post .maintenance .lockout).att := by
  cases y with
  | line n => exact ⟨s.modLine n fun l => l.outOfCall .lockout, rfl, rfl⟩
  | trunk i => exact ⟨(s.modTrunk i fun k => k.outOfCall .lockout).setClearTimer i none, rfl, rfl⟩

/-! ### Terminals that leave -/

/-- `t` is `s` after terminals of registers outside TALK have left their calls: the records, the clear timers, and the notices. -/
structure Leaving (a : Attention) (s t : State) : Prop where
  line : ∀ n, t.line n = s.line n ∨
    (s.leaves (.line n) ∧ t.line n = (s.line n).outOfCall (Loop.restLine (s.line n).accepted))
  trunk : ∀ i, (t.trunk i = s.trunk i ∧ tget t.sig.clearTimers i = tget s.sig.clearTimers i) ∨
    (s.leaves (.trunk i) ∧ t.trunk i = (s.trunk i).outOfCall (Loop.restTrunk (s.trunk i).accepted) ∧
      tget t.sig.clearTimers i = none)
  answers : t.scan.answers = s.scan.answers
  noticed : Noticed a t
  pending : ∀ k, t.isPending .maintenance k = true → k = .lockout ∧ ∃ y, t.locked y

theorem Leaving.congr {a : Attention} (h : Leaving a s t) (hscan : u.scan = t.scan) (hclear : u.sig.clearTimers = t.sig.clearTimers)
    (hatt : u.att = t.att) : Leaving a s u where
  line n := by rw [State.line_congr hscan]; exact h.line n
  trunk i := by rw [State.trunk_congr hscan, hclear]; exact h.trunk i
  answers := by rw [hscan, h.answers]
  noticed := h.noticed.congr hatt
  pending k hk := by
    rw [State.isPending_congr hatt] at hk
    obtain ⟨hk, y, hy⟩ := h.pending k hk
    refine ⟨hk, y, ?_⟩
    cases y with
    | line n => simpa only [State.locked, State.line_congr hscan] using hy
    | trunk i => simpa only [State.locked, State.trunk_congr hscan] using hy

/-- A role that a register still has it had from the start. -/
theorem Leaving.hasRole {a : Attention} (h : Leaving a s t) (hr : t.hasRole r y) : s.hasRole r y := by
  cases y with
  | line n =>
    obtain hl | ⟨-, hl⟩ := h.line n
    · exact (State.hasRole_line_congr hl).1 hr
    · exact absurd hr (State.not_hasRole_line (by rw [hl]; rfl))
  | trunk i =>
    obtain ⟨hk, -⟩ | ⟨-, hk, -⟩ := h.trunk i
    · exact (State.hasRole_trunk_congr hk).1 hr
    · exact absurd hr (State.not_hasRole_trunk (by rw [hk]; rfl))

theorem Leaving.leaveCall_line {a : Attention} (h : Leaving a s t) (hy : s.leaves y) (n : LineNo) :
    (t.leaveCall y).line n = s.line n ∨
      (s.leaves (.line n) ∧ (t.leaveCall y).line n = (s.line n).outOfCall (Loop.restLine (s.line n).accepted)) := by
  cases y with
  | trunk i => rw [State.leaveCall_trunk_line]; exact h.line n
  | line m =>
    rw [State.leaveCall_line_line]
    by_cases hn : n = m
    · subst hn
      rw [if_pos rfl]
      refine .inr ⟨hy, ?_⟩
      obtain hl | ⟨-, hl⟩ := h.line n
      · rw [hl]
      · rw [hl]
        rfl
    · rw [if_neg hn]
      exact h.line n

theorem Leaving.leaveCall_trunk {a : Attention} (h : Leaving a s t) (hy : s.leaves y) (i : TrunkNo) :
    ((t.leaveCall y).trunk i = s.trunk i ∧ tget (t.leaveCall y).sig.clearTimers i = tget s.sig.clearTimers i) ∨
      (s.leaves (.trunk i) ∧ (t.leaveCall y).trunk i = (s.trunk i).outOfCall (Loop.restTrunk (s.trunk i).accepted) ∧
        tget (t.leaveCall y).sig.clearTimers i = none) := by
  cases y with
  | line n => rw [State.leaveCall_line_trunk, State.leaveCall_line_sig]; exact h.trunk i
  | trunk j =>
    rw [State.leaveCall_trunk_trunk, State.leaveCall_trunk_sig]
    by_cases hi : i = j
    · subst hi
      rw [if_pos rfl]
      refine .inr ⟨hy, ?_, tget_tset_same _ _ _⟩
      obtain ⟨hk, -⟩ | ⟨-, hk, -⟩ := h.trunk i
      · rw [hk]
      · rw [hk]
        rfl
    · rw [if_neg hi, tget_tset_of_ne _ _ hi]
      exact h.trunk i

theorem Leaving.leaveCall {a : Attention} (h : Leaving a s t) (hy : s.leaves y) : Leaving a s (t.leaveCall y) where
  line := h.leaveCall_line hy
  trunk := h.leaveCall_trunk hy
  answers := (t.leaveCall_lists y).2.2.trans h.answers
  noticed := by
    cases ha : t.accepted y with
    | opened => exact h.noticed.congr (State.leaveCall_att_opened ha)
    | closed =>
      obtain ⟨u, hu, hatt⟩ := t.toLockout_att y
      exact ((h.noticed.congr hu).post .lockout).congr (by rw [State.leaveCall_closed ha, hatt])
  pending k hk := by
    have hlocked (hk : t.isPending .maintenance k = true) : k = .lockout ∧ ∃ z, (t.leaveCall y).locked z := by
      obtain ⟨hk, z, hz⟩ := h.pending k hk
      exact ⟨hk, z, State.leaveCall_locked hz y⟩
    cases ha : t.accepted y with
    | opened => exact hlocked (by rwa [State.isPending_congr (State.leaveCall_att_opened ha)] at hk)
    | closed =>
      rw [State.leaveCall_closed ha, State.toLockout_isPending, Bool.or_eq_true, Bool.and_eq_true] at hk
      obtain hk | ⟨-, hk⟩ := hk
      · exact hlocked hk
      · exact ⟨of_decide_eq_true hk, y, State.leaveCall_locks ha⟩

/-- The treatment of a register takes its terminals out of the call, where it is released. -/
theorem Leaving.restartReg {a : Attention} (h : Leaving a s t) (hr : (t.reg r).releases → (s.reg r).state ≠ .talk) :
    Leaving a s (t.restartReg r) := by
  by_cases hrel : (t.reg r).releases
  · obtain ⟨hscan, hsig, hatt⟩ := State.restartReg_released hrel
    obtain ⟨hstopped, hstoppedAtt⟩ := t.stopped_scan r .restart
    have hbefore : Leaving a s (t.stopped r .restart) := h.congr hstopped (State.stopParts_clearTimers _ _ _) hstoppedAtt
    have hroles : Leaving a s ((t.stopped r .restart).endRoles r .restart) :=
      State.endRoles_induct (by decide) hbefore fun u z hz hu => hu.leaveCall ⟨r, hr hrel, hbefore.hasRole hz⟩
    exact hroles.congr hscan (by rw [hsig]) hatt
  · by_cases hf : (t.reg r).frees
    · obtain ⟨hscan, hatt, -, -, hclear⟩ := t.restartFree_quiet r
      rw [State.restartReg_frees hf]
      exact h.congr hscan hclear hatt
    · rwa [State.restartReg_kept hf hrel]

end Sys2Proof.Machine
end

section
/-! SUPPORT. The end of a warm restart: the orders that are regenerated (R110) and the signals that are removed (R129). -/

namespace Sys2Proof.Machine

variable {s t u : State} {r : RegNo}

/-! ### Orders regenerated (R110) -/

/-- A register of this kind has its RELEASE regenerated, unless its order is in flight. -/
abbrev State.clears (s : State) (r : RegNo) : Prop := (s.reg r).state = .clearing ∧ (s.reg r).path.elements ≠ []

/-- The register's RELEASE is regenerated. -/
abbrev State.rejoins (s : State) (r : RegNo) : Prop :=
  s.clears r ∧ s.flying (.operate r) = false ∧ s.flying (.release r) = false

theorem State.regenerate_idle (h : ¬s.clears r) : s.regenerate r = s := if_neg h

theorem State.regenerate_operate (h : s.clears r) (hf : s.flying (.operate r) = true) : s.regenerate r = s.cancelInFlight :=
  (if_pos h).trans (if_pos hf)

theorem State.regenerate_release (hf : s.flying (.operate r) = false) (hr : s.flying (.release r) = true) : s.regenerate r = s := by
  by_cases h : s.clears r
  · exact (if_pos h).trans ((if_neg (Bool.eq_false_iff.1 hf)).trans (if_pos hr))
  · exact State.regenerate_idle h

theorem State.regenerate_rejoins (h : s.rejoins r) : s.regenerate r =
    (s.setElems ((s.reg r).path.elements.filter fun e => s.elem e = .reserved || s.elem e = .held) .releasing).appendOrder (.release r) :=
  (if_pos h.1).trans ((if_neg (Bool.eq_false_iff.1 h.2.1)).trans (if_neg (Bool.eq_false_iff.1 h.2.2)))

/-- The element is taken back for a RELEASE regenerated for a register of the list. -/
def State.reclaims (s : State) (l : List RegNo) (e : ElemNo) : Prop :=
  (s.elem e = .reserved ∨ s.elem e = .held) ∧ ∃ r ∈ l, s.rejoins r ∧ e ∈ (s.reg r).path.elements

/-- `t` is `s` after the orders of the registers of the list were regenerated. -/
structure Regenerated (s : State) (l : List RegNo) (t : State) : Prop where
  queue : t.orders.queue = s.orders.queue ++ (l.filter fun r => decide (s.rejoins r)).map .release
  flying : ∀ f, s.orders.inFlight = some f → ∃ c : Bool,
    (c = true ↔ f.cancelled = true ∨ ∃ r ∈ l, f.order = .operate r ∧ s.clears r) ∧
      t.orders.inFlight = some { f with cancelled := c }
  idle : s.orders.inFlight = none → t.orders.inFlight = none
  orders : t.orders = { s.orders with queue := t.orders.queue, inFlight := t.orders.inFlight }
  releasing : ∀ e, s.reclaims l e → t.elem e = .releasing
  stands : ∀ e, ¬s.reclaims l e → t.elem e = s.elem e
  net : t.net = { s.net with elements := t.net.elements }
  rest : t = { s with net := t.net, orders := t.orders }

theorem Regenerated.reg {l : List RegNo} (h : Regenerated s l t) (r : RegNo) : t.reg r = s.reg r :=
  State.reg_congr (by rw [h.rest]) r

theorem Regenerated.flying_eq {l : List RegNo} (h : Regenerated s l t) (o : Order) : t.flying o = s.flying o := by
  unfold State.flying
  cases hf : s.orders.inFlight with
  | none => rw [h.idle hf]
  | some f =>
    obtain ⟨c, -, hc⟩ := h.flying f hf
    rw [hc]
    rfl

theorem Regenerated.clears_iff {l : List RegNo} (h : Regenerated s l t) (r : RegNo) : t.clears r ↔ s.clears r := by
  rw [State.clears, h.reg]

theorem Regenerated.rejoins_iff {l : List RegNo} (h : Regenerated s l t) (r : RegNo) : t.rejoins r ↔ s.rejoins r := by
  rw [State.rejoins, h.clears_iff, h.flying_eq, h.flying_eq]

theorem Regenerated.others {l : List RegNo} (h : Regenerated s l t) : t.regs = s.regs ∧ t.scan = s.scan ∧ t.receivers = s.receivers ∧
    t.trans = s.trans ∧ t.sig = s.sig ∧ t.tariff = s.tariff ∧ t.store = s.store ∧ t.tickets = s.tickets ∧ t.att = s.att ∧
    t.links = s.links ∧ t.restartLine = s.restartLine ∧ t.draws = s.draws ∧ t.pending = s.pending := by
  rw [h.rest]
  exact ⟨rfl, rfl, rfl, rfl, rfl, rfl, rfl, rfl, rfl, rfl, rfl, rfl, rfl⟩

theorem Regenerated.frame {l : List RegNo} (h : Regenerated s l t)
    (hu : u = { t with net := u.net, orders := u.orders }) : u = { s with net := u.net, orders := u.orders } :=
  hu.trans (by rw [h.rest])

theorem Regenerated.refl (s : State) : Regenerated s [] s where
  queue := (List.append_nil _).symm
  flying f hf := ⟨f.cancelled, by simp, hf⟩
  idle h := h
  orders := rfl
  releasing := fun e ⟨_, r, hr, _⟩ => absurd hr (List.not_mem_nil)
  stands _ _ := rfl
  net := rfl
  rest := rfl

theorem exists_mem_append_singleton {α : Type} {l : List α} {a : α} {P : α → Prop} :
    (∃ b ∈ l ++ [a], P b) ↔ (∃ b ∈ l, P b) ∨ P a := by
  simp [or_and_right, exists_or]

theorem State.reclaims_append {l : List RegNo} {e : ElemNo} : s.reclaims (l ++ [r]) e ↔
    s.reclaims l e ∨ ((s.elem e = .reserved ∨ s.elem e = .held) ∧ s.rejoins r ∧ e ∈ (s.reg r).path.elements) := by
  rw [State.reclaims, exists_mem_append_singleton, and_or_left]
  rfl

theorem State.reclaims_append_of_not {l : List RegNo} {e : ElemNo} (h : ¬s.rejoins r) : s.reclaims (l ++ [r]) e ↔ s.reclaims l e := by
  rw [State.reclaims_append, or_iff_left fun hj => h hj.2.1]

/-- A register whose RELEASE is not regenerated, and whose OPERATE is not in flight. -/
theorem Regenerated.stay {l : List RegNo} (h : Regenerated s l t) (hr : ¬s.rejoins r)
    (ho : s.clears r → s.flying (.operate r) = false) : Regenerated s (l ++ [r]) t where
  queue := by rw [h.queue, List.filter_append, List.filter_singleton, decide_eq_false hr]; simp
  flying f hf := by
    obtain ⟨c, hc, hflying⟩ := h.flying f hf
    have hnot : ¬(f.order = .operate r ∧ s.clears r) := fun ⟨hor, hclears⟩ =>
      Bool.eq_false_iff.1 (ho hclears) (State.flying_iff.2 ⟨f, hf, hor⟩)
    exact ⟨c, by rw [exists_mem_append_singleton, or_iff_left hnot, hc], hflying⟩
  idle := h.idle
  orders := h.orders
  releasing e he := h.releasing e ((State.reclaims_append_of_not hr).1 he)
  stands e he := h.stands e (mt (State.reclaims_append_of_not hr).2 he)
  net := h.net
  rest := h.rest

/-- A register whose OPERATE is in flight. -/
theorem Regenerated.cancel {l : List RegNo} (h : Regenerated s l t) (hr : s.clears r) (ho : s.flying (.operate r) = true) :
    Regenerated s (l ++ [r]) t.cancelInFlight := by
  have hjoin : ¬s.rejoins r := fun hj => by simp [hj.2.1] at ho
  have helem (e : ElemNo) : t.cancelInFlight.elem e = t.elem e := State.elem_congr t.cancelInFlight_frame.2.2.2.2.1 e
  refine ⟨?_, fun f hf => ?_, fun hf => ?_, ?_, fun e he => (helem e).trans (h.releasing e ((State.reclaims_append_of_not hjoin).1 he)),
    fun e he => (helem e).trans (h.stands e (mt (State.reclaims_append_of_not hjoin).2 he)), h.net, ?_⟩
  · rw [List.filter_append, List.filter_singleton, decide_eq_false hjoin]
    exact h.queue.trans (by simp)
  · obtain ⟨c, -, hflying⟩ := h.flying f hf
    obtain ⟨f', hf', hor⟩ := State.flying_iff.1 ho
    obtain rfl : f = f' := Option.some.inj (hf.symm.trans hf')
    have hcancelled : f.cancelled = true ∨ ∃ q ∈ l ++ [r], f.order = .operate q ∧ s.clears q := .inr ⟨r, by simp, hor, hr⟩
    exact ⟨true, ⟨fun _ => hcancelled, fun _ => rfl⟩, by rw [State.cancelInFlight, hflying]; rfl⟩
  · rw [State.cancelInFlight, h.idle hf]
    rfl
  · rw [State.cancelInFlight, h.orders]
  · exact h.frame rfl

/-- A register whose RELEASE is regenerated. -/
theorem Regenerated.rejoin {l : List RegNo} (h : Regenerated s l t) (hr : s.rejoins r) : Regenerated s (l ++ [r]) (t.regenerate r) := by
  obtain ⟨hclears, ho, hrel⟩ := hr
  have hjoin := (h.rejoins_iff r).2 ⟨hclears, ho, hrel⟩
  have hnot (f : InFlight) (hf : s.orders.inFlight = some f) : ¬(f.order = .operate r ∧ s.clears r) := fun ⟨hor, _⟩ =>
    Bool.eq_false_iff.1 ho (State.flying_iff.2 ⟨f, hf, hor⟩)
  have horders : (t.regenerate r).orders = { t.orders with queue := t.orders.queue ++ [.release r] } := by
    rw [State.regenerate_rejoins hjoin, State.appendOrder, (State.setElems_frame _ _ _).2.2.2.2.1]
  have helem (e : ElemNo) : (t.regenerate r).elem e = if e ∈ (s.reg r).path.elements.filter fun e =>
      t.elem e = .reserved || t.elem e = .held then .releasing else t.elem e := by
    rw [State.regenerate_rejoins hjoin, h.reg]
    exact (State.elem_congr (State.appendOrder_frame _ _).2.2.2.2.1 e).trans (State.setElems_elem _ _ _ _)
  have hmem (e : ElemNo) : (e ∈ (s.reg r).path.elements.filter fun e => t.elem e = .reserved || t.elem e = .held) ↔
      e ∈ (s.reg r).path.elements ∧ (t.elem e = .reserved ∨ t.elem e = .held) := by
    rw [List.mem_filter, Bool.or_eq_true, decide_eq_true_eq, decide_eq_true_eq]
  refine ⟨?_, fun f hf => ?_, fun hf => ?_, ?_, fun e he => ?_, fun e he => ?_, ?_, ?_⟩
  · rw [horders, h.queue, List.filter_append, List.filter_singleton, decide_eq_true ⟨hclears, ho, hrel⟩, cond_true, List.map_append,
      List.append_assoc]
    rfl
  · obtain ⟨c, hc, hflying⟩ := h.flying f hf
    exact ⟨c, by rw [exists_mem_append_singleton, or_iff_left (hnot f hf), hc], by rw [horders]; exact hflying⟩
  · rw [horders]
    exact h.idle hf
  · rw [horders]
    conv_lhs => rw [h.orders]
  · rw [helem]
    split
    · rfl
    · next hnot =>
      by_cases hl : s.reclaims l e
      · exact h.releasing e hl
      · obtain ⟨hstate, -, hpath⟩ := (State.reclaims_append.1 he).resolve_left hl
        rw [← h.stands e hl] at hstate
        exact absurd ((hmem e).2 ⟨hpath, hstate⟩) hnot
  · rw [State.reclaims_append, not_or] at he
    obtain ⟨hl, hown⟩ := he
    have hstands := h.stands e hl
    rw [helem, if_neg, hstands]
    intro hin
    obtain ⟨hpath, hstate⟩ := (hmem e).1 hin
    rw [hstands] at hstate
    exact hown ⟨hstate, ⟨hclears, ho, hrel⟩, hpath⟩
  · rw [State.regenerate_rejoins hjoin, (State.appendOrder_frame _ _).2.2.2.2.1, State.setElems_network]
    conv_lhs => rw [h.net]
  · refine h.frame ?_
    rw [State.regenerate_rejoins hjoin]
    apply State.eq_of_fields <;> simp

theorem Regenerated.regenerate {l : List RegNo} (h : Regenerated s l t) (r : RegNo) : Regenerated s (l ++ [r]) (t.regenerate r) := by
  by_cases hclears : s.clears r
  · cases ho : s.flying (.operate r) with
    | true =>
      rw [State.regenerate_operate ((h.clears_iff r).2 hclears) (by rw [h.flying_eq, ho])]
      exact h.cancel hclears ho
    | false =>
      cases hr : s.flying (.release r) with
      | true =>
        rw [State.regenerate_release (by rw [h.flying_eq, ho]) (by rw [h.flying_eq, hr])]
        exact h.stay (fun hj => Bool.false_ne_true (hj.2.2.symm.trans hr)) fun _ => ho
      | false => exact h.rejoin ⟨hclears, ho, hr⟩
  · rw [State.regenerate_idle (mt (h.clears_iff r).1 hclears)]
    exact h.stay (fun hj => hclears hj.1) fun hc => absurd hc hclears

theorem State.regenerate_all (s : State) :
    Regenerated s (List.finRange 40) ((List.finRange 40).foldl State.regenerate s) :=
  foldl_induct (.refl s) (fun _ r _ _ h => h.regenerate r) (List.nodup_finRange 40)

/-! ### Signals removed (R129) -/

/-- What a step of the fold brings about, and no step undoes, holds after it. -/
theorem foldl_brings {σ ι : Type} {f : σ → ι → σ} {P : σ → Prop} {a : ι} (hkeep : ∀ s i, P s → P (f s i)) (hmake : ∀ s, P (f s a))
    {l : List ι} {s : σ} (h : a ∈ l ∨ P s) : P (l.foldl f s) := by
  induction l generalizing s with
  | nil => exact h.resolve_left List.not_mem_nil
  | cons b l ih =>
    refine ih ?_
    obtain h | h := h
    · obtain rfl | h := List.mem_cons.1 h
      · exact .inr (hmake s)
      · exact .inl h
    · exact .inr (hkeep s b h)

/-- No signal is applied to the line. -/
def State.quiet (s : State) (n : LineNo) : Prop := tget s.sig.lineSignals n = ⟨false, none, none⟩

theorem State.quiet_iff {n : LineNo} : s.quiet n ↔ (tget s.sig.lineSignals n).dialTone = false ∧
    (tget s.sig.lineSignals n).ringing = none ∧ s.toneOf (.line n) = none := by
  change _ ↔ _ ∧ _ ∧ (tget s.sig.lineSignals n).tone = none
  unfold State.quiet
  cases tget s.sig.lineSignals n
  simp

theorem State.sendTone_quiet {n : LineNo} (h : s.quiet n) (y : Terminal) : (s.sendTone y none).quiet n := by
  obtain ⟨hdial, hring, htone⟩ := State.quiet_iff.1 h
  obtain ⟨hdial', hring'⟩ := s.sendTone_signal y none n
  refine State.quiet_iff.2 ⟨hdial'.trans hdial, hring'.trans hring, ?_⟩
  rw [State.sendTone_toneOf, htone, ite_self]

theorem State.silenceLine_quiet (s : State) (n : LineNo) : (s.silenceLine n).quiet n := by
  obtain ⟨hdial, hring⟩ := ((s.sendDialTone n false).sendRinging n none).sendTone_signal (.line n) none n
  refine State.quiet_iff.2 ⟨hdial.trans ?_, hring.trans ?_, ?_⟩
  · simp
  · simp
  · rw [State.silenceLine, State.sendTone_toneOf, if_pos rfl]

theorem State.silenceLine_keeps {n : LineNo} (h : s.quiet n) (m : LineNo) : (s.silenceLine m).quiet n := by
  obtain ⟨hdial, hring, htone⟩ := State.quiet_iff.1 h
  refine State.sendTone_quiet (State.quiet_iff.2 ⟨?_, ?_, ?_⟩) _
  · rw [State.sendRinging_signal, State.sendDialTone_signal, State.sendDialTone_signal]
    by_cases hm : n = m
    · simp [hm]
    · simp [hm, hdial]
  · rw [State.sendRinging_signal, State.sendDialTone_signal]
    by_cases hm : n = m
    · simp [hm]
    · simp [hm, hring]
  · rw [State.sendRinging_toneOf, State.sendDialTone_toneOf, htone]

/-- The lines silenced, before the trunks are. -/
def State.linesSilenced (s : State) : State :=
  (tfind (fun _ g => LineSignal.applied g) s.sig.lineSignals).foldl State.silenceLine s

theorem State.silence_eq (s : State) : s.silence =
    (tfind (fun _ x => x.isSome) s.sig.trunkTones).foldl (fun t i => t.sendTone (.trunk i) none) s.linesSilenced := rfl

theorem State.linesSilenced_quiet (s : State) (n : LineNo) : s.linesSilenced.quiet n := by
  unfold State.linesSilenced
  refine foldl_brings (P := fun u : State => u.quiet n) (a := n) (fun u m h => State.silenceLine_keeps h m)
    (fun u => u.silenceLine_quiet n) ?_
  by_cases happlied : (tget s.sig.lineSignals n).applied = true
  · exact .inl (by simpa using happlied)
  · refine .inr (State.quiet_iff.2 ?_)
    simpa [LineSignal.applied, State.toneOf, and_assoc] using happlied

theorem State.silence_line (s : State) (n : LineNo) : s.silence.quiet n := by
  rw [State.silence_eq]
  exact foldl_keeps _ (fun u : State => u.quiet n) (fun u i h => State.sendTone_quiet h _) _ _ (s.linesSilenced_quiet n)

theorem State.silenceLine_trunk (s : State) (n : LineNo) (i : TrunkNo) :
    (s.silenceLine n).toneOf (.trunk i) = s.toneOf (.trunk i) := by
  simp [State.silenceLine]

theorem State.silence_trunk (s : State) (i : TrunkNo) : s.silence.toneOf (.trunk i) = none := by
  rw [State.silence_eq]
  refine foldl_brings (P := fun u : State => u.toneOf (.trunk i) = none) (a := i) (fun u j h => ?_) (fun u => ?_) ?_
  · rw [State.sendTone_toneOf, h, ite_self]
  · rw [State.sendTone_toneOf, if_pos rfl]
  · by_cases htone : (tget s.sig.trunkTones i).isSome = true
    · exact .inl (by simpa using htone)
    · refine .inr ((foldl_same State.silenceLine (fun u => u.toneOf (.trunk i)) (fun u n => u.silenceLine_trunk n i) _ s).trans ?_)
      simpa [State.toneOf] using htone

/-- `t` is `s` but for the signals on lines and trunks. -/
structure Silenced (s t : State) : Prop where
  senders : t.sig.senders = s.sig.senders
  senderSignals : t.sig.senderSignals = s.sig.senderSignals
  clearTimers : t.sig.clearTimers = s.sig.clearTimers
  rest : t = { s with sig := t.sig }

theorem Silenced.trans (h : Silenced s t) (k : Silenced t u) : Silenced s u where
  senders := k.senders.trans h.senders
  senderSignals := k.senderSignals.trans h.senderSignals
  clearTimers := k.clearTimers.trans h.clearTimers
  rest := k.rest.trans (by rw [h.rest])

theorem Silenced.frame (h : Silenced s t) : t.regs = s.regs ∧ t.scan = s.scan ∧ t.receivers = s.receivers ∧ t.trans = s.trans ∧
    t.net = s.net ∧ t.orders = s.orders ∧ t.tariff = s.tariff ∧ t.store = s.store ∧ t.tickets = s.tickets ∧ t.att = s.att ∧
    t.links = s.links ∧ t.restartLine = s.restartLine ∧ t.draws = s.draws ∧ t.pending = s.pending := by
  rw [h.rest]
  exact ⟨rfl, rfl, rfl, rfl, rfl, rfl, rfl, rfl, rfl, rfl, rfl, rfl, rfl, rfl⟩

theorem State.sendTone_silenced (s : State) (y : Terminal) (x : Option Tone) : Silenced s (s.sendTone y x) := by
  obtain ⟨hsenders, hsignals, hclear⟩ := s.sendTone_sig y x
  refine ⟨hsenders, hsignals, hclear, ?_⟩
  apply State.eq_of_fields <;> simp

theorem State.silenceLine_silenced (s : State) (n : LineNo) : Silenced s (s.silenceLine n) := by
  have hdial : Silenced s (s.sendDialTone n false) := by
    obtain ⟨hsenders, -, hsignals, hclear⟩ := s.sendDialTone_sig n false
    refine ⟨hsenders, hsignals, hclear, ?_⟩
    apply State.eq_of_fields <;> simp
  have hring : Silenced (s.sendDialTone n false) ((s.sendDialTone n false).sendRinging n none) := by
    obtain ⟨hsenders, -, hsignals, hclear⟩ := (s.sendDialTone n false).sendRinging_sig n none
    refine ⟨hsenders, hsignals, hclear, ?_⟩
    apply State.eq_of_fields <;> simp
  exact (hdial.trans hring).trans (State.sendTone_silenced _ _ _)

theorem State.silence_silenced (s : State) : Silenced s s.silence := by
  rw [State.silence_eq, State.linesSilenced]
  refine foldl_keeps _ (Silenced s) (fun u i h => h.trans (u.sendTone_silenced _ _)) _ _ ?_
  exact foldl_keeps _ (Silenced s) (fun u n h => h.trans (u.silenceLine_silenced n)) _ _ ⟨rfl, rfl, rfl, rfl⟩

end Sys2Proof.Machine
end

section
/-! SUPPORT. The warm restart, block by block (R187). -/

namespace Sys2Proof.Machine

variable {s v : State} {cause : RestartCause}

/-! ### The stages -/

/-- The Attention Unit, the order queue and the snapshot set, before the registers are treated. -/
def State.restartBegun (s : State) (cause : RestartCause) : State := { s.clearAttention cause with
  orders := { s.orders with queue := [] }
  store := { s.store with snapshot := .idle } }

/-- The registers treated. -/
def State.restartTreated (s : State) (cause : RestartCause) : State := (List.finRange 40).foldl State.restartReg (s.restartBegun cause)

/-- The orders regenerated. -/
def State.restartOrdered (s : State) (cause : RestartCause) : State :=
  (List.finRange 40).foldl State.regenerate (s.restartTreated cause).restartTerminals

/-- The restart, before the first regenerated order is taken. -/
def State.restartDone (s : State) (cause : RestartCause) : State := ((s.restartOrdered cause).silence).post .maintenance .restarted

theorem State.settle_empty (hq : s.scan.queue = []) (hd : s.scan.deferred = []) : s.settle = s := by
  unfold State.settle
  rw [State.promote_none (.inl hd)]
  exact State.serve_idle (fun h => h.1 hq) 12

theorem State.restartTerminals_frame (s : State) : s.restartTerminals.regs = s.regs ∧ s.restartTerminals.receivers = s.receivers ∧
    s.restartTerminals.trans = s.trans ∧ s.restartTerminals.net = s.net ∧ s.restartTerminals.orders = s.orders ∧
    s.restartTerminals.tariff = s.tariff ∧ s.restartTerminals.store = s.store ∧ s.restartTerminals.tickets = s.tickets ∧
    s.restartTerminals.links = s.links ∧ s.restartTerminals.restartLine = s.restartLine ∧ s.restartTerminals.draws = s.draws ∧
    s.restartTerminals.pending = s.pending := by
  unfold State.restartTerminals
  dsimp only
  split <;> simp

theorem State.restartTerminals_sig (s : State) : s.restartTerminals.sig =
    { s.sig with clearTimers := tmap (fun i t => if s.inTalk (.trunk i) then t else none) s.sig.clearTimers } := by
  unfold State.restartTerminals
  dsimp only
  split <;> simp

/-- The stages from the registers treated to the orders regenerated, to the signals removed, to the notice posted. -/
theorem State.restartOrdered_regenerated (s : State) (cause : RestartCause) :
    Regenerated (s.restartTreated cause).restartTerminals (List.finRange 40) (s.restartOrdered cause) := State.regenerate_all _

theorem State.restartDone_frame (s : State) (cause : RestartCause) :
    (s.restartDone cause).scan = (s.restartTreated cause).restartTerminals.scan ∧
    (s.restartDone cause).sig = (s.restartOrdered cause).silence.sig ∧ (s.restartDone cause).net = (s.restartOrdered cause).net ∧
    (s.restartDone cause).orders = (s.restartOrdered cause).orders := by
  obtain ⟨-, hscan, -, -, hnet, horders, -⟩ := (s.restartOrdered cause).silence_silenced.frame
  obtain ⟨-, oscan, -⟩ := (s.restartOrdered_regenerated cause).others
  obtain ⟨-, pscan, -, -, pnet, porders, psig, -⟩ := (s.restartOrdered cause).silence.post_frame .maintenance .restarted
  unfold State.restartDone
  exact ⟨pscan.trans (hscan.trans oscan), psig, pnet.trans hnet, porders.trans horders⟩

/-- What no stage after the treatment of the registers touches. -/
theorem State.restartDone_others (s : State) (cause : RestartCause) : (s.restartDone cause).regs = (s.restartTreated cause).regs ∧
    (s.restartDone cause).receivers = (s.restartTreated cause).receivers ∧ (s.restartDone cause).trans = (s.restartTreated cause).trans ∧
    (s.restartDone cause).tariff = (s.restartTreated cause).tariff ∧ (s.restartDone cause).store = (s.restartTreated cause).store ∧
    (s.restartDone cause).tickets = (s.restartTreated cause).tickets ∧ (s.restartDone cause).links = (s.restartTreated cause).links ∧
    (s.restartDone cause).restartLine = (s.restartTreated cause).restartLine ∧
    (s.restartDone cause).draws = (s.restartTreated cause).draws ∧ (s.restartDone cause).pending = (s.restartTreated cause).pending := by
  obtain ⟨pregs, -, preceivers, ptrans, -, -, -, ptariff, pstore, ptickets, plinks, pline, pdraws, ppending⟩ :=
    (s.restartOrdered cause).silence.post_frame .maintenance .restarted
  obtain ⟨hregs, -, hreceivers, htrans, -, -, htariff, hstore, htickets, -, hlinks, hline, hdraws, hpending⟩ :=
    (s.restartOrdered cause).silence_silenced.frame
  obtain ⟨oregs, -, oreceivers, otrans, -, otariff, ostore, otickets, -, olinks, oline, odraws, opending⟩ :=
    (s.restartOrdered_regenerated cause).others
  obtain ⟨tregs, treceivers, ttrans, -, -, ttariff, tstore, ttickets, tlinks, tline, tdraws, tpending⟩ :=
    (s.restartTreated cause).restartTerminals_frame
  unfold State.restartDone
  exact ⟨pregs.trans (hregs.trans (oregs.trans tregs)), preceivers.trans (hreceivers.trans (oreceivers.trans treceivers)),
    ptrans.trans (htrans.trans (otrans.trans ttrans)), ptariff.trans (htariff.trans (otariff.trans ttariff)),
    pstore.trans (hstore.trans (ostore.trans tstore)), ptickets.trans (htickets.trans (otickets.trans ttickets)),
    plinks.trans (hlinks.trans (olinks.trans tlinks)), pline.trans (hline.trans (oline.trans tline)),
    pdraws.trans (hdraws.trans (odraws.trans tdraws)), ppending.trans (hpending.trans (opending.trans tpending))⟩

theorem State.warmRestart_eq (s : State) (cause : RestartCause) : s.warmRestart cause = (s.restartDone cause).takeOrder := by
  have hscan := (s.restartDone_frame cause).1
  have hsettle : (s.restartDone cause).settle = s.restartDone cause :=
    State.settle_empty (by rw [hscan, State.restartTerminals_scan]) (by rw [hscan, State.restartTerminals_scan])
  exact congrArg State.takeOrder hsettle

/-! ### Terminals of calls in TALK -/

theorem CallRegister.restarted_talk {g : CallRegister} : g.restarted.state = .talk ↔ g.state = .talk := by
  by_cases hf : g.frees
  · rw [CallRegister.restarted_frees hf]
    refine ⟨(fun h => nomatch h), fun h => absurd hf ?_⟩
    exact (CallRegister.kept_iff.2 (by simp [h])).1
  · by_cases hr : g.releases
    · rw [CallRegister.restarted_releases hr]
      refine ⟨(fun h => nomatch h), fun h => absurd hr ?_⟩
      exact (CallRegister.kept_iff.2 (by simp [h])).2
    · rw [CallRegister.restarted_kept (CallRegister.kept_iff.1 ⟨hf, hr⟩)]

section
variable {a : Attention} (h : Leaving a s v) (htalk : ∀ r, (v.reg r).state = .talk ↔ (s.reg r).state = .talk)
include h htalk

theorem Leaving.inTalk (y : Terminal) : v.inTalk y = s.inTalk y := by
  rw [Bool.eq_iff_iff, State.inTalk_iff, State.inTalk_iff]
  refine ⟨fun ⟨r, hr, hrole⟩ => ⟨r, (htalk r).1 hr, h.hasRole hrole⟩, fun ⟨r, hr, hrole⟩ => ⟨r, (htalk r).2 hr, ?_⟩⟩
  have hstays : ¬s.leaves y := fun hl => Bool.eq_false_iff.1 (State.leaves_not_inTalk hl) (State.inTalk_iff.2 ⟨r, hr, hrole⟩)
  cases y with
  | line n => exact (State.hasRole_line_congr ((h.line n).resolve_right fun hl => hstays hl.1)).2 hrole
  | trunk i => exact (State.hasRole_trunk_congr ((h.trunk i).resolve_right fun hl => hstays hl.1).1).2 hrole

end

theorem LineRec.restarted_kept (l : LineRec) : l.restarted true = l := if_pos (by simp)

theorem LineRec.restarted_outOfService {l : LineRec} (h : l.state = .outOfService) (kept : Bool) : l.restarted kept = l :=
  if_pos (by simp [h])

theorem LineRec.restarted_out {l : LineRec} (h : l.state ≠ .outOfService) :
    l.restarted false = l.outOfCall (Loop.restLine l.accepted) := if_neg (by simp [h])

theorem TrunkRec.restarted_kept (k : TrunkRec) : k.restarted true = k := if_pos (by simp)

theorem TrunkRec.restarted_outOfService {k : TrunkRec} (h : k.state = .outOfService) (kept : Bool) : k.restarted kept = k :=
  if_pos (by simp [h])

theorem TrunkRec.restarted_out {k : TrunkRec} (h : k.state ≠ .outOfService) :
    k.restarted false = k.outOfCall (Loop.restTrunk k.accepted) := if_neg (by simp [h])

theorem LineRec.outOfCall_inService (l : LineRec) : (l.outOfCall (Loop.restLine l.accepted)).state ≠ .outOfService := by
  cases h : l.accepted <;> simp [LineRec.outOfCall, Loop.restLine]

theorem TrunkRec.outOfCall_inService (k : TrunkRec) : (k.outOfCall (Loop.restTrunk k.accepted)).state ≠ .outOfService := by
  cases h : k.accepted <;> simp [TrunkRec.outOfCall, Loop.restTrunk]

section
variable {a : Attention} (h : Leaving a s v) (htalk : ∀ r, (v.reg r).state = .talk ↔ (s.reg r).state = .talk)
include h htalk

/-- A line that has left its call at a register's release stands as one that leaves it now. -/
theorem Leaving.restarted_line (n : LineNo) : (v.line n).restarted (v.inTalk (.line n)) = (s.line n).restarted (s.inTalk (.line n)) := by
  rw [h.inTalk htalk]
  obtain hl | ⟨hleaves, hl⟩ := h.line n
  · rw [hl]
  · rw [State.leaves_not_inTalk hleaves, LineRec.restarted_out (State.leaves_line_state hleaves), hl,
      LineRec.restarted_out (LineRec.outOfCall_inService _)]
    rfl

theorem Leaving.restarted_trunk (i : TrunkNo) : (v.trunk i).restarted (v.inTalk (.trunk i)) = (s.trunk i).restarted (s.inTalk (.trunk i)) ∧
    (if v.inTalk (.trunk i) then tget v.sig.clearTimers i else none) =
      if s.inTalk (.trunk i) then tget s.sig.clearTimers i else none := by
  rw [h.inTalk htalk]
  obtain ⟨hk, hclear⟩ | ⟨hleaves, hk, hclear⟩ := h.trunk i
  · rw [hk, hclear]
    exact ⟨rfl, rfl⟩
  · rw [State.leaves_not_inTalk hleaves, TrunkRec.restarted_out (State.leaves_trunk_state hleaves), hk,
      TrunkRec.restarted_out (TrunkRec.outOfCall_inService _)]
    exact ⟨rfl, rfl⟩

end

end Sys2Proof.Machine
end

section
/-! SUPPORT. What the treatment of the registers gives back: places for tickets, route references, receivers and senders (R19, R56, R75). -/

namespace Sys2Proof.Machine

variable {s t : State} {r : RegNo} {l : List RegNo}

/-! ### One register -/

/-- The register holds a place for a ticket that the restart returns. -/
abbrev CallRegister.returnsPlace (g : CallRegister) : Bool := g.reservation && decide (g.state ∉ [.free, .talk, .clearing])

theorem State.restartReg_tickets (s : State) (r : RegNo) : (s.restartReg r).tickets =
    if (s.reg r).returnsPlace = true then { s.tickets with reserved := s.tickets.reserved - 1 } else s.tickets := by
  have hkept := CallRegister.kept_iff (g := s.reg r)
  by_cases hf : (s.reg r).frees
  · have hreservation : ((s.detachReceiver r true).reg r).reservation = (s.reg r).reservation := by
      rw [State.detachReceiver_reg, if_pos rfl]
    rw [State.restartReg_frees hf, State.restartFree, (State.freeReg_frame _ _).2.2.2.2.2.2.2.1, State.returnReservation_tickets,
      hreservation, (State.detachReceiver_frame _ _ _).2.2.2.2.2.2.1]
    rw [CallRegister.returnsPlace, decide_eq_true (mt hkept.2 fun h => h.1 hf), Bool.and_true]
  · by_cases hr : (s.reg r).releases
    · have hnotTalk : ¬((s.reg r).reservation = true ∧ (s.reg r).state = .talk) := fun h =>
        (CallRegister.kept_iff.2 (by simp [h.2])).2 hr
      have hsettled : (s.settled r .restart).tickets = _ := congrArg State.tickets (State.settleReservation_returned hnotTalk)
      rw [State.restartReg_releases hr, State.restartRelease_eq hr]
      refine hsettled.trans ?_
      rw [State.returnReservation_tickets, State.endRoles_reservation, (s.endRoles_tickets r .restart).1, CallRegister.returnsPlace,
        decide_eq_true (mt hkept.2 fun h => h.2 hr), Bool.and_true]
    · rw [State.restartReg_kept hf hr, CallRegister.returnsPlace, decide_eq_false (not_not.2 (hkept.1 ⟨hf, hr⟩)), Bool.and_false]
      rfl

theorem State.restartReg_route (s : State) (r : RegNo) (v : RouteNo) : (s.restartReg r).route v = { s.route v with
    refCount := if (s.reg r).frees ∧ (s.reg r).route = some v then (s.route v).refCount - 1 else (s.route v).refCount } := by
  by_cases hf : (s.reg r).frees
  · have hroute : ((s.detachReceiver r true).returnReservation r).route v = s.route v := State.route_congr (by simp) v
    have hrecord : (((s.detachReceiver r true).returnReservation r).reg r).route = (s.reg r).route := by
      rw [State.returnReservation_reg, if_pos rfl, State.detachReceiver_reg, if_pos rfl]
    rw [State.restartReg_frees hf, State.restartFree, State.freeReg_route, hroute, hrecord]
    simp [hf]
  · rw [if_neg fun h => hf h.1]
    by_cases hr : (s.reg r).releases
    · rw [State.restartReg_releases hr]
      exact State.route_congr (by simp [State.restartRelease]) v
    · rw [State.restartReg_kept hf hr]

/-- The rest of the translator stands. -/
theorem State.restartReg_trans (s : State) (r : RegNo) :
    (s.restartReg r).trans = { s.trans with routes := (s.restartReg r).trans.routes } := by
  by_cases hf : (s.reg r).frees
  · have hfree (u : State) : (u.freeReg r).trans = { u.trans with routes := (u.freeReg r).trans.routes } := by
      unfold State.freeReg
      split <;> rfl
    rw [State.restartReg_frees hf, State.restartFree, hfree, (State.returnReservation_frame _ _).2.2.1, (State.detachReceiver_frame _ _ _).2.1]
  · by_cases hr : (s.reg r).releases
    · rw [State.restartReg_releases hr, State.restartRelease]
      simp
    · rw [State.restartReg_kept hf hr]

/-- The receiver of a register that is made FREE is returned; every other stands. -/
theorem State.restartReg_receiver {k : ReceiverNo} {a : Attachment} (hf : (s.reg r).frees) (hk : (s.reg r).receiver = some k)
    (ha : s.receiver k = .attached a) (j : ReceiverNo) : (s.restartReg r).receiver j =
      if j = k then (if a.blockAfterUse then .blocked else .free) else s.receiver j := by
  rw [State.restartReg_frees hf, ← State.detachReceiver_receiver true hk ha j]
  exact State.receiver_congr (by simp [State.restartFree]) j

theorem State.restartReg_other_receiver (h : (s.reg r).frees → (s.reg r).receiver = none) (j : ReceiverNo) :
    (s.restartReg r).receiver j = s.receiver j := by
  by_cases hf : (s.reg r).frees
  · rw [State.restartReg_frees hf]
    refine State.receiver_congr ?_ j
    rw [State.restartFree, (State.freeReg_frame _ _).2.1, (State.returnReservation_frame _ _).2.1, State.detachReceiver_none true (h hf)]
    rfl
  · by_cases hr : (s.reg r).releases
    · rw [State.restartReg_releases hr]
      exact State.receiver_congr (by simp [State.restartRelease]) j
    · rw [State.restartReg_kept hf hr]

/-- The sender of a register that is released is returned, with its loop closed. -/
theorem State.restartReg_own_sender {k : SenderNo} {b : Sending} (hr : (s.reg r).releases) (hk : (s.reg r).sender = some k)
    (hb : s.sender k = .busy b) (hown : b.register = r) :
    (s.restartReg r).sender k = (if b.blockAfterUse then .blocked else .free) ∧
      tget (s.restartReg r).sig.senderSignals k = ⟨none, .closed⟩ := by
  obtain ⟨hsender, hsignals⟩ := State.restartReg_sender hr k
  rw [hsender, hsignals]
  exact State.stopped_own_sender hk hb hown _

/-! ### All registers -/

section
variable (hs : ∀ q, s.sends q)
include hs

theorem restartRegs_tickets : ((List.finRange 40).foldl State.restartReg s).tickets = { s.tickets with
    reserved := s.tickets.reserved - ((List.finRange 40).filter fun r => (s.reg r).returnsPlace).length } := by
  refine (restartRegs_induct (Q := fun l t => t.tickets = { s.tickets with
    reserved := s.tickets.reserved - (l.filter fun r => (s.reg r).returnsPlace).length }) hs rfl ?_).2
  intro l r t hr ht hQ
  rw [State.restartReg_tickets, ht.reg_of_not_mem hr, hQ, List.filter_append, List.length_append, List.filter_singleton]
  cases (s.reg r).returnsPlace <;> rfl

theorem restartRegs_route (v : RouteNo) : ((List.finRange 40).foldl State.restartReg s).route v = { s.route v with
    refCount := (s.route v).refCount - ((List.finRange 40).filter fun r =>
      decide ((s.reg r).frees ∧ (s.reg r).route = some v)).length } := by
  refine (restartRegs_induct (Q := fun l t => t.route v = { s.route v with
    refCount := (s.route v).refCount - (l.filter fun r => decide ((s.reg r).frees ∧ (s.reg r).route = some v)).length }) hs rfl ?_).2
  intro l r t hr ht hQ
  rw [State.restartReg_route, ht.reg_of_not_mem hr, hQ, List.filter_append, List.length_append, List.filter_singleton]
  by_cases hfreed : (s.reg r).frees ∧ (s.reg r).route = some v
  · rw [if_pos hfreed, decide_eq_true hfreed]
    rfl
  · rw [if_neg hfreed, decide_eq_false hfreed]
    rfl

theorem restartRegs_trans : ((List.finRange 40).foldl State.restartReg s).trans = { s.trans with
    routes := ((List.finRange 40).foldl State.restartReg s).trans.routes } := by
  refine (restartRegs_induct (Q := fun _ t => t.trans = { s.trans with routes := t.trans.routes }) hs rfl ?_).2
  intro l r t _ _ hQ
  rw [State.restartReg_trans, hQ]

/-- Receivers in use return by their flags. -/
theorem restartRegs_receiver
    (hheld : ∀ k a, s.receiver k = .attached a → (s.reg a.register).state = .dialing ∧ (s.reg a.register).receiver = some k)
    (hholds : ∀ r k, (s.reg r).receiver = some k → ∃ a, s.receiver k = .attached a ∧ a.register = r) (k : ReceiverNo) :
    (∀ a, s.receiver k = .attached a → ((List.finRange 40).foldl State.restartReg s).receiver k =
      if a.blockAfterUse then .blocked else .free) ∧
    ((∀ a, s.receiver k ≠ .attached a) → ((List.finRange 40).foldl State.restartReg s).receiver k = s.receiver k) := by
  have hfold := (restartRegs_induct (Q := fun l t => ∀ k, (∀ a, s.receiver k = .attached a → t.receiver k =
      if a.register ∈ l then (if a.blockAfterUse then .blocked else .free) else s.receiver k) ∧
      ((∀ a, s.receiver k ≠ .attached a) → t.receiver k = s.receiver k)) hs (fun k => ⟨fun a _ => by simp, fun _ => rfl⟩) ?_).2 k
  · exact ⟨fun a ha => (hfold.1 a ha).trans (if_pos (List.mem_finRange _)), hfold.2⟩
  intro l r t hr ht hQ k
  have hreg := ht.reg_of_not_mem hr
  cases hreceiver : (s.reg r).receiver with
  | none =>
    rw [State.restartReg_other_receiver fun _ => by rw [hreg, hreceiver]]
    refine ⟨fun a ha => ((hQ k).1 a ha).trans ?_, (hQ k).2⟩
    have hne : a.register ≠ r := fun he => by
      have hown := (hheld k a ha).2
      rw [he, hreceiver] at hown
      cases hown
    simp [hne]
  | some j =>
    obtain ⟨b, hb, rfl⟩ := hholds r j hreceiver
    have hfrees : (s.reg b.register).frees := .inl (by simp [(hheld j b hb).1])
    have hbt : t.receiver j = .attached b := by rw [(hQ j).1 b hb, if_neg hr, hb]
    rw [State.restartReg_receiver (by rwa [hreg]) (by rw [hreg, hreceiver]) hbt]
    by_cases hk : k = j
    · subst hk
      rw [if_pos rfl, hb]
      exact ⟨fun a ha => by cases ha; simp, fun h => absurd rfl (h b)⟩
    · rw [if_neg hk]
      refine ⟨fun a ha => ((hQ k).1 a ha).trans ?_, (hQ k).2⟩
      have hne : a.register ≠ b.register := fun he => hk (by
        have hown := (hheld k a ha).2
        rw [he, hreceiver] at hown
        cases hown
        rfl)
      simp [hne]

/-- Senders in use return by their flags, with their loops closed. -/
theorem restartRegs_sender (hbusy : ∀ k b, s.sender k = .busy b → (s.reg b.register).state = .sending ∧ (s.reg b.register).sender = some k)
    (k : SenderNo) :
    (∀ b, s.sender k = .busy b →
      ((List.finRange 40).foldl State.restartReg s).sender k = (if b.blockAfterUse then .blocked else .free) ∧
      tget ((List.finRange 40).foldl State.restartReg s).sig.senderSignals k = ⟨none, .closed⟩) ∧
    ((∀ b, s.sender k ≠ .busy b) → ((List.finRange 40).foldl State.restartReg s).sender k = s.sender k ∧
      tget ((List.finRange 40).foldl State.restartReg s).sig.senderSignals k = tget s.sig.senderSignals k) := by
  have hfold := (restartRegs_induct (Q := fun l t => ∀ k, (∀ b, s.sender k = .busy b → b.register ∈ l →
        t.sender k = (if b.blockAfterUse then .blocked else .free) ∧ tget t.sig.senderSignals k = ⟨none, .closed⟩) ∧
      ((∀ b, s.sender k ≠ .busy b) → t.sender k = s.sender k ∧ tget t.sig.senderSignals k = tget s.sig.senderSignals k)) hs
    (fun k => ⟨fun b _ h => absurd h List.not_mem_nil, fun _ => ⟨rfl, rfl⟩⟩) ?_).2 k
  · exact ⟨fun b hb => hfold.1 b hb (List.mem_finRange _), hfold.2⟩
  intro l r t hr ht hQ k
  have hreg := ht.reg_of_not_mem hr
  by_cases hk : (s.reg r).sender = some k
  · obtain ⟨b, hb, rfl⟩ := hs r k hk
    refine ⟨fun b' hb' _ => ?_, fun h => absurd hb (h b)⟩
    obtain rfl : b = b' := by simpa using hb.symm.trans hb'
    have hreleases : (s.reg b.register).releases := .inl (by simp [(hbusy k b hb).1])
    exact State.restartReg_own_sender (by rwa [hreg]) (by rw [hreg, hk]) ((ht.sender _ k hr hk).trans hb) rfl
  · obtain ⟨hsender, hsignals⟩ := State.restartReg_other_sender (ht.sends hs hr) (k := k) fun _ => by rwa [hreg]
    rw [hsender, hsignals]
    refine ⟨fun b hb hmem => (hQ k).1 b hb ?_, (hQ k).2⟩
    obtain hmem | hmem := List.mem_append.1 hmem
    · exact hmem
    · exact absurd (List.mem_singleton.1 hmem ▸ (hbusy k b hb).2) hk

end

end Sys2Proof.Machine
end

section
/-! SUPPORT. The warm restart as a whole (R187): the records, the terminals, the notices and the network after it. -/

namespace Sys2Proof.Machine

variable {s : State} {cause : RestartCause}

/-! ### The terminals -/

theorem State.restartTerminals_line (s : State) (n : LineNo) :
    s.restartTerminals.line n = (s.line n).restarted (s.inTalk (.line n)) := by
  rw [State.line, State.restartTerminals_scan]
  exact tget_tmap (fun (n : LineNo) (l : LineRec) => l.restarted (s.inTalk (.line n))) s.scan.lines n

theorem State.restartTerminals_trunk (s : State) (i : TrunkNo) :
    s.restartTerminals.trunk i = (s.trunk i).restarted (s.inTalk (.trunk i)) := by
  rw [State.trunk, State.restartTerminals_scan]
  exact tget_tmap _ _ _

theorem State.restartTerminals_clearTimer (s : State) (i : TrunkNo) : tget s.restartTerminals.sig.clearTimers i =
    if s.inTalk (.trunk i) then tget s.sig.clearTimers i else none := by
  rw [State.restartTerminals_sig]
  exact tget_tmap _ _ _

theorem Scanner.someLockout_iff : s.scan.someLockout = true ↔
    (∃ n, (s.line n).state = .lockout) ∨ ∃ i, (s.trunk i).state = .lockout := by
  rw [Scanner.someLockout, Bool.or_eq_true, Bool.not_eq_true', Bool.not_eq_true', tfind_isEmpty_eq_false_iff,
    tfind_isEmpty_eq_false_iff]
  simp only [decide_eq_true_eq]
  rfl

/-- A terminal that stands in LOCKOUT on a CLOSED loop does so after the restart. -/
theorem LineRec.restarted_locked {l : LineRec} (h : l.state = .lockout ∧ l.accepted = .closed) (kept : Bool) :
    (l.restarted kept).state = .lockout := by
  unfold LineRec.restarted
  split
  · exact h.1
  · rw [h.2]
    rfl

theorem TrunkRec.restarted_locked {k : TrunkRec} (h : k.state = .lockout ∧ k.accepted = .closed) (kept : Bool) :
    (k.restarted kept).state = .lockout := by
  unfold TrunkRec.restarted
  split
  · exact h.1
  · rw [h.2]
    rfl

/-- Taking a RELEASE leaves the network as it stands. -/
theorem State.takeOrder_releases_net {rs : List RegNo} (h : s.orders.queue = rs.map .release) : s.takeOrder.net = s.net := by
  cases hf : s.orders.inFlight with
  | some f => rw [State.takeOrder_none (.inl (by simp [hf]))]
  | none =>
    cases rs with
    | nil => rw [State.takeOrder_none (.inr h)]
    | cons r rs =>
      rw [State.takeOrder_eq hf h]
      rfl

/-! ### After the treatment of the registers -/

theorem State.restartTreated_same (s : State) (cause : RestartCause) : (s.restartTreated cause).net = s.net ∧
    (s.restartTreated cause).orders = { s.orders with queue := [] } ∧ (s.restartTreated cause).store = { s.store with snapshot := .idle } ∧
    (s.restartTreated cause).tariff = s.tariff ∧ (s.restartTreated cause).links = s.links ∧
    (s.restartTreated cause).restartLine = s.restartLine ∧ (s.restartTreated cause).draws = s.draws ∧
    (s.restartTreated cause).pending = s.pending := by
  have hkeep {τ : Type} (g : State → τ) (h : ∀ (u : State) r, g (u.restartReg r) = g u) :
      g (s.restartTreated cause) = g (s.restartBegun cause) := foldl_same State.restartReg g h _ _
  exact ⟨hkeep State.net fun u r => by rw [u.restartReg_rest], hkeep State.orders fun u r => by rw [u.restartReg_rest],
    hkeep State.store fun u r => by rw [u.restartReg_rest], hkeep State.tariff fun u r => by rw [u.restartReg_rest],
    hkeep State.links fun u r => by rw [u.restartReg_rest], hkeep State.restartLine fun u r => by rw [u.restartReg_rest],
    hkeep State.draws fun u r => by rw [u.restartReg_rest], hkeep State.pending fun u r => by rw [u.restartReg_rest]⟩

/-- The Attention Unit as the restart sets it first. -/
def State.restartBoard (s : State) (cause : RestartCause) : Attention := (s.restartBegun cause).att

theorem State.restartBegun_leaving (s : State) (cause : RestartCause) :
    Leaving (s.restartBoard cause) (s.restartBegun cause) (s.restartBegun cause) where
  line _ := .inl rfl
  trunk _ := .inl ⟨rfl, rfl⟩
  answers := rfl
  noticed := ⟨fun _ => tget_replicate _ _, .inl ⟨tget_replicate _ _, rfl⟩, .refl _⟩
  pending k hk := by
    have hclear : (s.restartBegun cause).subject .maintenance = SubjectRec.clear := tget_replicate _ _
    rw [State.isPending, hclear] at hk
    simp [SubjectRec.clear] at hk

section
variable (hs : ∀ q, s.sends q)
include hs

theorem State.restartTreated_leaving (cause : RestartCause) :
    Leaving (s.restartBoard cause) (s.restartBegun cause) (s.restartTreated cause) := by
  refine (restartRegs_induct (Q := fun _ t => Leaving (s.restartBoard cause) (s.restartBegun cause) t) (s := s.restartBegun cause) hs
    (s.restartBegun_leaving cause) ?_).2
  intro l r t hr ht hQ
  refine hQ.restartReg fun hrel htalk => ?_
  rw [ht.reg_of_not_mem hr] at hrel
  exact (CallRegister.kept_iff.2 (by simp [htalk])).2 hrel

theorem State.restartTreated_reg (cause : RestartCause) (r : RegNo) : (s.restartTreated cause).reg r = (s.reg r).restarted := by
  have h := (restartRegs_induct (Q := fun _ _ => True) (s := s.restartBegun cause) hs trivial fun _ _ _ _ _ _ => trivial).1.reg r
  exact h.trans (if_pos (List.mem_finRange r))

theorem State.restartTreated_talk (cause : RestartCause) (r : RegNo) :
    ((s.restartTreated cause).reg r).state = .talk ↔ ((s.restartBegun cause).reg r).state = .talk := by
  rw [State.restartTreated_reg hs, CallRegister.restarted_talk]
  rfl

/-! ### After the restart -/

theorem State.warmRestart_reg (cause : RestartCause) (r : RegNo) : (s.warmRestart cause).reg r = (s.reg r).restarted := by
  rw [State.warmRestart_eq, State.reg_congr (State.takeOrder_frame _).1, State.reg_congr (s.restartDone_others cause).1,
    State.restartTreated_reg hs]

omit hs in
theorem State.warmRestart_scan (s : State) (cause : RestartCause) :
    (s.warmRestart cause).scan = (s.restartTreated cause).restartTerminals.scan := by
  rw [State.warmRestart_eq, (State.takeOrder_frame _).2.1, (s.restartDone_frame cause).1]

theorem State.warmRestart_line (cause : RestartCause) (n : LineNo) :
    (s.warmRestart cause).line n = (s.line n).restarted (s.inTalk (.line n)) := by
  rw [State.line_congr (s.warmRestart_scan cause), State.restartTerminals_line,
    (State.restartTreated_leaving hs cause).restarted_line (State.restartTreated_talk hs cause)]
  rfl

theorem State.warmRestart_trunk (cause : RestartCause) (i : TrunkNo) :
    (s.warmRestart cause).trunk i = (s.trunk i).restarted (s.inTalk (.trunk i)) := by
  rw [State.trunk_congr (s.warmRestart_scan cause), State.restartTerminals_trunk,
    ((State.restartTreated_leaving hs cause).restarted_trunk (State.restartTreated_talk hs cause) i).1]
  rfl

omit hs in
theorem State.warmRestart_sig (s : State) (cause : RestartCause) :
    (s.warmRestart cause).sig = (s.restartOrdered cause).silence.sig := by
  rw [State.warmRestart_eq, (State.takeOrder_frame _).2.2.2.2.1, (s.restartDone_frame cause).2.1]

omit hs in
theorem State.warmRestart_units (s : State) (cause : RestartCause) :
    (s.warmRestart cause).sig.senders = (s.restartTreated cause).sig.senders ∧
    (s.warmRestart cause).sig.senderSignals = (s.restartTreated cause).sig.senderSignals ∧
    (s.warmRestart cause).sig.clearTimers = (s.restartTreated cause).restartTerminals.sig.clearTimers := by
  have hsilence := (s.restartOrdered cause).silence_silenced
  obtain ⟨-, -, -, -, hsig, -⟩ := (s.restartOrdered_regenerated cause).others
  have hterminals := (s.restartTreated cause).restartTerminals_sig
  rw [State.warmRestart_sig, hsilence.senders, hsilence.senderSignals, hsilence.clearTimers, hsig]
  refine ⟨?_, ?_, rfl⟩
  · rw [hterminals]
  · rw [hterminals]

theorem State.warmRestart_clearTimer (cause : RestartCause) (i : TrunkNo) : tget (s.warmRestart cause).sig.clearTimers i =
    if s.inTalk (.trunk i) then tget s.sig.clearTimers i else none := by
  rw [(s.warmRestart_units cause).2.2, State.restartTerminals_clearTimer,
    ((State.restartTreated_leaving hs cause).restarted_trunk (State.restartTreated_talk hs cause) i).2]
  rfl

/-! ### Notices -/

omit hs in
theorem State.restartTerminals_att (s : State) : ∃ u : State, u.att = s.att ∧ s.restartTerminals.att =
    if s.restartTerminals.scan.someLockout then (u.post .maintenance .lockout).att else u.att := by
  refine ⟨{ s with
    scan := { s.scan with
      lines := tmap (fun n l => l.restarted (s.inTalk (.line n))) s.scan.lines
      trunks := tmap (fun i k => k.restarted (s.inTalk (.trunk i))) s.scan.trunks
      queue := []
      deferred := [] }
    sig := { s.sig with clearTimers := tmap (fun i t => if s.inTalk (.trunk i) then t else none) s.sig.clearTimers } }, rfl, ?_⟩
  rw [State.restartTerminals_scan]
  unfold State.restartTerminals
  exact apply_ite State.att _ _ _

omit hs in
theorem State.warmRestart_att (s : State) (cause : RestartCause) : ∃ u : State,
    u.att = (s.restartTreated cause).restartTerminals.att ∧ (s.warmRestart cause).att = (u.post .maintenance .restarted).att := by
  refine ⟨(s.restartOrdered cause).silence, ?_, ?_⟩
  · obtain ⟨-, -, -, -, -, -, -, -, -, hatt, -⟩ := (s.restartOrdered cause).silence_silenced.frame
    obtain ⟨-, -, -, -, -, -, -, -, oatt, -⟩ := (s.restartOrdered_regenerated cause).others
    exact hatt.trans oatt
  · rw [State.warmRestart_eq, (State.takeOrder_frame _).2.2.2.2.2.2.2.2.1]
    rfl

theorem State.warmRestart_noticed (cause : RestartCause) : Noticed (s.restartBoard cause) (s.warmRestart cause) := by
  obtain ⟨u, hu, hatt⟩ := s.warmRestart_att cause
  obtain ⟨v, hv, hterminals⟩ := (s.restartTreated cause).restartTerminals_att
  have hnoticed := (State.restartTreated_leaving hs cause).noticed
  refine (Noticed.post (t := u) ?_ .restarted).congr hatt
  split at hterminals
  · exact ((hnoticed.congr hv).post .lockout).congr (hu.trans hterminals)
  · exact hnoticed.congr (hu.trans (hterminals.trans hv))

omit hs in
theorem State.warmRestart_isPending (s : State) (cause : RestartCause) (k : EventKind) :
    (s.warmRestart cause).isPending .maintenance k = ((s.restartTreated cause).isPending .maintenance k ||
      ((s.warmRestart cause).scan.someLockout && decide (k = .lockout)) || decide (k = .restarted)) := by
  obtain ⟨u, hu, hatt⟩ := s.warmRestart_att cause
  obtain ⟨v, hv, hterminals⟩ := (s.restartTreated cause).restartTerminals_att
  rw [State.isPending_congr hatt, State.post_isPending, State.isPending_congr (t := u) hu, State.warmRestart_scan]
  cases hlock : (s.restartTreated cause).restartTerminals.scan.someLockout with
  | true =>
    rw [hlock] at hterminals
    rw [State.isPending_congr (hterminals.trans (if_pos rfl)), State.post_isPending, State.isPending_congr hv]
    simp
  | false =>
    rw [hlock] at hterminals
    rw [State.isPending_congr (hterminals.trans ((if_neg Bool.false_ne_true).trans hv))]
    simp

/-- M's postings at a restart: RESTARTED, and LOCKOUT where a terminal stands in LOCKOUT after it. -/
theorem State.warmRestart_pending (cause : RestartCause) (k : EventKind) : (s.warmRestart cause).isPending .maintenance k = true ↔
    k = .restarted ∨ (k = .lockout ∧
      ((∃ n, ((s.warmRestart cause).line n).state = .lockout) ∨ ∃ i, ((s.warmRestart cause).trunk i).state = .lockout)) := by
  have hlocked (y : Terminal) (hy : (s.restartTreated cause).locked y) :
      (∃ n, ((s.warmRestart cause).line n).state = .lockout) ∨ ∃ i, ((s.warmRestart cause).trunk i).state = .lockout := by
    cases y with
    | line n =>
      refine .inl ⟨n, ?_⟩
      rw [State.line_congr (s.warmRestart_scan cause), State.restartTerminals_line]
      exact LineRec.restarted_locked hy _
    | trunk i =>
      refine .inr ⟨i, ?_⟩
      rw [State.trunk_congr (s.warmRestart_scan cause), State.restartTerminals_trunk]
      exact TrunkRec.restarted_locked hy _
  rw [State.warmRestart_isPending, Bool.or_eq_true, Bool.or_eq_true, Bool.and_eq_true, Scanner.someLockout_iff, decide_eq_true_eq,
    decide_eq_true_eq, or_comm]
  refine or_congr Iff.rfl ⟨?_, fun ⟨hk, hl⟩ => .inr ⟨hl, hk⟩⟩
  rintro (hk | ⟨hl, hk⟩)
  · obtain ⟨hk, y, hy⟩ := (State.restartTreated_leaving hs cause).pending k hk
    exact ⟨hk, hlocked y hy⟩
  · exact ⟨hk, hl⟩

/-! ### The network -/

omit hs in
theorem State.restartOrdered_from (s : State) (cause : RestartCause) : (s.restartTreated cause).restartTerminals.net = s.net ∧
    (s.restartTreated cause).restartTerminals.orders = { s.orders with queue := [] } ∧
    (s.restartTreated cause).restartTerminals.regs = (s.restartTreated cause).regs := by
  obtain ⟨hnet, horders, -⟩ := s.restartTreated_same cause
  obtain ⟨tregs, -, -, tnet, torders, -⟩ := (s.restartTreated cause).restartTerminals_frame
  exact ⟨tnet.trans hnet, torders.trans horders, tregs⟩

omit hs in
/-- The orders that stand when the first is taken are RELEASEs alone. -/
theorem State.restartDone_queue (s : State) (cause : RestartCause) : (s.restartDone cause).orders.queue =
    ((List.finRange 40).filter fun r => decide ((s.restartTreated cause).restartTerminals.rejoins r)).map .release := by
  rw [(s.restartDone_frame cause).2.2.2, (s.restartOrdered_regenerated cause).queue, (s.restartOrdered_from cause).2.1]
  exact List.nil_append _

omit hs in
theorem State.warmRestart_net (s : State) (cause : RestartCause) : (s.warmRestart cause).net = (s.restartOrdered cause).net := by
  have htaken : (s.restartDone cause).takeOrder.net = (s.restartDone cause).net :=
    State.takeOrder_releases_net (s.restartDone_queue cause)
  rw [State.warmRestart_eq, htaken, (s.restartDone_frame cause).2.2.1]

end

end Sys2Proof.Machine
end

section
/-! SUPPORT. What a warm restart keeps (R19, R39, R95, R110, R129, R187). -/

namespace Sys2Proof.Machine

variable {s : State} {cause : RestartCause}

theorem State.restartTerminals_lists (s : State) : s.restartTerminals.scan.queue = [] ∧ s.restartTerminals.scan.deferred = [] ∧
    s.restartTerminals.scan.answers = s.scan.answers := by
  rw [State.restartTerminals_scan]
  exact ⟨rfl, rfl, rfl⟩

theorem State.inTalk_of_role {r : RegNo} {y : Terminal} (hr : (s.reg r).state = .talk) (h : s.hasRole r y) : s.inTalk y = true :=
  State.inTalk_iff.2 ⟨r, hr, h⟩

theorem State.not_inTalk {y : Terminal} (h : ∀ r, (s.reg r).state = .talk → ¬s.hasRole r y) : s.inTalk y = false :=
  Bool.eq_false_iff.2 fun ht => by
    obtain ⟨r, hr, hrole⟩ := State.inTalk_iff.1 ht
    exact h r hr hrole

/-- Elements that were neither RESERVED nor HELD stand. -/
theorem State.warmRestart_elem (s : State) (cause : RestartCause) {e : ElemNo} (hr : s.elem e ≠ .reserved) (hh : s.elem e ≠ .held) :
    (s.warmRestart cause).elem e = s.elem e := by
  have hbefore : (s.restartTreated cause).restartTerminals.elem e = s.elem e := State.elem_congr (s.restartOrdered_from cause).1 e
  rw [State.elem_congr (s.warmRestart_net cause), (s.restartOrdered_regenerated cause).stands e, hbefore]
  rintro ⟨hstate, -⟩
  rw [hbefore] at hstate
  exact hstate.elim hr hh

theorem State.warmRestart_network (s : State) (cause : RestartCause) : (s.warmRestart cause).net.groups = s.net.groups ∧
    (s.warmRestart cause).net.huntPointer = s.net.huntPointer := by
  rw [s.warmRestart_net, (s.restartOrdered_regenerated cause).net, (s.restartOrdered_from cause).1]
  exact ⟨rfl, rfl⟩

/-- The blocks that stand, and those that the treatment of the registers leaves as they are after it. -/
theorem State.warmRestart_frame (s : State) (cause : RestartCause) : (s.warmRestart cause).tariff = s.tariff ∧
    (s.warmRestart cause).links = s.links ∧ (s.warmRestart cause).restartLine = s.restartLine ∧ (s.warmRestart cause).draws = s.draws ∧
    (s.warmRestart cause).pending = s.pending ∧ (s.warmRestart cause).trans = (s.restartTreated cause).trans ∧
    (s.warmRestart cause).tickets = (s.restartTreated cause).tickets ∧
    (s.warmRestart cause).receivers = (s.restartTreated cause).receivers := by
  obtain ⟨-, -, kreceivers, ktrans, -, ktariff, -, ktickets, -, klinks, kline, kdraws, kpending⟩ := (s.restartDone cause).takeOrder_frame
  obtain ⟨-, oreceivers, otrans, otariff, -, otickets, olinks, oline, odraws, opending⟩ := s.restartDone_others cause
  obtain ⟨-, -, -, ttariff, tlinks, tline, tdraws, tpending⟩ := s.restartTreated_same cause
  rw [State.warmRestart_eq]
  exact ⟨ktariff.trans (otariff.trans ttariff), klinks.trans (olinks.trans tlinks), kline.trans (oline.trans tline),
    kdraws.trans (odraws.trans tdraws), kpending.trans (opending.trans tpending), ktrans.trans otrans, ktickets.trans otickets,
    kreceivers.trans oreceivers⟩

theorem State.warmRestart_quiet (s : State) (cause : RestartCause) :
    (∀ n, tget (s.warmRestart cause).sig.lineSignals n = ⟨false, none, none⟩) ∧ ∀ i, tget (s.warmRestart cause).sig.trunkTones i = none := by
  rw [State.warmRestart_sig]
  exact ⟨(s.restartOrdered cause).silence_line, (s.restartOrdered cause).silence_trunk⟩

section
variable (hs : ∀ q, s.sends q)
include hs

theorem State.warmRestart_lists (cause : RestartCause) : (s.warmRestart cause).scan.queue = [] ∧
    (s.warmRestart cause).scan.deferred = [] ∧ (s.warmRestart cause).scan.answers = s.scan.answers := by
  obtain ⟨hqueue, hdeferred, hanswers⟩ := (s.restartTreated cause).restartTerminals_lists
  rw [s.warmRestart_scan]
  exact ⟨hqueue, hdeferred, hanswers.trans (State.restartTreated_leaving hs cause).answers⟩

theorem State.warmRestart_tickets (cause : RestartCause) : (s.warmRestart cause).tickets = { s.tickets with
    reserved := s.tickets.reserved - ((List.finRange 40).filter fun r => (s.reg r).returnsPlace).length } := by
  obtain ⟨-, -, -, -, -, -, htickets, -⟩ := s.warmRestart_frame cause
  exact htickets.trans (restartRegs_tickets (s := s.restartBegun cause) hs)

theorem State.restartTreated_trans (cause : RestartCause) : (s.restartTreated cause).trans = { s.trans with
    routes := (s.restartTreated cause).trans.routes } := by
  unfold State.restartTreated
  exact restartRegs_trans (s := s.restartBegun cause) hs

theorem State.warmRestart_trans (cause : RestartCause) : (s.warmRestart cause).trans = { s.trans with
    routes := (s.warmRestart cause).trans.routes } := by
  obtain ⟨-, -, -, -, -, htrans, -⟩ := s.warmRestart_frame cause
  rw [htrans]
  exact State.restartTreated_trans hs cause

theorem State.warmRestart_route (cause : RestartCause) (v : RouteNo) : (s.warmRestart cause).route v = { s.route v with
    refCount := (s.route v).refCount - ((List.finRange 40).filter fun r =>
      decide ((s.reg r).frees ∧ (s.reg r).route = some v)).length } := by
  obtain ⟨-, -, -, -, -, htrans, -⟩ := s.warmRestart_frame cause
  exact (State.route_congr htrans v).trans (restartRegs_route (s := s.restartBegun cause) hs v)

end

/-- A subject M with a notice pending stands in the Attention Queue, alone. -/
theorem Noticed.queued {a : Attention} {t : State} (h : Noticed a t) {k : EventKind} (hk : t.isPending .maintenance k = true) :
    t.handler .maintenance = none ∧ t.att.queue = [.maintenance] := by
  obtain ⟨hclear, -⟩ | ⟨p, hsubject, hqueue⟩ := h.maintenance
  · rw [State.isPending, hclear] at hk
    simp [SubjectRec.clear] at hk
  · exact ⟨by rw [State.handler, hsubject]; rfl, hqueue⟩

/-- Settles O56. -/
theorem warmRestartKeepsTheCallsInTalk : Obligations.WarmRestartKeepsTheCallsInTalk := by
  intro s cause _ hs
  have hreg := State.warmRestart_reg hs cause
  have hline := State.warmRestart_line hs cause
  have htrunk := State.warmRestart_trunk hs cause
  have hclear := State.warmRestart_clearTimer hs cause
  have hnoticed := State.warmRestart_noticed hs cause
  have hpending := (State.warmRestart_pending hs cause .restarted).2 (.inl rfl)
  have hlists := State.warmRestart_lists hs cause
  have helem (e : ElemNo) := s.warmRestart_elem cause (e := e)
  have hnetwork := s.warmRestart_network cause
  have hquiet := s.warmRestart_quiet cause
  have hstore := s.warmRestart_store cause
  have htickets := State.warmRestart_tickets hs cause
  have htrans := State.warmRestart_trans hs cause
  have hroute := State.warmRestart_route hs cause
  have hframe := s.warmRestart_frame cause
  generalize s.warmRestart cause = t at *
  obtain ⟨hportA, hportB, htimeout, hrestart⟩ := hnoticed.board
  refine ⟨fun r h => ?_, fun r h hne => ?_, fun r h => ?_, fun n h => ?_, fun n h hroles => ?_, fun n r hr h => ?_, fun i h => ?_,
    fun i h hroles => ⟨?_, ?_⟩, fun i r hr h => ⟨?_, ?_⟩, hlists.1, hlists.2.1, hlists.2.2, hnoticed.register,
    (hnoticed.queued hpending).1, hpending, (hnoticed.queued hpending).2, hportA, hportB, htimeout, hrestart, fun e hr hh => helem e hr hh,
    hnetwork.1, hnetwork.2, hquiet.1, hquiet.2, hstore, ?_, ?_, ?_, ?_, ?_, fun v => ?_, ?_⟩
  · rw [hreg, CallRegister.restarted_kept (by rcases h with h | h <;> simp [h])]
  · rw [hreg, CallRegister.restarted_frees (h.imp_left fun h => by simpa [hne] using h)]
  · rw [hreg, CallRegister.restarted_releases h]
    exact ⟨rfl, rfl, rfl, rfl, rfl, rfl⟩
  · rw [hline, LineRec.restarted_outOfService h]
  · have hout : s.inTalk (.line n) = false := State.not_inTalk fun r hr hrole => by
      obtain ⟨hcalling, hcalled⟩ := hroles r hr
      exact hrole.elim (Bool.eq_false_iff.1 hcalling) (Bool.eq_false_iff.1 hcalled)
    rw [hline, hout, LineRec.restarted_out h]
  · rw [hline, State.inTalk_of_role (y := .line n) hr h, LineRec.restarted_kept]
  · rw [htrunk, TrunkRec.restarted_outOfService h]
  · rw [htrunk, State.not_inTalk (y := .trunk i) fun r hr => Bool.eq_false_iff.1 (hroles r hr), TrunkRec.restarted_out h]
  · rw [hclear, State.not_inTalk (y := .trunk i) fun r hr => Bool.eq_false_iff.1 (hroles r hr)]
    rfl
  · rw [htrunk, State.inTalk_of_role (y := .trunk i) hr h, TrunkRec.restarted_kept]
  · rw [hclear, State.inTalk_of_role (y := .trunk i) hr h]
    rfl
  · rw [htickets]
  · rw [htickets]
  · rw [htrans]
  · rw [htrans]
  · rw [htrans]
  · rw [hroute]
  · obtain ⟨ftariff, flinks, fline, fdraws, fpending, -⟩ := hframe
    exact State.eq_of_fields rfl rfl rfl rfl rfl rfl rfl ftariff rfl rfl rfl flinks fline fdraws fpending

end Sys2Proof.Machine
end

section
/-! SUPPORT. What a warm restart gives back (R19, R56, R95, R110, R129). -/

namespace Sys2Proof.Machine

variable {s : State} {cause : RestartCause}

/-! ### The records that end -/

theorem CallRegister.restarted_free_iff {g : CallRegister} (h : g.state ≠ .free) : g.restarted.state = .free ↔ g.frees := by
  by_cases hf : g.frees
  · rw [CallRegister.restarted_frees hf]
    exact ⟨fun _ => hf, fun _ => rfl⟩
  · by_cases hr : g.releases
    · rw [CallRegister.restarted_releases hr]
      exact ⟨(fun h => nomatch h), fun h => absurd h hf⟩
    · rw [CallRegister.restarted_kept (CallRegister.kept_iff.1 ⟨hf, hr⟩)]
      exact ⟨fun hfree => absurd hfree h, fun h => absurd h hf⟩

theorem CallRegister.frees_not_free {g : CallRegister} (h : g.frees) : g.state ≠ .free := fun hs =>
  (CallRegister.kept_iff.2 (by simp [hs])).1 h

/-- A register that goes to CLEARING, or stands in it, keeps its path. -/
theorem CallRegister.restarted_path {g : CallRegister} (h : g.restarted.state = .clearing) : g.restarted.path = g.path := by
  by_cases hf : g.frees
  · rw [CallRegister.restarted_frees hf] at h
    cases h
  · by_cases hr : g.releases
    · rw [CallRegister.restarted_releases hr]
    · rw [CallRegister.restarted_kept (CallRegister.kept_iff.1 ⟨hf, hr⟩)]

/-! ### Orders -/

/-- The register clears after the restart, with the path it had. -/
abbrev State.clearsAfter (s : State) (r : RegNo) : Prop := (s.reg r).restarted.state = .clearing ∧ (s.reg r).path.elements ≠ []

/-- The register's own order is in flight. -/
abbrev State.ownInFlight (s : State) (r : RegNo) : Prop :=
  ∃ f, s.orders.inFlight = some f ∧ (f.order = .operate r ∨ f.order = .release r)

theorem State.not_ownInFlight_iff {r : RegNo} : ¬s.ownInFlight r ↔ s.flying (.operate r) = false ∧ s.flying (.release r) = false := by
  rw [← Bool.not_eq_true, ← Bool.not_eq_true, State.flying_iff, State.flying_iff, ← not_or]
  refine not_congr ⟨?_, ?_⟩
  · rintro ⟨f, hf, ho | ho⟩
    · exact .inl ⟨f, hf, ho⟩
    · exact .inr ⟨f, hf, ho⟩
  · rintro (⟨f, hf, ho⟩ | ⟨f, hf, ho⟩)
    · exact ⟨f, hf, .inl ho⟩
    · exact ⟨f, hf, .inr ho⟩

section
variable (hs : ∀ q, s.sends q)
include hs

theorem State.restartTerminals_reg (cause : RestartCause) (r : RegNo) :
    (s.restartTreated cause).restartTerminals.reg r = (s.reg r).restarted := by
  rw [State.reg_congr (s.restartOrdered_from cause).2.2, State.restartTreated_reg hs]

theorem State.restart_clears_iff (cause : RestartCause) (r : RegNo) :
    (s.restartTreated cause).restartTerminals.clears r ↔ s.clearsAfter r := by
  rw [State.clears, State.restartTerminals_reg hs]
  refine and_congr_right fun h => ?_
  rw [CallRegister.restarted_path h]

omit hs in
theorem State.restart_flying (s : State) (cause : RestartCause) (o : Order) :
    (s.restartTreated cause).restartTerminals.flying o = s.flying o := by
  rw [State.flying, (s.restartOrdered_from cause).2.1]
  rfl

theorem State.restart_rejoins_iff (cause : RestartCause) (r : RegNo) :
    (s.restartTreated cause).restartTerminals.rejoins r ↔ s.clearsAfter r ∧ ¬s.ownInFlight r := by
  rw [State.rejoins, State.restart_clears_iff hs, State.restart_flying, State.restart_flying, State.not_ownInFlight_iff]

/-- The elements taken back for RELEASEs. -/
theorem State.restart_reclaims_iff (cause : RestartCause) (e : ElemNo) :
    (s.restartTreated cause).restartTerminals.reclaims (List.finRange 40) e ↔
      (s.elem e = .reserved ∨ s.elem e = .held) ∧ ∃ r, (s.clearsAfter r ∧ ¬s.ownInFlight r) ∧ e ∈ (s.reg r).path.elements := by
  rw [State.reclaims, State.elem_congr (s.restartOrdered_from cause).1]
  refine and_congr_right fun _ => exists_congr fun r => ?_
  rw [State.restart_rejoins_iff hs, State.restartTerminals_reg hs]
  refine ⟨fun ⟨_, hj, he⟩ => ⟨hj, ?_⟩, fun ⟨hj, he⟩ => ⟨List.mem_finRange r, hj, ?_⟩⟩
  · rwa [CallRegister.restarted_path hj.1.1] at he
  · rwa [CallRegister.restarted_path hj.1.1]

theorem State.warmRestart_releasing (cause : RestartCause) {e : ElemNo} (he : s.elem e = .reserved ∨ s.elem e = .held) {r : RegNo}
    (hr : s.clearsAfter r) (hown : ¬s.ownInFlight r) (hpath : e ∈ (s.reg r).path.elements) :
    (s.warmRestart cause).elem e = .releasing := by
  rw [State.elem_congr (s.warmRestart_net cause)]
  exact (s.restartOrdered_regenerated cause).releasing e ((State.restart_reclaims_iff hs cause e).2 ⟨he, r, ⟨hr, hown⟩, hpath⟩)

theorem State.warmRestart_stands (cause : RestartCause) {e : ElemNo}
    (h : (∀ r, s.clearsAfter r → ¬s.ownInFlight r → e ∉ (s.reg r).path.elements) ∨ (s.elem e ≠ .reserved ∧ s.elem e ≠ .held)) :
    (s.warmRestart cause).elem e = s.elem e := by
  rw [State.elem_congr (s.warmRestart_net cause), (s.restartOrdered_regenerated cause).stands e,
    State.elem_congr (s.restartOrdered_from cause).1]
  intro hreclaims
  obtain ⟨hstate, r, ⟨hr, hown⟩, hpath⟩ := (State.restart_reclaims_iff hs cause e).1 hreclaims
  rcases h with h | ⟨hreserved, hheld⟩
  · exact h r hr hown hpath
  · exact hstate.elim hreserved hheld

/-- The registers whose RELEASE is regenerated, in ascending order. -/
def State.rejoining (s : State) (cause : RestartCause) : List RegNo :=
  (List.finRange 40).filter fun r => decide ((s.restartTreated cause).restartTerminals.rejoins r)

omit hs in
theorem State.rejoining_sorted (s : State) (cause : RestartCause) : (s.rejoining cause).Pairwise (· < ·) :=
  (List.pairwise_lt_finRange 40).filter _

theorem State.mem_rejoining (cause : RestartCause) (r : RegNo) : r ∈ s.rejoining cause ↔ s.clearsAfter r ∧ ¬s.ownInFlight r := by
  rw [State.rejoining, List.mem_filter, decide_eq_true_eq, State.restart_rejoins_iff hs]
  exact and_iff_right (List.mem_finRange r)

omit hs in
theorem State.restartDone_orders (s : State) (cause : RestartCause) : (s.restartDone cause).orders = { s.orders with
    queue := (s.rejoining cause).map .release, inFlight := (s.restartDone cause).orders.inFlight } := by
  have hqueue : (s.restartDone cause).orders.queue = (s.rejoining cause).map .release := s.restartDone_queue cause
  have horders := (s.restartOrdered_regenerated cause).orders
  rw [(s.restartOrdered_from cause).2.1, ← (s.restartDone_frame cause).2.2.2] at horders
  rw [← hqueue]
  exact horders

omit hs in
theorem State.restartDone_idle (cause : RestartCause) (hf : s.orders.inFlight = none) : (s.restartDone cause).orders.inFlight = none := by
  rw [(s.restartDone_frame cause).2.2.2]
  exact (s.restartOrdered_regenerated cause).idle (by rw [(s.restartOrdered_from cause).2.1, hf])

theorem State.restartDone_inFlight (cause : RestartCause) {f : InFlight} (hf : s.orders.inFlight = some f) : ∃ c : Bool,
    (c = true ↔ f.cancelled = true ∨ ∃ r, f.order = .operate r ∧ s.clearsAfter r) ∧
      (s.restartDone cause).orders.inFlight = some { f with cancelled := c } := by
  obtain ⟨c, hc, hflying⟩ := (s.restartOrdered_regenerated cause).flying f (by rw [(s.restartOrdered_from cause).2.1, hf])
  refine ⟨c, hc.trans (or_congr Iff.rfl (exists_congr fun r => ?_)), by rw [(s.restartDone_frame cause).2.2.2, hflying]⟩
  rw [State.restart_clears_iff hs]
  exact and_iff_right (List.mem_finRange r)

theorem State.warmRestart_receiver
    (hheld : ∀ k a, s.receiver k = .attached a → (s.reg a.register).state = .dialing ∧ (s.reg a.register).receiver = some k)
    (hholds : ∀ r k, (s.reg r).receiver = some k → ∃ a, s.receiver k = .attached a ∧ a.register = r) (cause : RestartCause)
    (k : ReceiverNo) :
    (∀ a, s.receiver k = .attached a → (s.warmRestart cause).receiver k = if a.blockAfterUse then .blocked else .free) ∧
    ((∀ a, s.receiver k ≠ .attached a) → (s.warmRestart cause).receiver k = s.receiver k) := by
  obtain ⟨-, -, -, -, -, -, -, hreceivers⟩ := s.warmRestart_frame cause
  rw [State.receiver_congr hreceivers]
  exact restartRegs_receiver (s := s.restartBegun cause) hs hheld hholds k

theorem State.warmRestart_sender
    (hbusy : ∀ k b, s.sender k = .busy b → (s.reg b.register).state = .sending ∧ (s.reg b.register).sender = some k)
    (cause : RestartCause) (k : SenderNo) :
    (∀ b, s.sender k = .busy b → (s.warmRestart cause).sender k = (if b.blockAfterUse then .blocked else .free) ∧
      tget (s.warmRestart cause).sig.senderSignals k = ⟨none, .closed⟩) ∧
    ((∀ b, s.sender k ≠ .busy b) → (s.warmRestart cause).sender k = s.sender k ∧
      tget (s.warmRestart cause).sig.senderSignals k = tget s.sig.senderSignals k) := by
  obtain ⟨hsenders, hsignals, -⟩ := s.warmRestart_units cause
  have hsender : (s.warmRestart cause).sender k = (s.restartTreated cause).sender k := congrArg (tget · k) hsenders
  rw [hsender, hsignals]
  unfold State.restartTreated
  exact restartRegs_sender (s := s.restartBegun cause) hs hbusy k

/-- The order unit when no order is in flight: the first RELEASE is taken at once. -/
theorem State.warmRestart_orders_taken (cause : RestartCause) (hf : s.orders.inFlight = none) {r : RegNo} {rest : List RegNo}
    (hr : s.rejoining cause = r :: rest) : (s.warmRestart cause).orders = { s.orders with
      queue := rest.map .release
      tag := s.orders.tag + 1
      inFlight := some ⟨.release r, s.orders.tag + 1, (s.reg r).path.elements, 0, false⟩ } := by
  have hidle := State.restartDone_idle cause hf
  have horders := s.restartDone_orders cause
  have hqueue : (s.restartDone cause).orders.queue = .release r :: rest.map .release := by rw [horders, hr]; rfl
  have htag : (s.restartDone cause).orders.tag = s.orders.tag := by rw [horders]
  have hclears := ((State.mem_rejoining hs cause r).1 (by rw [hr]; exact List.mem_cons_self)).1.1
  have hpath : ((s.restartDone cause).reg r).path = (s.reg r).path := by
    rw [State.reg_congr (s.restartDone_others cause).1, State.restartTreated_reg hs, CallRegister.restarted_path hclears]
  rw [State.warmRestart_eq, State.takeOrder_eq hidle hqueue, State.orderElements, hpath, htag, horders]

/-- With an order in flight none is taken, and an OPERATE of a register that clears is marked cancelled. -/
theorem State.warmRestart_orders_flying (cause : RestartCause) {f : InFlight} (hf : s.orders.inFlight = some f) : ∃ c : Bool,
    (c = true ↔ f.cancelled = true ∨ ∃ r, f.order = .operate r ∧ s.clearsAfter r) ∧ (s.warmRestart cause).orders = { s.orders with
      queue := (s.rejoining cause).map .release, inFlight := some { f with cancelled := c } } := by
  obtain ⟨c, hc, hflying⟩ := State.restartDone_inFlight hs cause hf
  refine ⟨c, hc, ?_⟩
  rw [State.warmRestart_eq, State.takeOrder_none (.inl (by rw [hflying]; simp)), ← hflying]
  exact s.restartDone_orders cause

omit hs in
/-- With no order in flight and none regenerated the order unit is idle. -/
theorem State.warmRestart_orders_idle (cause : RestartCause) (hf : s.orders.inFlight = none) (hr : s.rejoining cause = []) :
    (s.warmRestart cause).orders = { s.orders with queue := [] } := by
  have hidle := State.restartDone_idle cause hf
  have horders := s.restartDone_orders cause
  rw [hr] at horders
  have hqueue : (s.restartDone cause).orders.queue = [] := by rw [horders]; rfl
  rw [State.warmRestart_eq, State.takeOrder_none (.inr hqueue), horders, hidle, ← hf]
  rfl

end

/-- Settles O57. -/
theorem warmRestartReturnsWhatItEnds : Obligations.WarmRestartReturnsWhatItEnds := by
  intro s cause hbusy hs hheld hholds
  have hreg := State.warmRestart_reg hs cause
  have hreleasing (e : ElemNo) := State.warmRestart_releasing hs cause (e := e)
  have hstands (e : ElemNo) := State.warmRestart_stands hs cause (e := e)
  have hflying (f : InFlight) := State.warmRestart_orders_flying hs cause (f := f)
  have hidle := State.warmRestart_orders_idle (s := s) cause
  have htaken (r : RegNo) (rest : List RegNo) := State.warmRestart_orders_taken hs cause (r := r) (rest := rest)
  have hreceiver := State.warmRestart_receiver hs hheld hholds cause
  have hsender := State.warmRestart_sender hs hbusy cause
  have htickets := State.warmRestart_tickets hs cause
  have hroute := State.warmRestart_route hs cause
  have hpending := State.warmRestart_pending hs cause
  generalize s.warmRestart cause = t at *
  intro t' path clears own freed
  have hclears (r : RegNo) : clears r ↔ s.clearsAfter r := by
    change (t.reg r).state = .clearing ∧ _ ↔ _
    rw [hreg]
  have hfreed (r : RegNo) : freed r ↔ (s.reg r).frees := by
    change (s.reg r).state ≠ .free ∧ (t.reg r).state = .free ↔ _
    rw [hreg]
    exact ⟨fun ⟨hne, h⟩ => (CallRegister.restarted_free_iff hne).1 h, fun h =>
      have hne := CallRegister.frees_not_free h
      ⟨hne, (CallRegister.restarted_free_iff hne).2 h⟩⟩
  have hrejoins (r : RegNo) : r ∈ s.rejoining cause ↔ clears r ∧ ¬own r := by
    rw [State.mem_rejoining hs, hclears]
  refine ⟨fun r _ e _ hother => ?_, fun r e hr hown he hstate => ?_, fun e h => ?_,
    ⟨s.rejoining cause, s.rejoining_sorted cause, hrejoins, fun f hf => ?_, hidle, fun r rest hf hr => htaken r rest hf hr⟩,
    fun k => ⟨(hreceiver k).1, fun h => (hreceiver k).2 fun a ha => ?_⟩,
    fun k => ⟨(hsender k).1, fun h => (hsender k).2 fun b hb => ?_⟩, htickets,
    fun v => ⟨_, ?_, fun r => ?_, hroute v⟩, ?_, fun k hrestarted hlockout => ?_⟩
  · exact hstands e (.inl fun q hq _ => hother q ((hclears q).2 hq))
  · exact hreleasing e hstate ((hclears r).1 hr) hown he
  · exact hstands e (h.imp_left fun h r hr hown => h r ((hclears r).2 hr) hown)
  · obtain ⟨c, hc, horders⟩ := hflying f hf
    refine ⟨c, hc.trans (or_congr Iff.rfl (exists_congr fun r => ?_)), horders⟩
    rw [hclears]
  · rw [ha] at h
    exact h.elim (fun h => nomatch h) fun h => nomatch h
  · rw [hb] at h
    exact h.elim (fun h => nomatch h) fun h => nomatch h
  · exact (List.nodup_finRange 40).filter _
  · rw [List.mem_filter, decide_eq_true_eq, hfreed]
    exact and_iff_right (List.mem_finRange r)
  · exact (hpending .lockout).trans ⟨fun h => (h.resolve_left fun h => nomatch h).2, fun h => .inr ⟨rfl, h⟩⟩
  · refine Bool.eq_false_iff.2 fun h => ?_
    obtain h | ⟨h, -⟩ := (hpending k).1 h
    · exact hrestarted h
    · exact hlockout h

end Sys2Proof.Machine
end
